-- ==== Sys2Proof/Word.lean ====
section
/-! DEFINITION. The word types of the device (00 R5) and the field groups of an instruction word (13 R377 to R380):
plain data, with the plainest arithmetic only. Everything a test could show wrong stands in Decode.lean and Machine/. -/
namespace Sys2Proof

/-- A byte of memory, the smallest addressable unit (R5). -/
abbrev Byte := BitVec 8
/-- A 64-bit word: scalar registers, addresses, handles, management registers (R11). -/
abbrev Word := BitVec 64
/-- One lane of a vector register, or an instruction word of 32 bits (R11, R377). -/
abbrev Half := BitVec 32
/-- One bit per lane of a course (R11). -/
abbrev LaneMask := BitVec 32

/-- A finite table: pairs of key and value with strictly rising keys. -/
abbrev FMap (α : Type) := List (Nat × α)

/-- The fields of an X or XL form (R379), each at its own width. MAJ, MIN and LEN are named by the constructor of
`Instr`; an SL or XL literal is an argument of its own. -/
structure XFields where
  sch  : BitVec 4   := 0
  vd   : BitVec 8   := 0
  nwb  : BitVec 1   := 0
  sat  : BitVec 1   := 0
  rm   : BitVec 2   := 0
  sa   : BitVec 8   := 0
  sb   : BitVec 8   := 0
  sc   : BitVec 8   := 0
  km   : BitVec 3   := 0
  kz   : BitVec 1   := 0
  type : BitVec 4   := 0
  dist : BitVec 3   := 0
  wait : BitVec 12  := 0
  setf : BitVec 4   := 0
  ext  : BitVec 9   := 0
  hint : BitVec 4   := 0
  deriving DecidableEq, Repr

/-- The scalar variant of an S or SL word 0 (R378). -/
structure SScalar where
  sch : BitVec 4 := 0
  sd  : BitVec 6 := 0
  ss  : BitVec 6 := 0
  imm : BitVec 8 := 0
  deriving DecidableEq, Repr

/-- The vector destructive variant of an S word 0 (R378); MIN is named by the constructor. -/
structure SVec where
  sch : BitVec 4 := 0
  vd  : BitVec 8 := 0
  vs  : BitVec 8 := 0
  deriving DecidableEq, Repr

/-- The branch variant of an S word 0 (R378). -/
structure SBranch where
  sch : BitVec 4  := 0
  k   : BitVec 3  := 0
  neg : BitVec 1  := 0
  off : BitVec 16 := 0
  deriving DecidableEq, Repr

/-- Word 1 of an X form read as one 32-bit layout (R418, R431, R522). -/
def XFields.w1 (x : XFields) : Half := x.type ++ x.kz ++ x.km ++ x.sc ++ x.sb ++ x.sa

end Sys2Proof
end

