-- ==== Sys2Proof/Payload.lean ====
section
/-! DEFINITION. The data that an event of the table carries: what a frame, a message, a packet, a flit or a fabric
request holds when it reaches the module. Layouts inside a body are read by the meanings, byte by byte. -/
namespace Sys2Proof

/-- A function of the module that comes up on its own (01 R30). -/
inductive Func where
  | mgmt
  | hostPort
  | die (n : Nat)
  | face (n : Nat)
  | bench (n : Nat)
  | gliron (n : Nat) (peerMod : BitVec 12) (peerPort : BitVec 3)
  deriving DecidableEq, Repr

/-- A management request after its header (03 R69). `session` is the SPDM session that carried it, none when it
travelled plain; `short` says that the payload held fewer than 16 + LEN bytes. -/
structure MgmtFrame where
  src     : BitVec 48 := 0
  ver     : BitVec 8 := 1
  opc     : BitVec 8 := 0
  tag     : BitVec 32 := 0
  body    : List Byte := []
  short   : Bool := false
  session : Option Nat := none
  deriving DecidableEq, Repr

/-- A command message as a SEND delivered it (04 R96). `qpn` is the module queue pair that received it and `sendLen`
the length of the SEND. -/
structure Cmd where
  qpn     : Nat := 0x100
  ver     : BitVec 8 := 3
  opc     : BitVec 8 := 0
  flags   : BitVec 16 := 0
  tag     : BitVec 32 := 0
  len     : Nat := 0
  params  : List Byte := []
  sendLen : Nat := 16
  deriving DecidableEq, Repr

/-- A RoCEv2 request packet (02 R36 to R39): of a message of several packets, each with its own part and address. -/
structure RocePkt where
  qpn  : Nat
  psn  : BitVec 24 := 0
  va   : Word := 0
  rkey : Half := 0
  len  : Nat := 0
  data : List Byte := []
  imm  : Option Half := none
  ecn  : Bool := false
  deriving DecidableEq, Repr

/-- What a fabric request asks its target to do (02 R60; 17 R474, R478; 18 R516, R520 to R525; 22 R536). -/
inductive FabOp where
  | ratom (op type : Nat) (evm : Bool) (pc addr b c : Word)
  | bankLoad (bench cell size : Nat) (offs : List (Nat × Nat))
  /-- with the PC of its PSTR (11 R327) -/
  | bankStore (pc : Word) (bench cell size : Nat) (vals : List (Nat × Nat × Word))
  | copyRead (addr : Word) (len : Nat)
  | copyWrite (addr : Word) (data : List Byte) (scope : Nat)
  | enq (handle : Word) (record : List Byte)
  | qstat (handle : Word) (sel : Nat)
  | pkrd (handle : Word) (off : Nat)
  | pkwr (handle : Word) (off : Nat) (val : Word)
  | pkvget (handle : Word) (file rn : Nat) (lanes : LaneMask)
  | pkvset (handle : Word) (file rn : Nat) (lanes : LaneMask) (vals : List (Nat × Half)) (sval : Word)
  | pkact (handle : Word) (act : Nat)
  | faultEnq (queue record : Word) (args : List Word) (remaining : Option Nat) (passed : Bool)
  | notice (record : Word) (what status : Nat)
  deriving DecidableEq, Repr

/-- A fabric request as it arrives on a port (02 R44): its remaining turns, lifetime, requester and transaction. -/
structure FabReq where
  vc     : Nat := 0
  /-- dateline class (02 R45) -/
  cls    : Bool := false
  turns  : List Nat := []
  life   : Nat := 0
  srcMod : BitVec 12 := 0
  srcDie : Nat := 0
  rvd    : Nat := 0
  tx     : Nat := 0
  tagged : Option (BitVec 20) := none
  retry  : Bool := false
  taken  : List Nat := []
  op     : FabOp
  /-- while it is at this module: the tick of its arrival (02 R56), the virtual device that its peering entry gave then (R66), and
  whether it has been tried and waits here for a cell group -/
  came   : Option Nat := none
  lvd    : Option (Option Nat) := none
  waits  : Bool := false
  deriving DecidableEq, Repr

/-- The outcome a response carries (02 R51, R55, R61; 06 R171, R174). -/
inductive FabStatus where
  | ok | pageMiss | prot | poison | routeDead | refused | notFound | held
  deriving DecidableEq, Repr

/-- A fabric response (02 R52). `turns` are the turns still to take back to the requester. -/
structure FabResp where
  tx     : Nat
  /-- the requester's die (SRC [13:12]), and its virtual device (TAG [5:0]) -/
  die    : Nat := 0
  rvd    : Nat := 0
  dst    : BitVec 12 := 0
  /-- its virtual channel (02 R45) -/
  vc     : Nat := 1
  turns  : List Nat := []
  status : FabStatus := .ok
  addr   : Word := 0
  /-- the lanes that were not performed -/
  mask   : LaneMask := 0
  data   : List Word := []
  /-- the tick at which this module took it from the link -/
  came   : Option Nat := none
  deriving DecidableEq, Repr

/-- A flit as the link layer sees it (02 R44): the last flit of a transaction carries the request or the response, the flits
before it are its data. `crc` is the CRC as it was received; none is that of bytes 0 to 247. [DESIGN CHOICE, log 16] -/
structure Flit where
  kind   : BitVec 8 := 0
  vc     : BitVec 2 := 0
  cls    : Bool := false
  last   : Bool := true
  seq    : BitVec 12 := 0
  ack    : BitVec 12 := 0
  credit : BitVec 16 := 0
  /-- bit 15 of ACK: a NAK -/
  nak    : Bool := false
  crc    : Option Word := none
  req    : Option FabReq := none
  resp   : Option FabResp := none
  deriving DecidableEq, Repr

/-- Who consumed uncorrectable data, and at which address (12 R352). -/
inductive Consumer where
  | course (c : Nat)
  | node (group idx : Nat)
  | segment (s : Nat)
  | group (g : Nat)
  deriving DecidableEq, Repr

/-- What a debugger asks for in a session of level Invasive (03 R88): registers of a halted course by file (as PKVGET numbers them), a
parked record, or memory of the virtual device. -/
inductive DbgOp where
  | readReg (file rn lane : Nat)
  | writeReg (file rn lane : Nat) (val : Word)
  | readMem (va len : Nat)
  | writeMem (va : Nat) (data : List Byte)
  | readRec (handle : Word) (off : Nat)
  | writeRec (handle : Word) (off : Nat) (val : Word)
  deriving DecidableEq, Repr

/-- The data of an event. Which form an event takes is said at its constructor in Syntax.lean. -/
inductive EvArg where
  | none
  | nat (a : Nat) (b : Nat) (c : Nat)
  | words (a b : Word)
  | func (f : Func)
  | frame (f : MgmtFrame)
  | cmd (c : Cmd)
  | pkt (p : RocePkt)
  | flit (port : Nat) (f : Flit)
  | req (port : Nat) (r : FabReq)
  | resp (port : Nat) (r : FabResp)
  | consumer (who : Consumer) (cause : Nat) (addr : Word)
  | course (course pend lane : Nat) (sector : Word)
  | notice (record : Word) (what status : Nat)
  /-- a debugger's access: session, course, and what it asks for -/
  | debug (session course : Nat) (op : DbgOp)
  /-- the loader of a device has placed a code object: address, length, and the stepping of its version note (13 R396, R397) -/
  | object (vd va len stepping : Nat)
  deriving DecidableEq, Repr

end Sys2Proof
end

