-- ==== Sys2Proof/Syntax.lean ====
section
/-! DEFINITION. The syntax of the machine: one constructor for each row of spec/opcode_table.json. The instructions of
the instruction set come first, in the table's order, each with the fields of its words (R377 to R380); the events of
the module come after them, in the table's order. An event's data (a frame, a message, a place) is the event argument
that State latches (Payload.lean, `EvArg`). -/
namespace Sys2Proof

/-- One step of the module: an instruction of a course, or an event of the module (95_what_each_step_holds). -/
inductive Instr where
  /-- NOP_S (R412). -/
  | nopS (sch : BitVec 4) (z : BitVec 20)
  /-- NOP_X (R412). -/
  | nopX (x : XFields)
  /-- SADD_S (R423). -/
  | saddS (x : SScalar)
  /-- SADD_SL (R423). -/
  | saddSl (x : SScalar) (lit : Word)
  /-- SADD_X (R423). -/
  | saddX (x : XFields)
  /-- SSUB (R423). -/
  | ssub (x : XFields)
  /-- SMUL (R423). -/
  | smul (x : XFields)
  /-- SMULH (R423). -/
  | smulh (x : XFields)
  /-- SAND (R423). -/
  | sand (x : XFields)
  /-- SOR (R423). -/
  | sor (x : XFields)
  /-- SXOR (R423). -/
  | sxor (x : XFields)
  /-- SSHL_S (R423). -/
  | sshlS (x : SScalar)
  /-- SSHL_X (R423). -/
  | sshlX (x : XFields)
  /-- SSHR_S (R423). -/
  | sshrS (x : SScalar)
  /-- SSHR_X (R423). -/
  | sshrX (x : XFields)
  /-- SSAR (R423). -/
  | ssar (x : XFields)
  /-- SCLZ (R423). -/
  | sclz (x : XFields)
  /-- SPOPC (R423). -/
  | spopc (x : XFields)
  /-- SMIN (R423). -/
  | smin (x : XFields)
  /-- SMAX (R423). -/
  | smax (x : XFields)
  /-- SCMP (R422). -/
  | scmp (x : XFields)
  /-- SSEL (R423). -/
  | ssel (x : XFields)
  /-- SMOV_S (R425). -/
  | smovS (x : SScalar)
  /-- SMOV_X (R425). -/
  | smovX (x : XFields)
  /-- SMOVL_SL (R425). -/
  | smovlSl (x : SScalar) (lit : Word)
  /-- SMOVL_XL (R425). -/
  | smovlXl (x : XFields) (lit : Word)
  /-- SGET_S (R428). -/
  | sgetS (x : SScalar)
  /-- SGET_X (R428). -/
  | sgetX (x : XFields)
  /-- SSET (R429). -/
  | sset (x : XFields)
  /-- TRAP_X (R438). -/
  | trapX (x : XFields)
  /-- TRAP_XL (R438). -/
  | trapXl (x : XFields) (lit : Word)
  /-- BRK (R438). -/
  | brk (x : XFields)
  /-- YIELD (R439). -/
  | yield (x : XFields)
  /-- PRIO (R440). -/
  | prio (x : XFields)
  /-- KAND (R430). -/
  | kand (x : XFields)
  /-- KOR (R430). -/
  | kor (x : XFields)
  /-- KXOR (R430). -/
  | kxor (x : XFields)
  /-- KNOT (R430). -/
  | knot (x : XFields)
  /-- KMOV (R430). -/
  | kmov (x : XFields)
  /-- KFROMS (R430). -/
  | kfroms (x : XFields)
  /-- KTOS (R430). -/
  | ktos (x : XFields)
  /-- KPOPC (R430). -/
  | kpopc (x : XFields)
  /-- KFIRST (R430). -/
  | kfirst (x : XFields)
  /-- WAITF (R431). -/
  | waitf (x : XFields)
  /-- DELAY (R432). -/
  | delay (x : XFields)
  /-- BRA_S (R434). -/
  | braS (x : SBranch)
  /-- BRA_XL (R434). -/
  | braXl (x : XFields) (lit : Word)
  /-- BRC_S (R434). -/
  | brcS (x : SBranch)
  /-- BRC_XL (R434). -/
  | brcXl (x : XFields) (lit : Word)
  /-- BRV_S (R237). -/
  | brvS (x : SBranch)
  /-- BRV_XL (R237). -/
  | brvXl (x : XFields) (lit : Word)
  /-- CALL_S (R434). -/
  | callS (x : SBranch)
  /-- CALL_XL (R434). -/
  | callXl (x : XFields) (lit : Word)
  /-- JMPI (R435). -/
  | jmpi (x : XFields)
  /-- RET (R435). -/
  | ret (x : XFields)
  /-- REJOIN (R241). -/
  | rejoin (x : XFields)
  /-- EXIT (R243). -/
  | exit (x : XFields)
  /-- TAIL (R244). -/
  | tail (x : XFields)
  /-- MIGR (R251). -/
  | migr (x : XFields)
  /-- VADD_S (R450). -/
  | vaddS (x : SVec)
  /-- VADD_X (R450). -/
  | vaddX (x : XFields)
  /-- VSUB_S (R450). -/
  | vsubS (x : SVec)
  /-- VSUB_X (R450). -/
  | vsubX (x : XFields)
  /-- VAND_S (R450). -/
  | vandS (x : SVec)
  /-- VAND_X (R450). -/
  | vandX (x : XFields)
  /-- VOR_S (R450). -/
  | vorS (x : SVec)
  /-- VOR_X (R450). -/
  | vorX (x : XFields)
  /-- VXOR_S (R450). -/
  | vxorS (x : SVec)
  /-- VXOR_X (R450). -/
  | vxorX (x : XFields)
  /-- VNOT_S (R449). -/
  | vnotS (x : SVec)
  /-- VNOT_X (R449). -/
  | vnotX (x : XFields)
  /-- VMUL_S (R450). -/
  | vmulS (x : SVec)
  /-- VMUL_X (R450). -/
  | vmulX (x : XFields)
  /-- VMULH_S (R450). -/
  | vmulhS (x : SVec)
  /-- VMULH_X (R450). -/
  | vmulhX (x : XFields)
  /-- VMAD (R450). -/
  | vmad (x : XFields)
  /-- VSHL_S (R450). -/
  | vshlS (x : SVec)
  /-- VSHL_X (R450). -/
  | vshlX (x : XFields)
  /-- VSHR_S (R450). -/
  | vshrS (x : SVec)
  /-- VSHR_X (R450). -/
  | vshrX (x : XFields)
  /-- VSAR_S (R450). -/
  | vsarS (x : SVec)
  /-- VSAR_X (R450). -/
  | vsarX (x : XFields)
  /-- VCLZ_S (R449). -/
  | vclzS (x : SVec)
  /-- VCLZ_X (R449). -/
  | vclzX (x : XFields)
  /-- VPOPC_S (R449). -/
  | vpopcS (x : SVec)
  /-- VPOPC_X (R449). -/
  | vpopcX (x : XFields)
  /-- VBREV_S (R449). -/
  | vbrevS (x : SVec)
  /-- VBREV_X (R449). -/
  | vbrevX (x : XFields)
  /-- VBFE (R451). -/
  | vbfe (x : XFields)
  /-- VBFI (R451). -/
  | vbfi (x : XFields)
  /-- VMIN_S (R450). -/
  | vminS (x : SVec)
  /-- VMIN_X (R450). -/
  | vminX (x : XFields)
  /-- VMAX_S (R450). -/
  | vmaxS (x : SVec)
  /-- VMAX_X (R450). -/
  | vmaxX (x : XFields)
  /-- VABS_S (R450). -/
  | vabsS (x : SVec)
  /-- VABS_X (R450). -/
  | vabsX (x : XFields)
  /-- VNEG_S (R450). -/
  | vnegS (x : SVec)
  /-- VNEG_X (R450). -/
  | vnegX (x : XFields)
  /-- VCMP (R452). -/
  | vcmp (x : XFields)
  /-- VSEL (R452). -/
  | vsel (x : XFields)
  /-- VMOV_S (R452). -/
  | vmovS (x : SVec)
  /-- VMOV_X (R452). -/
  | vmovX (x : XFields)
  /-- VMOV_XL (R452). -/
  | vmovXl (x : XFields) (lit : Word)
  /-- VLEA_X (R453). -/
  | vleaX (x : XFields)
  /-- VLEA_XL (R453). -/
  | vleaXl (x : XFields) (lit : Word)
  /-- FADD_S (R454). -/
  | faddS (x : SVec)
  /-- FADD_X (R454). -/
  | faddX (x : XFields)
  /-- FSUB_S (R454). -/
  | fsubS (x : SVec)
  /-- FSUB_X (R454). -/
  | fsubX (x : XFields)
  /-- FMUL_S (R454). -/
  | fmulS (x : SVec)
  /-- FMUL_X (R454). -/
  | fmulX (x : XFields)
  /-- FFMA (R454). -/
  | ffma (x : XFields)
  /-- FMIN_S (R455). -/
  | fminS (x : SVec)
  /-- FMIN_X (R455). -/
  | fminX (x : XFields)
  /-- FMAX_S (R455). -/
  | fmaxS (x : SVec)
  /-- FMAX_X (R455). -/
  | fmaxX (x : XFields)
  /-- FCMP (R456). -/
  | fcmp (x : XFields)
  /-- FCLASS (R457). -/
  | fclass (x : XFields)
  /-- FRND (R458). -/
  | frnd (x : XFields)
  /-- FDIV_S (R454). -/
  | fdivS (x : SVec)
  /-- FDIV_X (R454). -/
  | fdivX (x : XFields)
  /-- FSQRT_S (R454). -/
  | fsqrtS (x : SVec)
  /-- FSQRT_X (R454). -/
  | fsqrtX (x : XFields)
  /-- FRCP_S (R356). -/
  | frcpS (x : SVec)
  /-- FRCP_X (R356). -/
  | frcpX (x : XFields)
  /-- FRSQ_S (R356). -/
  | frsqS (x : SVec)
  /-- FRSQ_X (R356). -/
  | frsqX (x : XFields)
  /-- FEXP2_S (R458). -/
  | fexp2S (x : SVec)
  /-- FEXP2_X (R458). -/
  | fexp2X (x : XFields)
  /-- FLOG2_S (R458). -/
  | flog2S (x : SVec)
  /-- FLOG2_X (R458). -/
  | flog2X (x : XFields)
  /-- FSINPI_S (R458). -/
  | fsinpiS (x : SVec)
  /-- FSINPI_X (R458). -/
  | fsinpiX (x : XFields)
  /-- FCOSPI_S (R458). -/
  | fcospiS (x : SVec)
  /-- FCOSPI_X (R458). -/
  | fcospiX (x : XFields)
  /-- CVT (R459). -/
  | cvt (x : XFields)
  /-- VPACK (R459). -/
  | vpack (x : XFields)
  /-- VUNPK (R459). -/
  | vunpk (x : XFields)
  /-- VCBDEC (R460). -/
  | vcbdec (x : XFields)
  /-- VCBENC (R460). -/
  | vcbenc (x : XFields)
  /-- VBSCAL (R461). -/
  | vbscal (x : XFields)
  /-- VSHFL (R463). -/
  | vshfl (x : XFields)
  /-- VPERM (R463). -/
  | vperm (x : XFields)
  /-- VBCAST (R463). -/
  | vbcast (x : XFields)
  /-- VNBR_LEFT (R280). -/
  | vnbrLeft (x : XFields)
  /-- VNBR_RIGHT (R280). -/
  | vnbrRight (x : XFields)
  /-- VRED (R464). -/
  | vred (x : XFields)
  /-- VSCAN (R464). -/
  | vscan (x : XFields)
  /-- VBALLOT (R464). -/
  | vballot (x : XFields)
  /-- VLD_X (R471). -/
  | vldX (x : XFields)
  /-- VLD_XL (R471). -/
  | vldXl (x : XFields) (lit : Word)
  /-- VST_X (R471). -/
  | vstX (x : XFields)
  /-- VST_XL (R471). -/
  | vstXl (x : XFields) (lit : Word)
  /-- VLDX (R471). -/
  | vldx (x : XFields)
  /-- VSTX (R471). -/
  | vstx (x : XFields)
  /-- SLD_X (R471). -/
  | sldX (x : XFields)
  /-- SLD_XL (R471). -/
  | sldXl (x : XFields) (lit : Word)
  /-- SST_X (R471). -/
  | sstX (x : XFields)
  /-- SST_XL (R471). -/
  | sstXl (x : XFields) (lit : Word)
  /-- PREF_X (R472). -/
  | prefX (x : XFields)
  /-- PREF_XL (R472). -/
  | prefXl (x : XFields) (lit : Word)
  /-- PLD (R473). -/
  | pld (x : XFields)
  /-- PST (R473). -/
  | pst (x : XFields)
  /-- PLDR (R474). -/
  | pldr (x : XFields) (lit : Word)
  /-- PSTR (R474). -/
  | pstr (x : XFields) (lit : Word)
  /-- VATOM (R477). -/
  | vatom (x : XFields)
  /-- PATOM (R477). -/
  | patom (x : XFields)
  /-- RATOM_X (R478). -/
  | ratomX (x : XFields)
  /-- RATOM_XL (R478). -/
  | ratomXl (x : XFields) (lit : Word)
  /-- FELD (R480). -/
  | feld (x : XFields)
  /-- FEST (R480). -/
  | fest (x : XFields)
  /-- FEFILL (R480). -/
  | fefill (x : XFields)
  /-- FECLR (R480). -/
  | feclr (x : XFields)
  /-- FEQRY (R480). -/
  | feqry (x : XFields)
  /-- WAITA (R482). -/
  | waita (x : XFields)
  /-- PHASE (R483). -/
  | phase (x : XFields)
  /-- BAR (R486). -/
  | bar (x : XFields)
  /-- BARX (R485). -/
  | barx (x : XFields)
  /-- FENCE (R487). -/
  | fence (x : XFields)
  /-- IFENCE (R489). -/
  | ifence (x : XFields)
  /-- ICINV (R490). -/
  | icinv (x : XFields)
  /-- CFLUSH (R491). -/
  | cflush (x : XFields)
  /-- CINV (R491). -/
  | cinv (x : XFields)
  /-- SBMODE (R492). -/
  | sbmode (x : XFields)
  /-- GDEF (R499). -/
  | gdef (x : XFields)
  /-- GVIEW (R499). -/
  | gview (x : XFields)
  /-- GREL (R499). -/
  | grel (x : XFields)
  /-- TLOAD (R500). -/
  | tload (x : XFields)
  /-- TMMA (R500). -/
  | tmma (x : XFields)
  /-- TEW (R502). -/
  | tew (x : XFields)
  /-- TRED (R500). -/
  | tred (x : XFields)
  /-- TCVT (R500). -/
  | tcvt (x : XFields)
  /-- TFORCE (R504). -/
  | tforce (x : XFields)
  /-- TSTORE (R506). -/
  | tstore (x : XFields)
  /-- TWAIT (R507). -/
  | twait (x : XFields)
  /-- TDROP (R329). -/
  | tdrop (x : XFields)
  /-- TQRY (R330). -/
  | tqry (x : XFields)
  /-- LSTAT (R511). -/
  | lstat (x : XFields)
  /-- LSWAP (R332). -/
  | lswap (x : XFields)
  /-- MSTRM (R332). -/
  | mstrm (x : XFields)
  /-- MDRAIN (R511). -/
  | mdrain (x : XFields)
  /-- BTAKE (R333). -/
  | btake (x : XFields)
  /-- BPASS (R333). -/
  | bpass (x : XFields)
  /-- OWNSET (R513). -/
  | ownset (x : XFields)
  /-- OWNQ (R513). -/
  | ownq (x : XFields)
  /-- COPY_X (R516). -/
  | copyX (x : XFields)
  /-- COPY_XL (R516). -/
  | copyXl (x : XFields) (lit : Word)
  /-- COPYM_X (R518). -/
  | copymX (x : XFields)
  /-- COPYM_XL (R518). -/
  | copymXl (x : XFields) (lit : Word)
  /-- PKRD (R522). -/
  | pkrd (x : XFields)
  /-- PKWR (R523). -/
  | pkwr (x : XFields)
  /-- PKVGET (R524). -/
  | pkvget (x : XFields)
  /-- PKVSET (R524). -/
  | pkvset (x : XFields)
  /-- PKACT (R176). -/
  | pkact (x : XFields)
  /-- ENQ (R520). -/
  | enq (x : XFields)
  /-- QSTAT (R521). -/
  | qstat (x : XFields)
  /-- UDF (R413). -/
  | udf (len : BitVec 2) (sch : BitVec 4) (n : BitVec 20)
  /-- POWER_GOOD (R29). Event argument: none. -/
  | powerGood
  /-- FUNCTION_READY (R29). Event argument: (f : Func). -/
  | functionReady
  /-- READY_TIMEOUT (R30). Event argument: (f : Func). -/
  | readyTimeout
  /-- FUNCTION_FAIL (R31). Event argument: (f : Func). -/
  | functionFail
  /-- PWR_REQ_P0 (R26). Event argument: none. -/
  | pwrReqP0
  /-- PWR_REQ_P1 (R26). Event argument: none. -/
  | pwrReqP1
  /-- PWR_REQ_RETENTION (R21). Event argument: none. -/
  | pwrReqRetention
  /-- PWR_REQ_OFF (R26). Event argument: none. -/
  | pwrReqOff
  /-- POWER_TRANSITION_DONE (R20). Event argument: none. -/
  | powerTransitionDone
  /-- RETENTION_ENTRY_DONE (R21). Event argument: none. -/
  | retentionEntryDone
  /-- RETENTION_EXIT_DONE (R22). Event argument: none. -/
  | retentionExitDone
  /-- THERMAL_FORCE (R26). Event argument: none. -/
  | thermalForce
  /-- THERMAL_FORCE_END (R26). Event argument: none. -/
  | thermalForceEnd
  /-- POWER_CAP_FORCE (R26). Event argument: none. -/
  | powerCapForce
  /-- POWER_CAP_END (R26). Event argument: none. -/
  | powerCapEnd
  /-- TRIP_OFF (R27). Event argument: (reason : Nat). -/
  | tripOff
  /-- MESH_LINK_FAIL (R59). Event argument: (dieA dieB : Nat). -/
  | meshLinkFail
  /-- FRAME_DISCARD_ETHERTYPE (R35). Event argument: (etype : BitVec 16). -/
  | frameDiscardEthertype
  /-- ROCE_SEND (R38). Event argument: (p : RocePkt). -/
  | roceSend
  /-- ROCE_SEND_IMM (R38). Event argument: (p : RocePkt). -/
  | roceSendImm
  /-- ROCE_RDMA_WRITE (R38). Event argument: (p : RocePkt). -/
  | roceRdmaWrite
  /-- ROCE_RDMA_WRITE_IMM (R38). Event argument: (p : RocePkt). -/
  | roceRdmaWriteImm
  /-- ROCE_RDMA_READ (R39). Event argument: (p : RocePkt). -/
  | roceRdmaRead
  /-- ROCE_ATOMIC_VERB (R36). Event argument: (p : RocePkt). -/
  | roceAtomicVerb
  /-- PFC_PAUSE_RX (R36). Event argument: (prios : BitVec 8). -/
  | pfcPauseRx
  /-- MREG_READ (R70). Event argument: (f : MgmtFrame). -/
  | mregRead
  /-- MREG_WRITE (R70). Event argument: (f : MgmtFrame). -/
  | mregWrite
  /-- REGISTER_WRITE (R8). Event argument: (offset value : Word). -/
  | registerWrite
  /-- GL_STAT_READ (R65). Event argument: (port : Nat). -/
  | glStatRead
  /-- HP_STAT_READ (R122). Event argument: (offset : Word). -/
  | hpStatRead
  /-- CELL_MAP_VARIANT_WRITE (R203). Event argument: (bench : Nat) (variant : BitVec 16). -/
  | cellMapVariantWrite
  /-- CELL_RETIRE (R217). Event argument: (bench cell : Nat) (readable : Bool). -/
  | cellRetire
  /-- VD_CKPT_STOP (R204). Event argument: (vd : Nat). -/
  | vdCkptStop
  /-- VD_CKPT_RESUME (R204). Event argument: (vd : Nat). -/
  | vdCkptResume
  /-- VD_CKPT_RESTORE (R205). Event argument: (vd : Nat). -/
  | vdCkptRestore
  /-- CMDQP_OPEN (R94). Event argument: (f : MgmtFrame). -/
  | cmdqpOpen
  /-- WARM_RESET (R29). Event argument: (f : MgmtFrame). -/
  | warmReset
  /-- SESSION_AUTH (R72). Event argument: (f : MgmtFrame). -/
  | sessionAuth
  /-- SECURED_MESSAGE (R72). Event argument: (f : MgmtFrame). -/
  | securedMessage
  /-- SEC_PROVISION (R78). Event argument: (f : MgmtFrame). -/
  | secProvision
  /-- SEC_LOCK (R78). Event argument: (f : MgmtFrame). -/
  | secLock
  /-- SEC_UNLOCK (R78). Event argument: (f : MgmtFrame). -/
  | secUnlock
  /-- SEC_SETDBG (R78). Event argument: (f : MgmtFrame). -/
  | secSetdbg
  /-- FW_UPDATE (R83). Event argument: (f : MgmtFrame). -/
  | fwUpdate
  /-- FW_DATA (R74). Event argument: (f : MgmtFrame). -/
  | fwData
  /-- FW_END (R74). Event argument: (f : MgmtFrame). -/
  | fwEnd
  /-- FW_VERIFY_DONE (R84). Event argument: none. -/
  | fwVerifyDone
  /-- DBG_OPEN (R89). Event argument: (f : MgmtFrame). -/
  | dbgOpen
  /-- DBG_CLOSE (R73). Event argument: (f : MgmtFrame). -/
  | dbgClose
  /-- SPDM_GET_VERSION (R86). Event argument: (f : MgmtFrame). -/
  | spdmGetVersion
  /-- SPDM_GET_CAPABILITIES (R86). Event argument: (f : MgmtFrame). -/
  | spdmGetCapabilities
  /-- SPDM_NEGOTIATE_ALGORITHMS (R86). Event argument: (f : MgmtFrame). -/
  | spdmNegotiateAlgorithms
  /-- SPDM_GET_DIGESTS (R86). Event argument: (f : MgmtFrame). -/
  | spdmGetDigests
  /-- SPDM_GET_CERTIFICATE (R86). Event argument: (f : MgmtFrame). -/
  | spdmGetCertificate
  /-- SPDM_CHALLENGE (R86). Event argument: (f : MgmtFrame). -/
  | spdmChallenge
  /-- SPDM_GET_MEASUREMENTS (R87). Event argument: (f : MgmtFrame). -/
  | spdmGetMeasurements
  /-- SPDM_KEY_EXCHANGE (R86). Event argument: (f : MgmtFrame). -/
  | spdmKeyExchange
  /-- SPDM_FINISH (R86). Event argument: (f : MgmtFrame). -/
  | spdmFinish
  /-- SPDM_END_SESSION (R86). Event argument: (f : MgmtFrame). -/
  | spdmEndSession
  /-- SPDM_HEARTBEAT (R86). Event argument: (f : MgmtFrame). -/
  | spdmHeartbeat
  /-- VD_CREATE (R103). Event argument: (c : Cmd). -/
  | vdCreate
  /-- VD_DESTROY (R104). Event argument: (c : Cmd). -/
  | vdDestroy
  /-- VD_QUERY (R100). Event argument: (c : Cmd). -/
  | vdQuery
  /-- MIG_START (R123). Event argument: (c : Cmd). -/
  | migStart
  /-- MIG_DIRTY (R124). Event argument: (c : Cmd). -/
  | migDirty
  /-- MIG_STOP (R125). Event argument: (c : Cmd). -/
  | migStop
  /-- MIG_STOP_COMPLETE (R125). Event argument: (vd : Nat). -/
  | migStopComplete
  /-- MIG_RESUME (R126). Event argument: (c : Cmd). -/
  | migResume
  /-- MIG_ABORT (R127). Event argument: (c : Cmd). -/
  | migAbort
  /-- REG_READ (R100). Event argument: (c : Cmd). -/
  | regRead
  /-- QP_CREATE (R95). Event argument: (c : Cmd). -/
  | qpCreate
  /-- QP_DESTROY (R100). Event argument: (c : Cmd). -/
  | qpDestroy
  /-- MAP (R105). Event argument: (c : Cmd). -/
  | map
  /-- UNMAP (R106). Event argument: (c : Cmd). -/
  | unmap
  /-- UNMAP_COMPLETE (R106). Event argument: (wait : Nat). -/
  | unmapComplete
  /-- MR_REG (R107). Event argument: (c : Cmd). -/
  | mrReg
  /-- MR_DEREG (R107). Event argument: (c : Cmd). -/
  | mrDereg
  /-- QUEUE_CREATE (R110). Event argument: (c : Cmd). -/
  | queueCreate
  /-- QUEUE_DESTROY (R117). Event argument: (c : Cmd). -/
  | queueDestroy
  /-- QUEUE_DESTROY_COMPLETE (R117). Event argument: (queue : Nat). -/
  | queueDestroyComplete
  /-- QUEUE_QUERY (R109). Event argument: (c : Cmd). -/
  | queueQuery
  /-- QUEUE_RESET (R115). Event argument: (c : Cmd). -/
  | queueReset
  /-- FEAT_QUERY (R121). Event argument: (c : Cmd). -/
  | featQuery
  /-- GL_FLIT_RX (R46). Event argument: (port : Nat) (f : Flit). -/
  | glFlitRx
  /-- GL_NAK_RX (R46). Event argument: (port : Nat) (seq : BitVec 12). -/
  | glNakRx
  /-- GL_ACK_TIMER (R46). Event argument: (port : Nat). -/
  | glAckTimer
  /-- GL_RETRAIN (R47). Event argument: (port : Nat). -/
  | glRetrain
  /-- GL_RETRAIN_DONE (R47). Event argument: (port : Nat) (ok : Bool). -/
  | glRetrainDone
  /-- GL_REQUEST_ARRIVE (R50). Event argument: (port : Nat) (r : FabReq). -/
  | glRequestArrive
  /-- GL_RESPONSE_ARRIVE (R52). Event argument: (port : Nat) (r : FabResp). -/
  | glResponseArrive
  /-- FABRIC_TIMEOUT (R57). Event argument: (tx : Nat). -/
  | fabricTimeout
  /-- FAULT_ENQ_RESEND (R64). Event argument: (rec : Nat). -/
  | faultEnqResend
  /-- FAULT_NOTICE_RX (R536). Event argument: (record : Word) (what status : Nat). -/
  | faultNoticeRx
  /-- FAULT_NOTICE_RESEND (R536). Event argument: (notice : Nat). -/
  | faultNoticeResend
  /-- RING_RECORD_COPY (R112). Event argument: (queue : Nat). -/
  | ringRecordCopy
  /-- WAIT_TAG_NOTICE (R137). Event argument: (task slot : Nat). -/
  | waitTagNotice
  /-- DISPATCH_SELECT (R144). Event argument: (bench : Nat). -/
  | dispatchSelect
  /-- DRAIN_LIMIT (R190). Event argument: (group : Nat). -/
  | drainLimit
  /-- GROUP_SAVE_COMPLETE (R192). Event argument: (group : Nat). -/
  | groupSaveComplete
  /-- MIGRATION_REQUEST_POST (R257). Event argument: (course : Nat). -/
  | migrationRequestPost
  /-- TASK_LATE (R142). Event argument: (task : Nat). -/
  | taskLate
  /-- PARKED_DEADLINE_KILL (R175). Event argument: (rec : Nat). -/
  | parkedDeadlineKill
  /-- BUDGET_EXHAUSTED (R155). Event argument: (task bench : Nat). -/
  | budgetExhausted
  /-- TASK_COMPLETE (R152). Event argument: (task : Nat). -/
  | taskComplete
  /-- LATE_FAULT (R161). Event argument: (who : Consumer) (cause : Nat) (addr : Word). -/
  | lateFault
  /-- FAULT_TASK_DEFERRED_WRITE (R171). Event argument: (rec : Nat). -/
  | faultTaskDeferredWrite
  /-- RECORD_FREE_GRANT (R179). Event argument: (die : Nat). -/
  | recordFreeGrant
  /-- UNCORRECTABLE_CONSUMED (R352). Event argument: (who : Consumer) (addr : Word). -/
  | uncorrectableConsumed
  /-- SHADOW_COPY_DONE (R212). Event argument: (group : Nat). -/
  | shadowCopyDone
  /-- STRIKE_REPORT (R210). Event argument: (core : Nat). -/
  | strikeReport
  /-- REJOIN_DEADLOCK_DETECT (R242). Event argument: (course : Nat). -/
  | rejoinDeadlockDetect
  /-- COURSE_EXCHANGE (R230). Event argument: (active pending : Nat). -/
  | courseExchange
  /-- INSTRUCTION_COMPLETE (R231). Event argument: (course pend : Nat). -/
  | instructionComplete
  /-- COURSE_RETIRE (R243). Event argument: (course : Nat). -/
  | courseRetire
  /-- TRACKER_ENTRY_FREE (R244). Event argument: (cell course : Nat). -/
  | trackerEntryFree
  /-- MIGRATION_COMPLETE (R251). Event argument: (course : Nat). -/
  | migrationComplete
  /-- ATLB_FILL_DONE (R261). Event argument: (core vd granule : Nat). -/
  | atlbFillDone
  /-- PAGE_WALK_DONE (R262). Event argument: (course pend : Nat). -/
  | pageWalkDone
  /-- BUFFERED_SECTOR_EVICT (R272). Event argument: (course : Nat) (sector : Word). -/
  | bufferedSectorEvict
  /-- FULL_EMPTY_WAKE (R480). Event argument: (course pend lane : Nat). -/
  | fullEmptyWake
  /-- WAITA_RECHECK (R534). Event argument: (course pend : Nat). -/
  | waitaRecheck
  /-- WAITA_TIMEOUT (R482). Event argument: (course pend : Nat). -/
  | waitaTimeout
  /-- NODE_EVALUATE (R325). Event argument: (group : Nat). -/
  | nodeEvaluate
  /-- BOW_GRANT (R333). Event argument: (group : Nat). -/
  | bowGrant
  /-- COPYM_FOLLOW_ON (R335). Event argument: (copy : Nat). -/
  | copymFollowOn
  /-- COPY_SEGMENT_COMPLETE (R517). Event argument: (seg : Nat). -/
  | copySegmentComplete
  /-- MULTICAST_FILL_LAND (R206). Event argument: (copy receiver : Nat). -/
  | multicastFillLand
  /-- EVENT_SPACE_RETURN (R119). Event argument: (chan buffers : Nat). -/
  | eventSpaceReturn
  /-- LTOD_WAIT_LIMIT (R257). Event argument: (task : Nat). -/
  | ltodWaitLimit
  /-- VD_CKPT_STOP_COMPLETE (R204). Event argument: (vd : Nat). -/
  | vdCkptStopComplete
  /-- VD_CKPT_RESTORE_COMPLETE (R205). Event argument: (vd : Nat). -/
  | vdCkptRestoreComplete
  /-- VD_DESTROY_COMPLETE (R104). Event argument: (vd : Nat). -/
  | vdDestroyComplete
  /-- MIG_RESUME_COMPLETE (R126). Event argument: (vd : Nat). -/
  | migResumeComplete
  /-- DEBUG_HALT (R88). Event argument: (session course : Nat). -/
  | debugHalt
  /-- DEBUG_RESUME (R88). Event argument: (session course : Nat). -/
  | debugResume
  /-- MGMT_BAD_OPCODE (R70). Event argument: (f : MgmtFrame). -/
  | mgmtBadOpcode
  /-- SPDM_UNSUPPORTED_REQUEST (R86). Event argument: (f : MgmtFrame). -/
  | spdmUnsupportedRequest
  deriving DecidableEq, Repr

/-- An event with its data. -/
structure Ev where
  i   : Instr
  arg : EvArg := .none
  deriving DecidableEq, Repr

end Sys2Proof
end

