-- ==== Sys2Proof/Decode.lean ====
section
/-! DEFINITION. The decoder and the encoder (13 R377 to R380, 14 R403 to R413), written from the same tables. The
decoder is total on any words and any bytes and rejects by name; every rejection but `truncated` is an encoding that
raises ILLEGAL_ENCODING (R403 steps 2 to 4). Checks that need more than word 0 and the table (R389 from
RESERVED_ENCODING on) stand in WellFormed.lean and in the meanings. -/
namespace Sys2Proof

/-- Why words are no instruction: R403 steps 2, 3 and 4; `truncated` when the list ends before the instruction. -/
inductive DecodeError where
  | reservedMajor (maj : Nat)
  | lenNotAllowed (maj len : Nat)
  | minorUnassigned (maj min : Nat)
  | truncated
  deriving DecidableEq, Repr

/-- Bits [lo + n - 1 : lo] of an instruction word. -/
def field (w : Half) (lo n : Nat) : BitVec n := w.extractLsb' lo n

/-- Words of an instruction by LEN alone (R404). -/
def lenWords (len : BitVec 2) : Nat :=
  if len = 0 then 1 else if len = 3 then 5 else 3

/-- The fields of an X form from its three words (R379). -/
def unpackX (w0 w1 w2 : Half) : XFields where
  sch := field w0 8 4
  vd := field w0 12 8
  nwb := field w0 20 1
  sat := field w0 21 1
  rm := field w0 22 2
  sa := field w1 0 8
  sb := field w1 8 8
  sc := field w1 16 8
  km := field w1 24 3
  kz := field w1 27 1
  type := field w1 28 4
  dist := field w2 0 3
  wait := field w2 3 12
  setf := field w2 15 4
  ext := field w2 19 9
  hint := field w2 28 4

/-- The three words of an X form (R379). -/
def packX (maj : BitVec 6) (min : BitVec 8) (len : BitVec 2) (x : XFields) : List Half :=
  [min ++ x.rm ++ x.sat ++ x.nwb ++ x.vd ++ x.sch ++ maj ++ len,
   x.type ++ x.kz ++ x.km ++ x.sc ++ x.sb ++ x.sa,
   x.hint ++ x.ext ++ x.setf ++ x.wait ++ x.dist]

/-- The scalar variant of word 0 (R378). -/
def unpackScalar (w0 : Half) : SScalar where
  sch := field w0 8 4
  sd := field w0 12 6
  ss := field w0 18 6
  imm := field w0 24 8

def packScalar (maj : BitVec 6) (len : BitVec 2) (x : SScalar) : Half :=
  x.imm ++ x.ss ++ x.sd ++ x.sch ++ maj ++ len

/-- The vector destructive variant of word 0 (R378). -/
def unpackVec (w0 : Half) : SVec where
  sch := field w0 8 4
  vd := field w0 12 8
  vs := field w0 20 8

def packVec (maj : BitVec 6) (min : BitVec 4) (x : SVec) : Half :=
  min ++ x.vs ++ x.vd ++ x.sch ++ maj ++ (0 : BitVec 2)

/-- The branch variant of word 0 (R378). -/
def unpackBranch (w0 : Half) : SBranch where
  sch := field w0 8 4
  k := field w0 12 3
  neg := field w0 15 1
  off := field w0 16 16

def packBranch (maj : BitVec 6) (x : SBranch) : Half :=
  x.off ++ x.neg ++ x.k ++ x.sch ++ maj ++ (0 : BitVec 2)

/-- The two words of a 64-bit literal, low word first (R377). -/
def litWords (l : Word) : List Half := [l.extractLsb' 0 32, l.extractLsb' 32 32]
def litOf (lo hi : Half) : Word := hi ++ lo

/-- The X forms (R408 to R410). -/
def xRow (maj min : Nat) : Option (XFields → Instr) :=
  match maj with
  | 0x00 => match min with
    | 0x00 => some .nopX
    | _ => none
  | 0x01 => match min with
    | 0x00 => some .saddX
    | 0x01 => some .ssub
    | 0x02 => some .smul
    | 0x03 => some .smulh
    | _ => none
  | 0x02 => match min with
    | 0x00 => some .sand
    | 0x01 => some .sor
    | 0x02 => some .sxor
    | 0x03 => some .sshlX
    | 0x04 => some .sshrX
    | 0x05 => some .ssar
    | 0x06 => some .sclz
    | 0x07 => some .spopc
    | _ => none
  | 0x03 => match min with
    | 0x00 => some .smin
    | 0x01 => some .smax
    | 0x02 => some .scmp
    | 0x03 => some .ssel
    | _ => none
  | 0x04 => match min with
    | 0x00 => some .smovX
    | _ => none
  | 0x05 => match min with
    | 0x00 => some .sgetX
    | 0x01 => some .sset
    | 0x02 => some .trapX
    | 0x03 => some .brk
    | 0x04 => some .yield
    | 0x05 => some .prio
    | _ => none
  | 0x06 => match min with
    | 0x00 => some .kand
    | 0x01 => some .kor
    | 0x02 => some .kxor
    | 0x03 => some .knot
    | 0x04 => some .kmov
    | 0x05 => some .kfroms
    | 0x06 => some .ktos
    | 0x07 => some .kpopc
    | 0x08 => some .kfirst
    | _ => none
  | 0x07 => match min with
    | 0x00 => some .waitf
    | 0x01 => some .delay
    | _ => none
  | 0x0b => match min with
    | 0x01 => some .jmpi
    | 0x02 => some .ret
    | 0x03 => some .rejoin
    | 0x04 => some .exit
    | 0x05 => some .tail
    | 0x06 => some .migr
    | _ => none
  | 0x10 => match min with
    | 0x00 => some .vaddX
    | 0x01 => some .vsubX
    | 0x02 => some .vandX
    | 0x03 => some .vorX
    | 0x04 => some .vxorX
    | 0x05 => some .vnotX
    | _ => none
  | 0x11 => match min with
    | 0x00 => some .vmulX
    | 0x01 => some .vmulhX
    | 0x02 => some .vmad
    | _ => none
  | 0x12 => match min with
    | 0x00 => some .vshlX
    | 0x01 => some .vshrX
    | 0x02 => some .vsarX
    | 0x03 => some .vclzX
    | 0x04 => some .vpopcX
    | 0x05 => some .vbrevX
    | 0x06 => some .vbfe
    | 0x07 => some .vbfi
    | _ => none
  | 0x13 => match min with
    | 0x00 => some .vminX
    | 0x01 => some .vmaxX
    | 0x02 => some .vabsX
    | 0x03 => some .vnegX
    | 0x04 => some .vcmp
    | 0x05 => some .vsel
    | 0x06 => some .vmovX
    | _ => none
  | 0x14 => match min with
    | 0x00 => some .vleaX
    | _ => none
  | 0x18 => match min with
    | 0x00 => some .faddX
    | 0x01 => some .fsubX
    | 0x02 => some .fmulX
    | 0x03 => some .ffma
    | 0x04 => some .fminX
    | 0x05 => some .fmaxX
    | _ => none
  | 0x19 => match min with
    | 0x00 => some .fcmp
    | 0x01 => some .fclass
    | 0x02 => some .frnd
    | _ => none
  | 0x1a => match min with
    | 0x00 => some .fdivX
    | 0x01 => some .fsqrtX
    | 0x02 => some .frcpX
    | 0x03 => some .frsqX
    | _ => none
  | 0x1b => match min with
    | 0x00 => some .fexp2X
    | 0x01 => some .flog2X
    | 0x02 => some .fsinpiX
    | 0x03 => some .fcospiX
    | _ => none
  | 0x20 => match min with
    | 0x00 => some .cvt
    | 0x01 => some .vpack
    | 0x02 => some .vunpk
    | _ => none
  | 0x21 => match min with
    | 0x00 => some .vcbdec
    | 0x01 => some .vcbenc
    | 0x02 => some .vbscal
    | _ => none
  | 0x22 => match min with
    | 0x00 => some .vshfl
    | 0x01 => some .vperm
    | 0x02 => some .vbcast
    | 0x03 => some .vnbrLeft
    | 0x04 => some .vnbrRight
    | _ => none
  | 0x23 => match min with
    | 0x00 => some .vred
    | 0x01 => some .vscan
    | 0x02 => some .vballot
    | _ => none
  | 0x28 => match min with
    | 0x00 => some .vldX
    | 0x01 => some .vstX
    | _ => none
  | 0x29 => match min with
    | 0x00 => some .vldx
    | 0x01 => some .vstx
    | _ => none
  | 0x2a => match min with
    | 0x00 => some .sldX
    | 0x01 => some .sstX
    | _ => none
  | 0x2b => match min with
    | 0x00 => some .prefX
    | _ => none
  | 0x2c => match min with
    | 0x00 => some .pld
    | 0x01 => some .pst
    | _ => none
  | 0x2d => match min with
    | 0x00 => some .vatom
    | 0x01 => some .patom
    | 0x02 => some .ratomX
    | _ => none
  | 0x2e => match min with
    | 0x00 => some .feld
    | 0x01 => some .fest
    | 0x02 => some .fefill
    | 0x03 => some .feclr
    | 0x04 => some .feqry
    | 0x05 => some .waita
    | _ => none
  | 0x2f => match min with
    | 0x00 => some .phase
    | 0x01 => some .bar
    | 0x02 => some .barx
    | 0x03 => some .fence
    | 0x04 => some .ifence
    | 0x05 => some .icinv
    | 0x06 => some .cflush
    | 0x07 => some .cinv
    | 0x08 => some .sbmode
    | _ => none
  | 0x30 => match min with
    | 0x00 => some .gdef
    | 0x01 => some .gview
    | 0x02 => some .grel
    | _ => none
  | 0x31 => match min with
    | 0x00 => some .tload
    | 0x01 => some .tmma
    | 0x02 => some .tew
    | 0x03 => some .tred
    | 0x04 => some .tcvt
    | _ => none
  | 0x32 => match min with
    | 0x00 => some .tforce
    | 0x01 => some .tstore
    | 0x02 => some .twait
    | 0x03 => some .tdrop
    | 0x04 => some .tqry
    | _ => none
  | 0x33 => match min with
    | 0x00 => some .lstat
    | 0x01 => some .lswap
    | 0x02 => some .mstrm
    | 0x03 => some .mdrain
    | 0x04 => some .btake
    | 0x05 => some .bpass
    | 0x06 => some .ownset
    | 0x07 => some .ownq
    | _ => none
  | 0x34 => match min with
    | 0x00 => some .copyX
    | 0x01 => some .copymX
    | _ => none
  | 0x35 => match min with
    | 0x00 => some .pkrd
    | 0x01 => some .pkwr
    | 0x02 => some .pkvget
    | 0x03 => some .pkvset
    | 0x04 => some .pkact
    | _ => none
  | 0x36 => match min with
    | 0x00 => some .enq
    | 0x01 => some .qstat
    | _ => none
  | _ => none

/-- The XL forms (R408 to R410). -/
def xlRow (maj min : Nat) : Option (XFields → Word → Instr) :=
  match maj with
  | 0x04 => match min with
    | 0x01 => some .smovlXl
    | _ => none
  | 0x05 => match min with
    | 0x02 => some .trapXl
    | _ => none
  | 0x08 => match min with
    | 0x00 => some .braXl
    | _ => none
  | 0x09 => match min with
    | 0x00 => some .brcXl
    | _ => none
  | 0x0a => match min with
    | 0x00 => some .brvXl
    | _ => none
  | 0x0b => match min with
    | 0x00 => some .callXl
    | _ => none
  | 0x13 => match min with
    | 0x06 => some .vmovXl
    | _ => none
  | 0x14 => match min with
    | 0x00 => some .vleaXl
    | _ => none
  | 0x28 => match min with
    | 0x00 => some .vldXl
    | 0x01 => some .vstXl
    | _ => none
  | 0x2a => match min with
    | 0x00 => some .sldXl
    | 0x01 => some .sstXl
    | _ => none
  | 0x2b => match min with
    | 0x00 => some .prefXl
    | _ => none
  | 0x2c => match min with
    | 0x02 => some .pldr
    | 0x03 => some .pstr
    | _ => none
  | 0x2d => match min with
    | 0x02 => some .ratomXl
    | _ => none
  | 0x34 => match min with
    | 0x00 => some .copyXl
    | 0x01 => some .copymXl
    | _ => none
  | _ => none

/-- The S forms of the vector destructive variant (R409). -/
def vecRow (maj min : Nat) : Option (SVec → Instr) :=
  match maj with
  | 0x10 => match min with
    | 0x00 => some .vaddS
    | 0x01 => some .vsubS
    | 0x02 => some .vandS
    | 0x03 => some .vorS
    | 0x04 => some .vxorS
    | 0x05 => some .vnotS
    | _ => none
  | 0x11 => match min with
    | 0x00 => some .vmulS
    | 0x01 => some .vmulhS
    | _ => none
  | 0x12 => match min with
    | 0x00 => some .vshlS
    | 0x01 => some .vshrS
    | 0x02 => some .vsarS
    | 0x03 => some .vclzS
    | 0x04 => some .vpopcS
    | 0x05 => some .vbrevS
    | _ => none
  | 0x13 => match min with
    | 0x00 => some .vminS
    | 0x01 => some .vmaxS
    | 0x02 => some .vabsS
    | 0x03 => some .vnegS
    | 0x06 => some .vmovS
    | _ => none
  | 0x18 => match min with
    | 0x00 => some .faddS
    | 0x01 => some .fsubS
    | 0x02 => some .fmulS
    | 0x04 => some .fminS
    | 0x05 => some .fmaxS
    | _ => none
  | 0x1a => match min with
    | 0x00 => some .fdivS
    | 0x01 => some .fsqrtS
    | 0x02 => some .frcpS
    | 0x03 => some .frsqS
    | _ => none
  | 0x1b => match min with
    | 0x00 => some .fexp2S
    | 0x01 => some .flog2S
    | 0x02 => some .fsinpiS
    | 0x03 => some .fcospiS
    | _ => none
  | _ => none

/-- The S forms of the scalar variant: MAJ alone selects (R406). -/
def scalarRow (maj : Nat) : Option (SScalar → Instr) :=
  match maj with
  | 0x01 => some .saddS
  | 0x02 => some .sshlS
  | 0x03 => some .sshrS
  | 0x04 => some .smovS
  | 0x05 => some .sgetS
  | _ => none

/-- The SL forms (R406). -/
def slRow (maj : Nat) : Option (SScalar → Word → Instr) :=
  match maj with
  | 0x01 => some .saddSl
  | 0x04 => some .smovlSl
  | _ => none

/-- The S forms of the branch variant (R406). -/
def branchRow (maj : Nat) : Option (SBranch → Instr) :=
  match maj with
  | 0x08 => some .braS
  | 0x09 => some .brcS
  | 0x0a => some .brvS
  | 0x0b => some .callS
  | _ => none

/-- The forms the major map allows, by LEN (R405); none for a reserved major. Majors that hold no minor allow no form. -/
def majForms (maj : Nat) : Option (List Nat) :=
  match maj with
  | 0x00 | 0x02 | 0x03 => some [0, 1]
  | 0x01 => some [0, 2, 1]
  | 0x04 => some [0, 2, 1, 3]
  | 0x05 => some [0, 1, 3]
  | 0x06 | 0x07 => some [1]
  | 0x08 | 0x09 | 0x0a => some [0, 3]
  | 0x0b => some [0, 1, 3]
  | 0x10 | 0x11 | 0x12 => some [0, 1]
  | 0x13 => some [0, 1, 3]
  | 0x14 => some [1, 3]
  | 0x15 | 0x16 | 0x17 => some []
  | 0x18 => some [0, 1]
  | 0x19 => some [1]
  | 0x1a | 0x1b => some [0, 1]
  | 0x1c | 0x1d | 0x1e | 0x1f => some []
  | 0x20 | 0x21 | 0x22 | 0x23 => some [1]
  | 0x28 => some [1, 3]
  | 0x29 => some [1]
  | 0x2a | 0x2b | 0x2c | 0x2d => some [1, 3]
  | 0x2e | 0x2f | 0x30 | 0x31 | 0x32 | 0x33 => some [1]
  | 0x34 => some [1, 3]
  | 0x35 | 0x36 => some [1]
  | _ => none

/-- An S form, from word 0 alone: NOP (R412), the scalar and branch variants (R406), the vector variant (R409). -/
def decodeS (w0 : Half) : Option Instr :=
  let maj := (field w0 2 6).toNat
  if maj = 0 then some (.nopS (field w0 8 4) (field w0 12 20))
  else match scalarRow maj with
    | some f => some (f (unpackScalar w0))
    | none => match branchRow maj with
      | some f => some (f (unpackBranch w0))
      | none => (vecRow maj (field w0 28 4).toNat).map (fun f => f (unpackVec w0))

/-- R403 steps 2 to 4, from word 0 alone: the number of words the instruction has, or why it is none. MAJ 0x3f is
UDF, one word that always faults (R413). -/
def checkWord0 (w0 : Half) : Except DecodeError Nat :=
  let maj := (field w0 2 6).toNat
  let len := field w0 0 2
  let min := (field w0 24 8).toNat
  if maj = 0x3f then .ok 1
  else match majForms maj with
    | none => .error (.reservedMajor maj)
    | some fs =>
      if len.toNat ∈ fs then
        if len = 0 then
          if (decodeS w0).isSome then .ok 1 else .error (.minorUnassigned maj (field w0 28 4).toNat)
        else if len = 1 then
          if (xRow maj min).isSome then .ok 3 else .error (.minorUnassigned maj min)
        else if len = 2 then
          if (slRow maj).isSome then .ok 3 else .error (.lenNotAllowed maj 2)
        else if (xlRow maj min).isSome then .ok 5 else .error (.minorUnassigned maj min)
      else .error (.lenNotAllowed maj len.toNat)

/-- The decoder: the instruction that stands first in a list of words. -/
def decode (ws : List Half) : Except DecodeError Instr :=
  match ws with
  | [] => .error .truncated
  | w0 :: rest =>
    let maj := (field w0 2 6).toNat
    let len := field w0 0 2
    let min := (field w0 24 8).toNat
    if maj = 0x3f then .ok (.udf len (field w0 8 4) (field w0 12 20))
    else match checkWord0 w0 with
      | .error e => .error e
      | .ok _ =>
        if len = 0 then
          match decodeS w0 with
          | some i => .ok i
          | none => .error (.minorUnassigned maj min)
        else if len = 2 then
          match slRow maj, rest with
          | some f, lo :: hi :: _ => .ok (f (unpackScalar w0) (litOf lo hi))
          | some _, _ => .error .truncated
          | none, _ => .error (.lenNotAllowed maj 2)
        else if len = 1 then
          match xRow maj min, rest with
          | some f, w1 :: w2 :: _ => .ok (f (unpackX w0 w1 w2))
          | some _, _ => .error .truncated
          | none, _ => .error (.minorUnassigned maj min)
        else
          match xlRow maj min, rest with
          | some f, w1 :: w2 :: lo :: hi :: _ => .ok (f (unpackX w0 w1 w2) (litOf lo hi))
          | some _, _ => .error .truncated
          | none, _ => .error (.minorUnassigned maj min)

/-- Four bytes to a word, the least significant at the lowest address (R5). -/
def wordsOfBytes : List Byte → List Half
  | a :: b :: c :: d :: r => (d ++ c ++ b ++ a) :: wordsOfBytes r
  | _ => []

/-- The decoder on bytes, in memory order; it answers for any bytes. -/
def decodeBytes (bs : List Byte) : Except DecodeError Instr := decode (wordsOfBytes bs)

/-- An encoding's place in the opcode map: form (LEN), major and minor opcode. -/
structure Opcode where
  len : BitVec 2
  maj : BitVec 6
  min : BitVec 8
  deriving DecidableEq, Repr

/-- Where an instruction stands in the opcode map (R406 to R413); an event of the module stands nowhere. -/
def opcodeOf : Instr → Option Opcode
  | .nopS _ _ => some ⟨0, 0x00, 0x00⟩
  | .saddS _ => some ⟨0, 0x01, 0x00⟩
  | .sshlS _ => some ⟨0, 0x02, 0x00⟩
  | .sshrS _ => some ⟨0, 0x03, 0x00⟩
  | .smovS _ => some ⟨0, 0x04, 0x00⟩
  | .sgetS _ => some ⟨0, 0x05, 0x00⟩
  | .braS _ => some ⟨0, 0x08, 0x00⟩
  | .brcS _ => some ⟨0, 0x09, 0x00⟩
  | .brvS _ => some ⟨0, 0x0a, 0x00⟩
  | .callS _ => some ⟨0, 0x0b, 0x00⟩
  | .vaddS _ => some ⟨0, 0x10, 0x00⟩
  | .vsubS _ => some ⟨0, 0x10, 0x01⟩
  | .vandS _ => some ⟨0, 0x10, 0x02⟩
  | .vorS _ => some ⟨0, 0x10, 0x03⟩
  | .vxorS _ => some ⟨0, 0x10, 0x04⟩
  | .vnotS _ => some ⟨0, 0x10, 0x05⟩
  | .vmulS _ => some ⟨0, 0x11, 0x00⟩
  | .vmulhS _ => some ⟨0, 0x11, 0x01⟩
  | .vshlS _ => some ⟨0, 0x12, 0x00⟩
  | .vshrS _ => some ⟨0, 0x12, 0x01⟩
  | .vsarS _ => some ⟨0, 0x12, 0x02⟩
  | .vclzS _ => some ⟨0, 0x12, 0x03⟩
  | .vpopcS _ => some ⟨0, 0x12, 0x04⟩
  | .vbrevS _ => some ⟨0, 0x12, 0x05⟩
  | .vminS _ => some ⟨0, 0x13, 0x00⟩
  | .vmaxS _ => some ⟨0, 0x13, 0x01⟩
  | .vabsS _ => some ⟨0, 0x13, 0x02⟩
  | .vnegS _ => some ⟨0, 0x13, 0x03⟩
  | .vmovS _ => some ⟨0, 0x13, 0x06⟩
  | .faddS _ => some ⟨0, 0x18, 0x00⟩
  | .fsubS _ => some ⟨0, 0x18, 0x01⟩
  | .fmulS _ => some ⟨0, 0x18, 0x02⟩
  | .fminS _ => some ⟨0, 0x18, 0x04⟩
  | .fmaxS _ => some ⟨0, 0x18, 0x05⟩
  | .fdivS _ => some ⟨0, 0x1a, 0x00⟩
  | .fsqrtS _ => some ⟨0, 0x1a, 0x01⟩
  | .frcpS _ => some ⟨0, 0x1a, 0x02⟩
  | .frsqS _ => some ⟨0, 0x1a, 0x03⟩
  | .fexp2S _ => some ⟨0, 0x1b, 0x00⟩
  | .flog2S _ => some ⟨0, 0x1b, 0x01⟩
  | .fsinpiS _ => some ⟨0, 0x1b, 0x02⟩
  | .fcospiS _ => some ⟨0, 0x1b, 0x03⟩
  | .saddSl _ _ => some ⟨2, 0x01, 0x00⟩
  | .smovlSl _ _ => some ⟨2, 0x04, 0x00⟩
  | .nopX _ => some ⟨1, 0x00, 0x00⟩
  | .saddX _ => some ⟨1, 0x01, 0x00⟩
  | .ssub _ => some ⟨1, 0x01, 0x01⟩
  | .smul _ => some ⟨1, 0x01, 0x02⟩
  | .smulh _ => some ⟨1, 0x01, 0x03⟩
  | .sand _ => some ⟨1, 0x02, 0x00⟩
  | .sor _ => some ⟨1, 0x02, 0x01⟩
  | .sxor _ => some ⟨1, 0x02, 0x02⟩
  | .sshlX _ => some ⟨1, 0x02, 0x03⟩
  | .sshrX _ => some ⟨1, 0x02, 0x04⟩
  | .ssar _ => some ⟨1, 0x02, 0x05⟩
  | .sclz _ => some ⟨1, 0x02, 0x06⟩
  | .spopc _ => some ⟨1, 0x02, 0x07⟩
  | .smin _ => some ⟨1, 0x03, 0x00⟩
  | .smax _ => some ⟨1, 0x03, 0x01⟩
  | .scmp _ => some ⟨1, 0x03, 0x02⟩
  | .ssel _ => some ⟨1, 0x03, 0x03⟩
  | .smovX _ => some ⟨1, 0x04, 0x00⟩
  | .sgetX _ => some ⟨1, 0x05, 0x00⟩
  | .sset _ => some ⟨1, 0x05, 0x01⟩
  | .trapX _ => some ⟨1, 0x05, 0x02⟩
  | .brk _ => some ⟨1, 0x05, 0x03⟩
  | .yield _ => some ⟨1, 0x05, 0x04⟩
  | .prio _ => some ⟨1, 0x05, 0x05⟩
  | .kand _ => some ⟨1, 0x06, 0x00⟩
  | .kor _ => some ⟨1, 0x06, 0x01⟩
  | .kxor _ => some ⟨1, 0x06, 0x02⟩
  | .knot _ => some ⟨1, 0x06, 0x03⟩
  | .kmov _ => some ⟨1, 0x06, 0x04⟩
  | .kfroms _ => some ⟨1, 0x06, 0x05⟩
  | .ktos _ => some ⟨1, 0x06, 0x06⟩
  | .kpopc _ => some ⟨1, 0x06, 0x07⟩
  | .kfirst _ => some ⟨1, 0x06, 0x08⟩
  | .waitf _ => some ⟨1, 0x07, 0x00⟩
  | .delay _ => some ⟨1, 0x07, 0x01⟩
  | .jmpi _ => some ⟨1, 0x0b, 0x01⟩
  | .ret _ => some ⟨1, 0x0b, 0x02⟩
  | .rejoin _ => some ⟨1, 0x0b, 0x03⟩
  | .exit _ => some ⟨1, 0x0b, 0x04⟩
  | .tail _ => some ⟨1, 0x0b, 0x05⟩
  | .migr _ => some ⟨1, 0x0b, 0x06⟩
  | .vaddX _ => some ⟨1, 0x10, 0x00⟩
  | .vsubX _ => some ⟨1, 0x10, 0x01⟩
  | .vandX _ => some ⟨1, 0x10, 0x02⟩
  | .vorX _ => some ⟨1, 0x10, 0x03⟩
  | .vxorX _ => some ⟨1, 0x10, 0x04⟩
  | .vnotX _ => some ⟨1, 0x10, 0x05⟩
  | .vmulX _ => some ⟨1, 0x11, 0x00⟩
  | .vmulhX _ => some ⟨1, 0x11, 0x01⟩
  | .vmad _ => some ⟨1, 0x11, 0x02⟩
  | .vshlX _ => some ⟨1, 0x12, 0x00⟩
  | .vshrX _ => some ⟨1, 0x12, 0x01⟩
  | .vsarX _ => some ⟨1, 0x12, 0x02⟩
  | .vclzX _ => some ⟨1, 0x12, 0x03⟩
  | .vpopcX _ => some ⟨1, 0x12, 0x04⟩
  | .vbrevX _ => some ⟨1, 0x12, 0x05⟩
  | .vbfe _ => some ⟨1, 0x12, 0x06⟩
  | .vbfi _ => some ⟨1, 0x12, 0x07⟩
  | .vminX _ => some ⟨1, 0x13, 0x00⟩
  | .vmaxX _ => some ⟨1, 0x13, 0x01⟩
  | .vabsX _ => some ⟨1, 0x13, 0x02⟩
  | .vnegX _ => some ⟨1, 0x13, 0x03⟩
  | .vcmp _ => some ⟨1, 0x13, 0x04⟩
  | .vsel _ => some ⟨1, 0x13, 0x05⟩
  | .vmovX _ => some ⟨1, 0x13, 0x06⟩
  | .vleaX _ => some ⟨1, 0x14, 0x00⟩
  | .faddX _ => some ⟨1, 0x18, 0x00⟩
  | .fsubX _ => some ⟨1, 0x18, 0x01⟩
  | .fmulX _ => some ⟨1, 0x18, 0x02⟩
  | .ffma _ => some ⟨1, 0x18, 0x03⟩
  | .fminX _ => some ⟨1, 0x18, 0x04⟩
  | .fmaxX _ => some ⟨1, 0x18, 0x05⟩
  | .fcmp _ => some ⟨1, 0x19, 0x00⟩
  | .fclass _ => some ⟨1, 0x19, 0x01⟩
  | .frnd _ => some ⟨1, 0x19, 0x02⟩
  | .fdivX _ => some ⟨1, 0x1a, 0x00⟩
  | .fsqrtX _ => some ⟨1, 0x1a, 0x01⟩
  | .frcpX _ => some ⟨1, 0x1a, 0x02⟩
  | .frsqX _ => some ⟨1, 0x1a, 0x03⟩
  | .fexp2X _ => some ⟨1, 0x1b, 0x00⟩
  | .flog2X _ => some ⟨1, 0x1b, 0x01⟩
  | .fsinpiX _ => some ⟨1, 0x1b, 0x02⟩
  | .fcospiX _ => some ⟨1, 0x1b, 0x03⟩
  | .cvt _ => some ⟨1, 0x20, 0x00⟩
  | .vpack _ => some ⟨1, 0x20, 0x01⟩
  | .vunpk _ => some ⟨1, 0x20, 0x02⟩
  | .vcbdec _ => some ⟨1, 0x21, 0x00⟩
  | .vcbenc _ => some ⟨1, 0x21, 0x01⟩
  | .vbscal _ => some ⟨1, 0x21, 0x02⟩
  | .vshfl _ => some ⟨1, 0x22, 0x00⟩
  | .vperm _ => some ⟨1, 0x22, 0x01⟩
  | .vbcast _ => some ⟨1, 0x22, 0x02⟩
  | .vnbrLeft _ => some ⟨1, 0x22, 0x03⟩
  | .vnbrRight _ => some ⟨1, 0x22, 0x04⟩
  | .vred _ => some ⟨1, 0x23, 0x00⟩
  | .vscan _ => some ⟨1, 0x23, 0x01⟩
  | .vballot _ => some ⟨1, 0x23, 0x02⟩
  | .vldX _ => some ⟨1, 0x28, 0x00⟩
  | .vstX _ => some ⟨1, 0x28, 0x01⟩
  | .vldx _ => some ⟨1, 0x29, 0x00⟩
  | .vstx _ => some ⟨1, 0x29, 0x01⟩
  | .sldX _ => some ⟨1, 0x2a, 0x00⟩
  | .sstX _ => some ⟨1, 0x2a, 0x01⟩
  | .prefX _ => some ⟨1, 0x2b, 0x00⟩
  | .pld _ => some ⟨1, 0x2c, 0x00⟩
  | .pst _ => some ⟨1, 0x2c, 0x01⟩
  | .vatom _ => some ⟨1, 0x2d, 0x00⟩
  | .patom _ => some ⟨1, 0x2d, 0x01⟩
  | .ratomX _ => some ⟨1, 0x2d, 0x02⟩
  | .feld _ => some ⟨1, 0x2e, 0x00⟩
  | .fest _ => some ⟨1, 0x2e, 0x01⟩
  | .fefill _ => some ⟨1, 0x2e, 0x02⟩
  | .feclr _ => some ⟨1, 0x2e, 0x03⟩
  | .feqry _ => some ⟨1, 0x2e, 0x04⟩
  | .waita _ => some ⟨1, 0x2e, 0x05⟩
  | .phase _ => some ⟨1, 0x2f, 0x00⟩
  | .bar _ => some ⟨1, 0x2f, 0x01⟩
  | .barx _ => some ⟨1, 0x2f, 0x02⟩
  | .fence _ => some ⟨1, 0x2f, 0x03⟩
  | .ifence _ => some ⟨1, 0x2f, 0x04⟩
  | .icinv _ => some ⟨1, 0x2f, 0x05⟩
  | .cflush _ => some ⟨1, 0x2f, 0x06⟩
  | .cinv _ => some ⟨1, 0x2f, 0x07⟩
  | .sbmode _ => some ⟨1, 0x2f, 0x08⟩
  | .gdef _ => some ⟨1, 0x30, 0x00⟩
  | .gview _ => some ⟨1, 0x30, 0x01⟩
  | .grel _ => some ⟨1, 0x30, 0x02⟩
  | .tload _ => some ⟨1, 0x31, 0x00⟩
  | .tmma _ => some ⟨1, 0x31, 0x01⟩
  | .tew _ => some ⟨1, 0x31, 0x02⟩
  | .tred _ => some ⟨1, 0x31, 0x03⟩
  | .tcvt _ => some ⟨1, 0x31, 0x04⟩
  | .tforce _ => some ⟨1, 0x32, 0x00⟩
  | .tstore _ => some ⟨1, 0x32, 0x01⟩
  | .twait _ => some ⟨1, 0x32, 0x02⟩
  | .tdrop _ => some ⟨1, 0x32, 0x03⟩
  | .tqry _ => some ⟨1, 0x32, 0x04⟩
  | .lstat _ => some ⟨1, 0x33, 0x00⟩
  | .lswap _ => some ⟨1, 0x33, 0x01⟩
  | .mstrm _ => some ⟨1, 0x33, 0x02⟩
  | .mdrain _ => some ⟨1, 0x33, 0x03⟩
  | .btake _ => some ⟨1, 0x33, 0x04⟩
  | .bpass _ => some ⟨1, 0x33, 0x05⟩
  | .ownset _ => some ⟨1, 0x33, 0x06⟩
  | .ownq _ => some ⟨1, 0x33, 0x07⟩
  | .copyX _ => some ⟨1, 0x34, 0x00⟩
  | .copymX _ => some ⟨1, 0x34, 0x01⟩
  | .pkrd _ => some ⟨1, 0x35, 0x00⟩
  | .pkwr _ => some ⟨1, 0x35, 0x01⟩
  | .pkvget _ => some ⟨1, 0x35, 0x02⟩
  | .pkvset _ => some ⟨1, 0x35, 0x03⟩
  | .pkact _ => some ⟨1, 0x35, 0x04⟩
  | .enq _ => some ⟨1, 0x36, 0x00⟩
  | .qstat _ => some ⟨1, 0x36, 0x01⟩
  | .smovlXl _ _ => some ⟨3, 0x04, 0x01⟩
  | .trapXl _ _ => some ⟨3, 0x05, 0x02⟩
  | .braXl _ _ => some ⟨3, 0x08, 0x00⟩
  | .brcXl _ _ => some ⟨3, 0x09, 0x00⟩
  | .brvXl _ _ => some ⟨3, 0x0a, 0x00⟩
  | .callXl _ _ => some ⟨3, 0x0b, 0x00⟩
  | .vmovXl _ _ => some ⟨3, 0x13, 0x06⟩
  | .vleaXl _ _ => some ⟨3, 0x14, 0x00⟩
  | .vldXl _ _ => some ⟨3, 0x28, 0x00⟩
  | .vstXl _ _ => some ⟨3, 0x28, 0x01⟩
  | .sldXl _ _ => some ⟨3, 0x2a, 0x00⟩
  | .sstXl _ _ => some ⟨3, 0x2a, 0x01⟩
  | .prefXl _ _ => some ⟨3, 0x2b, 0x00⟩
  | .pldr _ _ => some ⟨3, 0x2c, 0x02⟩
  | .pstr _ _ => some ⟨3, 0x2c, 0x03⟩
  | .ratomXl _ _ => some ⟨3, 0x2d, 0x02⟩
  | .copyXl _ _ => some ⟨3, 0x34, 0x00⟩
  | .copymXl _ _ => some ⟨3, 0x34, 0x01⟩
  | .udf len _ _ => some ⟨len, 0x3f, 0⟩
  | _ => none

/-- The X-form fields of an X or XL instruction. -/
def xFieldsOf : Instr → Option XFields
  | .nopX x => some x
  | .saddX x => some x
  | .ssub x => some x
  | .smul x => some x
  | .smulh x => some x
  | .sand x => some x
  | .sor x => some x
  | .sxor x => some x
  | .sshlX x => some x
  | .sshrX x => some x
  | .ssar x => some x
  | .sclz x => some x
  | .spopc x => some x
  | .smin x => some x
  | .smax x => some x
  | .scmp x => some x
  | .ssel x => some x
  | .smovX x => some x
  | .sgetX x => some x
  | .sset x => some x
  | .trapX x => some x
  | .brk x => some x
  | .yield x => some x
  | .prio x => some x
  | .kand x => some x
  | .kor x => some x
  | .kxor x => some x
  | .knot x => some x
  | .kmov x => some x
  | .kfroms x => some x
  | .ktos x => some x
  | .kpopc x => some x
  | .kfirst x => some x
  | .waitf x => some x
  | .delay x => some x
  | .jmpi x => some x
  | .ret x => some x
  | .rejoin x => some x
  | .exit x => some x
  | .tail x => some x
  | .migr x => some x
  | .vaddX x => some x
  | .vsubX x => some x
  | .vandX x => some x
  | .vorX x => some x
  | .vxorX x => some x
  | .vnotX x => some x
  | .vmulX x => some x
  | .vmulhX x => some x
  | .vmad x => some x
  | .vshlX x => some x
  | .vshrX x => some x
  | .vsarX x => some x
  | .vclzX x => some x
  | .vpopcX x => some x
  | .vbrevX x => some x
  | .vbfe x => some x
  | .vbfi x => some x
  | .vminX x => some x
  | .vmaxX x => some x
  | .vabsX x => some x
  | .vnegX x => some x
  | .vcmp x => some x
  | .vsel x => some x
  | .vmovX x => some x
  | .vleaX x => some x
  | .faddX x => some x
  | .fsubX x => some x
  | .fmulX x => some x
  | .ffma x => some x
  | .fminX x => some x
  | .fmaxX x => some x
  | .fcmp x => some x
  | .fclass x => some x
  | .frnd x => some x
  | .fdivX x => some x
  | .fsqrtX x => some x
  | .frcpX x => some x
  | .frsqX x => some x
  | .fexp2X x => some x
  | .flog2X x => some x
  | .fsinpiX x => some x
  | .fcospiX x => some x
  | .cvt x => some x
  | .vpack x => some x
  | .vunpk x => some x
  | .vcbdec x => some x
  | .vcbenc x => some x
  | .vbscal x => some x
  | .vshfl x => some x
  | .vperm x => some x
  | .vbcast x => some x
  | .vnbrLeft x => some x
  | .vnbrRight x => some x
  | .vred x => some x
  | .vscan x => some x
  | .vballot x => some x
  | .vldX x => some x
  | .vstX x => some x
  | .vldx x => some x
  | .vstx x => some x
  | .sldX x => some x
  | .sstX x => some x
  | .prefX x => some x
  | .pld x => some x
  | .pst x => some x
  | .vatom x => some x
  | .patom x => some x
  | .ratomX x => some x
  | .feld x => some x
  | .fest x => some x
  | .fefill x => some x
  | .feclr x => some x
  | .feqry x => some x
  | .waita x => some x
  | .phase x => some x
  | .bar x => some x
  | .barx x => some x
  | .fence x => some x
  | .ifence x => some x
  | .icinv x => some x
  | .cflush x => some x
  | .cinv x => some x
  | .sbmode x => some x
  | .gdef x => some x
  | .gview x => some x
  | .grel x => some x
  | .tload x => some x
  | .tmma x => some x
  | .tew x => some x
  | .tred x => some x
  | .tcvt x => some x
  | .tforce x => some x
  | .tstore x => some x
  | .twait x => some x
  | .tdrop x => some x
  | .tqry x => some x
  | .lstat x => some x
  | .lswap x => some x
  | .mstrm x => some x
  | .mdrain x => some x
  | .btake x => some x
  | .bpass x => some x
  | .ownset x => some x
  | .ownq x => some x
  | .copyX x => some x
  | .copymX x => some x
  | .pkrd x => some x
  | .pkwr x => some x
  | .pkvget x => some x
  | .pkvset x => some x
  | .pkact x => some x
  | .enq x => some x
  | .qstat x => some x
  | .smovlXl x _ => some x
  | .trapXl x _ => some x
  | .braXl x _ => some x
  | .brcXl x _ => some x
  | .brvXl x _ => some x
  | .callXl x _ => some x
  | .vmovXl x _ => some x
  | .vleaXl x _ => some x
  | .vldXl x _ => some x
  | .vstXl x _ => some x
  | .sldXl x _ => some x
  | .sstXl x _ => some x
  | .prefXl x _ => some x
  | .pldr x _ => some x
  | .pstr x _ => some x
  | .ratomXl x _ => some x
  | .copyXl x _ => some x
  | .copymXl x _ => some x
  | _ => none

/-- The scalar-variant fields. -/
def scalarFieldsOf : Instr → Option SScalar
  | .saddS x => some x
  | .sshlS x => some x
  | .sshrS x => some x
  | .smovS x => some x
  | .sgetS x => some x
  | .saddSl x _ => some x
  | .smovlSl x _ => some x
  | _ => none

/-- The vector-variant fields. -/
def vecFieldsOf : Instr → Option SVec
  | .vaddS x => some x
  | .vsubS x => some x
  | .vandS x => some x
  | .vorS x => some x
  | .vxorS x => some x
  | .vnotS x => some x
  | .vmulS x => some x
  | .vmulhS x => some x
  | .vshlS x => some x
  | .vshrS x => some x
  | .vsarS x => some x
  | .vclzS x => some x
  | .vpopcS x => some x
  | .vbrevS x => some x
  | .vminS x => some x
  | .vmaxS x => some x
  | .vabsS x => some x
  | .vnegS x => some x
  | .vmovS x => some x
  | .faddS x => some x
  | .fsubS x => some x
  | .fmulS x => some x
  | .fminS x => some x
  | .fmaxS x => some x
  | .fdivS x => some x
  | .fsqrtS x => some x
  | .frcpS x => some x
  | .frsqS x => some x
  | .fexp2S x => some x
  | .flog2S x => some x
  | .fsinpiS x => some x
  | .fcospiS x => some x
  | _ => none

/-- The branch-variant fields. -/
def branchFieldsOf : Instr → Option SBranch
  | .braS x => some x
  | .brcS x => some x
  | .brvS x => some x
  | .callS x => some x
  | _ => none

/-- The 64-bit literal of an SL or XL instruction. -/
def literalOf : Instr → Option Word
  | .saddSl _ l => some l
  | .smovlSl _ l => some l
  | .smovlXl _ l => some l
  | .trapXl _ l => some l
  | .braXl _ l => some l
  | .brcXl _ l => some l
  | .brvXl _ l => some l
  | .callXl _ l => some l
  | .vmovXl _ l => some l
  | .vleaXl _ l => some l
  | .vldXl _ l => some l
  | .vstXl _ l => some l
  | .sldXl _ l => some l
  | .sstXl _ l => some l
  | .prefXl _ l => some l
  | .pldr _ l => some l
  | .pstr _ l => some l
  | .ratomXl _ l => some l
  | .copyXl _ l => some l
  | .copymXl _ l => some l
  | _ => none

/-- The encoder: the words of an instruction, from the tables above; an event of the module has none. -/
def encode (i : Instr) : List Half :=
  match i with
  | .nopS sch z => [z ++ sch ++ (0 : BitVec 6) ++ (0 : BitVec 2)]
  | .udf len sch n => [n ++ sch ++ (0x3f : BitVec 6) ++ len]
  | i => match opcodeOf i with
    | none => []
    | some op => match xFieldsOf i with
      | some x => packX op.maj op.min op.len x ++ (match literalOf i with | some l => litWords l | none => [])
      | none => match scalarFieldsOf i with
        | some x => packScalar op.maj op.len x :: (match literalOf i with | some l => litWords l | none => [])
        | none => match vecFieldsOf i with
          | some x => [packVec op.maj (op.min.extractLsb' 0 4) x]
          | none => match branchFieldsOf i with
            | some x => [packBranch op.maj x]
            | none => []

/-- The length of an instruction in bytes (R404): by LEN alone, whether or not the words are an instruction. -/
def lengthBytes (i : Instr) : Nat :=
  match opcodeOf i with
  | some op => 4 * lenWords op.len
  | none => 0

/-- The 32-bit words of a number, the least significant first. -/
def natWords (w : Nat) : Nat → List Half
  | 0 => []
  | k + 1 => BitVec.ofNat 32 w :: natWords (w / 4294967296) k

/-- The instruction the decoder reads from an instruction whose bits are `w`, bit 0 the least significant bit of the
first word; bits from `nbits` up are zero. -/
def decodeTableWord (nbits w : Nat) : Option Instr :=
  match decode (natWords (w % 2 ^ nbits) 5) with
  | .ok i => some i
  | .error _ => none

end Sys2Proof
end

