-- ==== Sys2Proof/Machine/Fields.lean ====
section
/-! DEFINITION. Which fields each instruction uses (13 R381 to R389, and the tables of 15 to 18), the check of every
RESERVED_ENCODING case that the words alone decide, and the check of PROFILE_OPERAND. Written once, as one table that
the checks, the interlocks and the meanings read. -/
namespace Sys2Proof

/-- How wide a vector operand is: by TYPE, or fixed. -/
inductive Wid where
  | type | w32 | w64
  /-- by the type code in EXT [22:19] (CVT) or EXT [26:23] (VPACK, VUNPK) -/
  | ext0 | ext4
  deriving DecidableEq, Repr

/-- What an 8-bit operand field names. -/
inductive Opd where
  | mbz
  /-- a vector source or destination (R381, R382) -/
  | v (w : Wid)
  /-- v0 to v239 only (R463) -/
  | vreg (w : Wid)
  /-- s0 to s63, and 244 for zero in a source (R383) -/
  | s
  /-- s0 to s63 only (R496) -/
  | sReg
  /-- a scalar destination or any 6-bit register number (R418) -/
  | sd
  /-- a mask register; a destination may not be k0 (R383) -/
  | k | kd
  /-- a tensor identifier (R496) -/
  | g
  /-- four scalar registers from a base of at most 60, or 244 (R505) -/
  | box
  /-- 244 only (R514) -/
  | z
  /-- checked by the description -/
  | any
  deriving DecidableEq, Repr

/-- Latency classes of R233; `none` for an instruction that writes no register (R419). -/
inductive LatClass where
  | scalar | vint | vmul | f32 | f64 | cvt | variable | none
  deriving DecidableEq, Repr

/-- The fields an X or XL form uses. A field that is not listed is MBZ (R379). -/
structure Use where
  vd : Opd := .mbz
  sa : Opd := .mbz
  sb : Opd := .mbz
  sc : Opd := .mbz
  rm : Bool := false
  sat : Bool := false
  nwb : Bool := false
  km : Bool := false
  kz : Bool := false
  /-- allowed TYPE codes; none lists MBZ -/
  types : List Nat := []
  /-- element types under PAIR (R340); none lists that PAIR is not allowed -/
  pair : List Nat := []
  /-- used bits of EXT, bit 0 being word 2 [19] -/
  ext : Nat := 0
  /-- used bits of a word 1 with a layout of its own (R418, R522) -/
  w1 : Option Nat := .none
  /-- course-wide (R384, R495) -/
  wide : Bool := false
  cls : LatClass := .variable
  deriving DecidableEq, Repr

def typesInt : List Nat := [0, 1, 2, 3, 4, 5, 6, 7]
def typesS : List Nat := [4, 5, 6, 7]
def typesF : List Nat := [8, 9, 10, 11]
def typesF32 : List Nat := [8, 9, 10]
def typesMove : List Nat := [0, 1, 2, 3, 4, 5, 6, 7, 8, 9, 10, 11, 12]
def typesCvt : List Nat := [0, 1, 2, 3, 4, 5, 6, 7, 8, 9, 10, 11]
def typesMem : List Nat := [0, 1, 2, 3, 4, 5, 6, 7, 8, 9, 10, 11, 12, 13]

/-- Scalar two-operand, and one-operand, arithmetic (R421). -/
def Use.s2 : Use := { vd := .sd, sa := .s, sb := .s, types := typesS, cls := .scalar }
def Use.s1 : Use := { vd := .sd, sa := .s, types := typesS, cls := .scalar }
/-- Mask operations of two sources and of one (R430). -/
def Use.k2 : Use := { vd := .kd, sa := .k, sb := .k, cls := .scalar }
def Use.k1 : Use := { vd := .kd, sa := .k, cls := .scalar }
/-- Vector integer operations (R443, R449). -/
def Use.vi2 (pair : Bool) (sat : Bool) (cls : LatClass) : Use :=
  { vd := .v .type, sa := .v .type, sb := .v .type, types := typesInt, pair := if pair then [2, 3] else [], sat,
    nwb := true, km := true, kz := true, cls }
def Use.vi1 (pair : Bool) (sat : Bool) (cls : LatClass) : Use := { Use.vi2 pair sat cls with sb := .mbz }
/-- Float operations (R454). -/
def Use.f2 (pair : Bool) (rm : Bool) (cls : LatClass) : Use :=
  { vd := .v .type, sa := .v .type, sb := .v .type, types := typesF, pair := if pair then [8, 9] else [], rm,
    nwb := true, km := true, kz := true, cls }
def Use.f1 (rm : Bool) (cls : LatClass) : Use := { Use.f2 false rm cls with sb := .mbz }
/-- Movement between lanes (R463). -/
def Use.mv : Use :=
  { vd := .v .type, sa := .v .type, types := typesMove, nwb := true, km := true, kz := true }
/-- Atomics per lane, by OP (R475, R477). -/
def Use.atom (op : Nat) (addr : Wid) : Use :=
  { vd := if op = 1 then .mbz else .v .type, sa := .v addr, sb := if op = 0 then .mbz else .v .type,
    sc := if op = 3 then .v .type else .mbz,
    types := if op ≤ 3 then [4, 5, 6, 7, 10, 11] else if op = 10 then [10, 11] else typesS,
    nwb := true, km := true, kz := op ≠ 1, ext := 0x1ff }
/-- Tile nodes (R500). -/
def Use.tile : Use := { vd := .g, sa := .g, wide := true }

/-- The fields each X or XL form uses; none for any other form and for the events. -/
def useOf : Instr → Option Use
  | .nopX _ => some { cls := .none }
  | .saddX _ | .ssub _ | .smul _ => some { Use.s2 with sat := true }
  | .smulh _ | .sand _ | .sor _ | .sxor _ | .sshlX _ | .sshrX _ | .ssar _ | .smin _ | .smax _ => some Use.s2
  | .sclz _ | .spopc _ => some Use.s1
  | .scmp _ => some { Use.s2 with ext := 0xf }
  | .ssel _ => some { Use.s2 with sc := .s }
  | .smovX _ => some { vd := .sd, sa := .s, cls := .scalar }
  | .smovlXl _ _ => some { vd := .sd, cls := .scalar }
  | .sgetX x =>
    if x.ext.getLsbD 0 then some { vd := .v .w32, sa := .any, ext := 1, km := true, kz := true, cls := .vint }
    else some { vd := .sd, sa := .any, ext := 1, cls := .scalar }
  | .sset _ => some { sa := .any, sb := .s }
  | .trapX _ | .brk _ => some { w1 := some 0x0700ffff, cls := .none }
  | .trapXl _ _ => some { w1 := some 0x07000000, cls := .none }
  | .yield _ => some { cls := .none }
  | .prio _ => some { w1 := some 7, cls := .none }
  | .kand _ | .kor _ | .kxor _ => some Use.k2
  | .knot _ | .kmov _ => some Use.k1
  | .kfroms _ => some { Use.k1 with sa := .s }
  | .ktos _ | .kpopc _ | .kfirst _ => some { vd := .sd, sa := .k, cls := .scalar }
  | .waitf _ => some { w1 := some 0x3ffff, cls := .none }
  | .delay _ => some { w1 := some 0xffff, cls := .none }
  | .braXl _ _ => some { cls := .none }
  | .callXl _ _ => some { cls := .scalar }
  | .brcXl _ _ | .brvXl _ _ => some { sa := .k, ext := 1, cls := .none }
  | .jmpi _ | .ret _ => some { sa := .s, cls := .none }
  | .rejoin _ => some { sa := .k, cls := .none }
  | .exit _ | .tail _ => some { km := true, cls := .none }
  | .migr _ => some { w1 := some 0xffff, cls := .none }
  | .vaddX _ | .vsubX _ => some (Use.vi2 true true .vint)
  | .vandX _ | .vorX _ | .vxorX _ => some (Use.vi2 false false .vint)
  | .vnotX _ => some (Use.vi1 false false .vint)
  | .vmulX _ => some (Use.vi2 true true .vmul)
  | .vmulhX _ => some (Use.vi2 false false .vmul)
  | .vmad _ => some { Use.vi2 false true .vmul with sc := .v .type }
  | .vshlX _ | .vshrX _ | .vsarX _ => some (Use.vi2 true false .vint)
  | .vclzX _ | .vpopcX _ | .vbrevX _ => some (Use.vi1 false false .vint)
  | .vbfe _ | .vbfi _ => some { Use.vi2 false false .vint with sc := .v .type, types := typesS }
  | .vminX _ | .vmaxX _ => some (Use.vi2 true false .vint)
  | .vabsX _ | .vnegX _ => some (Use.vi1 true true .vint)
  | .vcmp _ => some { Use.vi2 false false .vint with vd := .kd, ext := 0xf }
  | .vsel _ => some { Use.vi2 false false .vint with sc := .k, types := typesMove }
  | .vmovX _ => some { Use.vi1 false false .vint with types := typesMove }
  | .vmovXl _ _ => some { Use.vi1 false false .vint with sa := .mbz, types := typesMove }
  | .vleaX _ | .vleaXl _ _ => some { Use.vi2 false false .vint with vd := .v .w64, sa := .v .w64, types := typesS, ext := 7 }
  | .faddX x | .fsubX x | .fmulX x => some (Use.f2 true true (if x.type = 11 then .f64 else .f32))
  | .ffma x => some { Use.f2 true true (if x.type = 11 then .f64 else .f32) with sc := .v .type }
  | .fminX x | .fmaxX x => some (Use.f2 true false (if x.type = 11 then .f64 else .f32))
  | .fcmp x => some { Use.f2 false false (if x.type = 11 then .f64 else .f32) with vd := .kd, ext := 0xf }
  | .fclass x => some { Use.f1 false (if x.type = 11 then .f64 else .f32) with vd := .v .w32 }
  | .frnd x => some (Use.f1 true (if x.type = 11 then .f64 else .f32))
  | .fdivX _ => some (Use.f2 false true .variable)
  | .fsqrtX _ => some (Use.f1 true .variable)
  | .frcpX _ | .frsqX _ => some (Use.f1 true .variable)
  | .fexp2X _ | .flog2X _ | .fsinpiX _ | .fcospiX _ => some { Use.f1 true .variable with types := typesF32 }
  | .cvt _ => some { Use.f1 true .cvt with sa := .v .ext0, types := typesCvt, sat := true, ext := 0xf }
  | .vpack _ => some { Use.f2 false true .cvt with vd := .v .w32, sa := .v .ext4, sb := .v .ext4, types := [], pair := [2, 3, 8, 9], sat := true, ext := 0xff }
  | .vunpk _ => some { Use.f1 true .cvt with vd := .v .ext4, sa := .v .w32, types := [], pair := [2, 3, 8, 9], sat := true, ext := 0x1ff }
  | .vcbdec _ => some { Use.f2 false true .cvt with sa := .v .w32, sb := .v .w32, sc := .v .w32, types := typesF32, ext := 7 }
  | .vcbenc _ => some { Use.f2 false false .cvt with sa := .v .w32, sb := .v .w32, sc := .v .w32, types := typesF32, ext := 7 }
  | .vbscal _ => some { Use.f1 false .cvt with sa := .v .w32, sc := .v .w32, types := typesF32, ext := 1 }
  | .vshfl _ => some { Use.mv with ext := 0x7f }
  | .vperm _ => some { Use.mv with sb := .v .w32 }
  | .vbcast _ => some { Use.mv with ext := 0x1f }
  | .vnbrLeft _ | .vnbrRight _ => some { Use.mv with sa := .vreg .type }
  | .vred _ => some { vd := .sd, sa := .v .type, types := typesInt ++ typesF, pair := [2, 3, 8, 9], rm := true, sat := true, nwb := true, km := true, ext := 0x70 }
  | .vscan _ => some { vd := .v .type, sa := .v .type, types := typesInt ++ typesF, pair := [2, 3, 8, 9], rm := true, sat := true, nwb := true, km := true, kz := true, ext := 0xf0 }
  | .vballot _ => some { vd := .sd, sa := .v .w32, nwb := true, km := true }
  | .vldX _ | .vldXl _ _ => some { vd := .v .type, sa := .v .w64, types := typesMem, nwb := true, km := true, kz := true, ext := 0x1e7 }
  | .vstX _ | .vstXl _ _ => some { sa := .v .w64, sb := .v .type, types := typesMem, km := true, ext := 7 }
  | .vldx x => some { vd := .v .type, sa := .v .w64, sb := .v (if x.ext.extractLsb' 3 2 = 2 then .w64 else .w32), types := typesMem, nwb := true, km := true, kz := true, ext := 0x1ff }
  | .vstx x => some { sa := .v .w64, sb := .v (if x.ext.extractLsb' 3 2 = 2 then .w64 else .w32), sc := .v .type, types := typesMem, km := true, ext := 0x1f }
  | .sldX _ | .sldXl _ _ => some { vd := .sd, sa := .s, types := typesCvt, nwb := true, ext := 0x1e0 }
  | .sstX _ | .sstXl _ _ => some { sa := .s, sb := .s, types := typesCvt }
  | .prefX _ | .prefXl _ _ => some { sa := .v .w64, km := true, cls := .none }
  | .pld _ => some { vd := .v .type, sa := .v .w32, types := typesMem, nwb := true, km := true, kz := true, ext := 0x1e7 }
  | .pst _ => some { sa := .v .w32, sb := .v .type, types := typesMem, km := true, ext := 7 }
  | .pldr _ _ => some { vd := .v .type, sa := .v .w32, types := typesMem, nwb := true, km := true, kz := true, ext := 7 }
  | .pstr _ _ => some { sa := .v .w32, sb := .v .type, types := typesMem, km := true, ext := 7 }
  | .vatom x =>
    let op := (x.ext.extractLsb' 0 4).toNat
    some (Use.atom op .w64)
  | .patom x =>
    let op := (x.ext.extractLsb' 0 4).toNat
    some (Use.atom op .w32)
  | .ratomX x | .ratomXl x _ =>
    let op := (x.ext.extractLsb' 0 4).toNat
    some { vd := if op = 1 then .mbz else .sd, sa := .s, sb := if op = 0 then .mbz else .s,
           sc := if op = 3 then .s else .mbz,
           types := if op ≤ 3 then [4, 5, 6, 7, 10, 11] else if op = 10 then [10, 11] else typesS,
           nwb := true, ext := 0x1ff }
  | .feld _ => some { vd := .v .w64, sa := .v .w64, km := true, kz := true, ext := 0x1d0 }
  | .fest _ | .fefill _ => some { sa := .v .w64, sb := .v .w64, km := true, ext := 0x1e0 }
  | .feclr _ => some { sa := .v .w64, km := true, ext := 0x1e0 }
  | .feqry _ => some { vd := .kd, sa := .v .w64, km := true, kz := true, ext := 0x1d0 }
  | .waita _ => some { vd := .sd, sa := .s, sb := .s, sc := .s, types := typesS, ext := 0x1df }
  | .phase _ | .bar _ => some { ext := 7 }
  | .barx _ => some { vd := .sd, sa := .s }
  | .fence _ => some { ext := 0x1f }
  | .ifence _ => some {}
  | .icinv _ => some { ext := 7 }
  | .cflush _ | .cinv _ => some { sa := .s, sb := .s }
  | .sbmode _ => some { ext := 0x3f }
  | .gdef _ => some { vd := .g, sa := .sReg, ext := 1, wide := true }
  | .gview _ => some { vd := .g, sa := .g, sb := .sReg, ext := 1, wide := true }
  | .grel _ => some { vd := .g, wide := true, cls := .none }
  | .tload _ => some Use.tile
  | .tmma _ => some { Use.tile with sb := .g, ext := 1 }
  | .tew x =>
    let op := (x.ext.extractLsb' 0 6).toNat
    some { Use.tile with sb := if op ∈ [1, 2, 3, 4, 5, 7, 8, 9, 14] then .g else .mbz, ext := 0x3f }
  | .tred _ => some { Use.tile with ext := 3 }
  | .tcvt _ => some { Use.tile with sat := true }
  | .tforce _ => some { vd := .sd, sa := .g, sb := .box, ext := 0x1c0, wide := true }
  | .tstore _ => some { vd := .sd, sa := .g, sb := .g, sc := .box, ext := 0x1c0, wide := true }
  | .twait _ => some { vd := .sd, sa := .sReg, wide := true }
  | .tdrop _ => some { sa := .g, wide := true }
  | .tqry _ => some { vd := .sd, ext := 0xf, wide := true }
  | .lstat _ => some { sa := .sReg, sb := .s, types := [0, 8, 9, 10, 11, 12], wide := true }
  | .lswap _ => some { wide := true }
  | .mstrm _ => some { sa := .sReg, sb := .sReg, sc := .s, types := [0, 8, 9, 10, 11], ext := 1, wide := true }
  | .mdrain _ => some { sa := .sReg, sb := .sReg, types := typesCvt, rm := true, sat := true, ext := 1, wide := true }
  | .btake _ | .bpass _ => some { wide := true }
  | .ownset _ => some { sa := .sReg, sb := .sReg, ext := 1, wide := true }
  | .ownq _ => some { vd := .sd, sa := .sReg, wide := true }
  | .copyX x | .copyXl x _ =>
    let fill := x.ext.getLsbD 3
    let dir := x.ext.getLsbD 0
    some { vd := if fill || x.ext.getLsbD 1 then .sd else .mbz, sa := if fill && !dir then .z else .sReg,
           sb := if fill && dir then .z else .sReg, sc := .sReg, ext := 0x1cf, wide := true }
  | .copymX _ | .copymXl _ _ =>
    some { vd := .sd, sa := .sReg, sb := .sReg, sc := .sReg, types := [0, 8, 9, 10, 11], ext := 4, wide := true }
  | .pkrd _ | .pkwr _ => some { vd := .sd, w1 := some 0x3f3f, ext := 0x1f }
  | .pkvget x | .pkvset x =>
    some { vd := .sd, w1 := some (if x.ext.extractLsb' 0 2 = 0 || x.ext.extractLsb' 0 2 = 3 then 0xffff003f else 0xff003f3f),
           ext := 3 }
  | .pkact _ => some { vd := .sd, w1 := some 0x3f, ext := 3 }
  | .enq _ => some { vd := .sd, sa := .s, sb := .s, ext := 0x1c3 }
  | .qstat _ => some { vd := .sd, sa := .s, ext := 1 }
  | _ => none

/-- 64-bit type codes (R338). -/
def wide64 (t : Nat) : Bool := t = 6 || t = 7 || t = 11

/-- Is an operand of this width a pair, in an instruction with TYPE `t` and EXT `e`? -/
def Wid.is64 (w : Wid) (t : Nat) (e : BitVec 9) : Bool :=
  match w with
  | .type => wide64 t
  | .w32 => false
  | .w64 => true
  | .ext0 => wide64 (e.extractLsb' 0 4).toNat
  | .ext4 => wide64 (e.extractLsb' 4 4).toNat

/-- A source field that raises RESERVED_ENCODING (R381, R383, R496). -/
def Opd.badSrc (o : Opd) (t : Nat) (e : BitVec 9) (n : Nat) : Bool :=
  match o with
  | .mbz => n ≠ 0
  | .v w => (245 ≤ n && n ≤ 247) || (w.is64 t e && ((n ≤ 239 && n % 2 = 1) || (240 ≤ n && n ≤ 243)))
  | .vreg w => 240 ≤ n || (w.is64 t e && n % 2 = 1)
  | .s => !(n ≤ 63 || n = 244)
  | .sReg | .sd | .g => 63 < n
  | .k => 7 < n
  | .kd => n = 0 || 7 < n
  | .box => !(n ≤ 60 || n = 244)
  | .z => n ≠ 244
  | .any => false

/-- A destination field that raises RESERVED_ENCODING (R382, R383). -/
def Opd.badDst (o : Opd) (t : Nat) (e : BitVec 9) (n : Nat) : Bool :=
  match o with
  | .v w => 244 ≤ n || (w.is64 t e && (n % 2 = 1 || 240 ≤ n))
  | o => o.badSrc t e n

/-- A route literal that fails R49. `units` says whether the instruction uses BENCH and CELL, `here` whether KIND 0x0
is allowed. -/
def badRoute (units here : Bool) (r : Word) : Bool :=
  let kind := (r.extractLsb' 60 4).toNat
  let n := (r.extractLsb' 56 4).toNat
  let turn := fun i => (r.extractLsb' (32 + 2 * i) 2).toNat
  !(kind = 1 || (kind = 0 && here))
    || (kind = 0 && (n ≠ 0 || r.extractLsb' 32 24 ≠ 0 || r.extractLsb' 29 3 ≠ 0))
    || (kind = 1 && (n = 0 || 12 < n || turn (n - 1) ≠ 3 || (List.range (n - 1)).any (fun i => turn i = 3)
        || (List.range 12).any (fun i => n ≤ i && turn i ≠ 0)))
    || 8 < (r.extractLsb' 19 4).toNat || r.extractLsb' 0 19 ≠ 0
    || (!units && (r.extractLsb' 23 6 ≠ 0 || r.extractLsb' 19 4 ≠ 0))

/-- SCOPE codes 5 to 7 are reserved, and SCOPE is MBZ without ACQ or REL (R467). -/
def badScope (given : Bool) (e : BitVec 9) : Bool :=
  4 < (e.extractLsb' 6 3).toNat || (!given && e.extractLsb' 6 3 ≠ 0)

/-- The reserved values that a description names beyond its fields' own (15 to 18). -/
def badExtra : Instr → Bool
  | .scmp x | .vcmp x => 5 < (x.ext.extractLsb' 0 4).toNat
  | .fcmp x => 7 < (x.ext.extractLsb' 0 4).toNat
  | .sgetX x => 14 < x.sa.toNat || (x.sa = 0 && !x.ext.getLsbD 0) || (x.ext.getLsbD 0 && 240 ≤ x.vd.toNat)
  | .sset x => x.sa ≠ 14
  | .migr x => x.w1.extractLsb' 0 16 = 0xffff
  | .cvt x => 11 < (x.ext.extractLsb' 0 4).toNat
  | .vpack x => 11 < (x.ext.extractLsb' 4 4).toNat
  | .vunpk x => 11 < (x.ext.extractLsb' 4 4).toNat
  | .vred x | .vscan x =>
    let t := if x.type = 13 then (x.ext.extractLsb' 0 4).toNat else x.type.toNat
    let float := 8 ≤ t
    5 < (x.ext.extractLsb' 4 3).toNat || (float && 2 < (x.ext.extractLsb' 4 3).toNat) || (float && x.sat ≠ 0)
      || (!float && x.rm ≠ 0)
  | .vldX x | .vldXl x _ | .pld x =>
    1 < (x.ext.extractLsb' 0 3).toNat || badScope (x.ext.getLsbD 5) x.ext
      || (x.ext.extractLsb' 0 3 = 1 && !(x.sa = 244 || 248 ≤ x.sa.toNat))
  | .vstX x | .vstXl x _ | .pst x =>
    1 < (x.ext.extractLsb' 0 3).toNat || (x.ext.extractLsb' 0 3 = 1 && !(x.sa = 244 || 248 ≤ x.sa.toNat))
  | .pldr x r | .pstr x r =>
    1 < (x.ext.extractLsb' 0 3).toNat || (x.ext.extractLsb' 0 3 = 1 && !(x.sa = 244 || 248 ≤ x.sa.toNat))
      || badRoute true true r
  | .vldx x => x.ext.extractLsb' 3 2 = 3 || badScope (x.ext.getLsbD 5) x.ext
  | .vstx x => x.ext.extractLsb' 3 2 = 3
  | .sldX x | .sldXl x _ => badScope (x.ext.getLsbD 5) x.ext
  | .vatom x | .patom x | .ratomX x => 10 < (x.ext.extractLsb' 0 4).toNat || badScope (x.ext.getLsbD 5 || x.ext.getLsbD 4) x.ext
  | .ratomXl x r => 10 < (x.ext.extractLsb' 0 4).toNat || badScope (x.ext.getLsbD 5 || x.ext.getLsbD 4) x.ext || badRoute false false r
  | .feld x | .feqry x => badScope (x.ext.getLsbD 4) x.ext
  | .fest x | .fefill x | .feclr x => badScope (x.ext.getLsbD 5) x.ext
  | .waita x => 6 < (x.ext.extractLsb' 0 4).toNat || badScope (x.ext.getLsbD 4) x.ext
  | .phase x | .bar x => 4 < (x.ext.extractLsb' 0 3).toNat
  | .fence x => 4 < (x.ext.extractLsb' 0 3).toNat || x.ext.extractLsb' 3 2 = 0
  | .icinv x => 3 < (x.ext.extractLsb' 0 3).toNat
  | .tew x => 15 < (x.ext.extractLsb' 0 6).toNat
  | .tforce x | .tstore x => badScope true x.ext
  | .tqry x => 3 < (x.ext.extractLsb' 0 4).toNat
  | .copyX x => (!x.ext.getLsbD 0 && x.ext.extractLsb' 6 3 ≠ 0) || (x.ext.getLsbD 0 && x.ext.extractLsb' 1 2 ≠ 0)
      || badScope true x.ext
  | .copyXl x r => (!x.ext.getLsbD 0 && x.ext.extractLsb' 6 3 ≠ 0) || (x.ext.getLsbD 0 && x.ext.extractLsb' 1 2 ≠ 0)
      || badScope true x.ext || (x.ext.getLsbD 3 && !x.ext.getLsbD 0) || badRoute false false r
  | .copymXl _ r => badRoute false false r
  | .enq x => badScope (x.ext.getLsbD 1) x.ext
  | .pkvget x => let f := (x.ext.extractLsb' 0 2).toNat
                 let vl := (x.w1.extractLsb' 16 8).toNat
                 (f = 0 || f = 3) && 244 ≤ vl
  | .pkvset x => let f := (x.ext.extractLsb' 0 2).toNat
                 let vl := (x.w1.extractLsb' 16 8).toNat
                 (f = 0 || f = 3) && 245 ≤ vl && vl ≤ 247
  | _ => false

/-- EXT bits that the instruction uses, the element type of a PAIR among them (R379). -/
def Use.extBits (u : Use) (t : Nat) : Nat := if t = 13 && !u.pair.isEmpty then u.ext ||| 0xf else u.ext

/-- RESERVED_ENCODING in the fields of an X or XL form (R379, R384, R388). -/
def Use.bad (u : Use) (x : XFields) : Bool :=
  let t := x.type.toNat
  let e := x.ext
  u.vd.badDst t e x.vd.toNat
    || (!u.rm && x.rm ≠ 0) || (!u.sat && x.sat ≠ 0) || (!u.nwb && x.nwb ≠ 0)
    || (e.toNat &&& (0x1ff ^^^ u.extBits t)) ≠ 0
    || match u.w1 with
       | some m => (x.w1.toNat &&& (0xffffffff ^^^ m)) ≠ 0
       | none =>
         u.sa.badSrc t e x.sa.toNat || u.sb.badSrc t e x.sb.toNat || u.sc.badSrc t e x.sc.toNat
           || (!u.km && x.km ≠ 0) || (!u.kz && x.kz ≠ 0) || (x.kz ≠ 0 && x.km = 0)
           || !(if t = 13 && !u.pair.isEmpty then u.pair.contains (e.extractLsb' 0 4).toNat
                else if u.types.isEmpty && u.pair.isEmpty then t = 0 else u.types.contains t)

/-- RESERVED_ENCODING in an instruction's own words (R389); the schedule is checked at issue (R387). -/
def reserved (i : Instr) : Bool :=
  match i with
  | .nopS _ z => z ≠ 0
  | .saddSl x _ => x.imm ≠ 0
  | .sshlS x | .sshrS x => 63 < x.imm.toNat
  | .smovS x => x.imm ≠ 0
  | .smovlSl x _ => x.ss ≠ 0 || x.imm ≠ 0
  | .sgetS x => x.ss ≠ 0 || x.imm = 0 || 14 < x.imm.toNat
  | .braS x | .callS x => x.k ≠ 0 || x.neg ≠ 0
  | i =>
    match vecFieldsOf i with
    | some x => (245 ≤ x.vs.toNat && x.vs.toNat ≤ 247) || 244 ≤ x.vd.toNat
    | none =>
      match useOf i, xFieldsOf i with
      | some u, some x => u.bad x || badExtra i
      | _, _ => false

/-- A vector field outside profile D's limits (R381, R382): v160 to v239, or a latch; for a pair the odd half too. -/
def Opd.highV (o : Opd) (t : Nat) (e : BitVec 9) (n : Nat) : Bool :=
  match o with
  | .v w | .vreg w => (160 ≤ n && n ≤ 243) || (w.is64 t e && n = 159)
  | _ => false

/-- PROFILE_OPERAND in a profile-D encoding (R227, R381). -/
def profileOperand (i : Instr) : Bool :=
  match vecFieldsOf i with
  | some x => (160 ≤ x.vd.toNat && x.vd.toNat ≤ 243) || (160 ≤ x.vs.toNat && x.vs.toNat ≤ 243)
  | none =>
    match i with
    | .pkvget x | .pkvset x => let vl := (x.w1.extractLsb' 16 8).toNat
                               let f := (x.ext.extractLsb' 0 2).toNat
                               (f = 0 || f = 3) && 160 ≤ vl && vl ≤ 243
    | i => match useOf i, xFieldsOf i with
      | some u, some x => u.vd.highV x.type.toNat x.ext x.vd.toNat || u.sa.highV x.type.toNat x.ext x.sa.toNat
          || u.sb.highV x.type.toNat x.ext x.sb.toNat || u.sc.highV x.type.toNat x.ext x.sc.toNat
      | _, _ => false

/-- The schedule selector of an instruction (R377). -/
def schOf (i : Instr) : Nat :=
  match i with
  | .nopS s _ => s.toNat
  | .udf _ s _ => s.toNat
  | i => match scalarFieldsOf i, vecFieldsOf i, branchFieldsOf i, xFieldsOf i with
    | some x, _, _, _ => x.sch.toNat
    | _, some x, _, _ => x.sch.toNat
    | _, _, some x, _ => x.sch.toNat
    | _, _, _, some x => x.sch.toNat
    | _, _, _, _ => 0

/-- Latency class of an instruction (R233, R419, R446). -/
def latClass (i : Instr) : LatClass :=
  match i with
  | .nopS _ _ | .udf _ _ _ => .none
  | .saddS _ | .saddSl _ _ | .sshlS _ | .sshrS _ | .smovS _ | .smovlSl _ _ | .sgetS _ | .callS _ => .scalar
  | .braS _ | .brcS _ | .brvS _ => .none
  | .vmulS _ | .vmulhS _ => .vmul
  | .faddS _ | .fsubS _ | .fmulS _ | .fminS _ | .fmaxS _ => .f32
  | .fdivS _ | .fsqrtS _ | .frcpS _ | .frsqS _ | .fexp2S _ | .flog2S _ | .fsinpiS _ | .fcospiS _ => .variable
  | i => match vecFieldsOf i with
    | some _ => .vint
    | none => match useOf i with
      | some u => u.cls
      | none => .variable

end Sys2Proof
end

