-- ==== Sys2Proof/Config.lean ====
section
/-! DEFINITION. What an implementation fixes and the manual leaves open (00 R10 and the rows of notes/assumptions that
name it), and the free values: constants with no body, so that nothing can be proved of a value of theirs. -/
namespace Sys2Proof.Config

/-- A free value: `freeNat n k` is the k-th value that the step numbered n (State.free) leaves open. -/
opaque freeNat : Nat → Nat → Nat

/-- The stepping B0 as FEAT_VER and the version note encode it (00 R1, 13 R394 to R396). -/
def stepping : Nat := 0xb0

/-- The public key that the firmware derives from the identity seed and its own measurement (03 R76). [DESIGN CHOICE, log 30] -/
opaque identity : List Byte → List Byte → List Byte
/-- The certificate chain of slot 0 for an identity key (03 R86). [DESIGN CHOICE, log 30] -/
opaque certChain : List Byte → List Byte
/-- The messages of an SPDM session to FINISH, as DSP0274 takes them together (03 R72): sessions are numbered as they are opened. [DESIGN CHOICE, log 30] -/
opaque transcript : Nat → List Byte
/-- The AES-256-GCM keys and nonces that a session's key exchange gives, of requests and of responses, 2 * 44 bytes: by the session and the
request (03 R72). [DESIGN CHOICE, log 30] -/
opaque sessionKey : Nat → List Byte → List Byte
/-- The code of the boot ROM (03 R87). [DESIGN CHOICE, log 30] -/
opaque bootRom : List Byte
/-- A signature of the device over a byte string under the key of an identity (03 R86). [DESIGN CHOICE, log 30] -/
opaque sign : List Byte → List Byte → List Byte
/-- Random bytes (03 R80, R86): the n-th draw, of the length asked for. [DESIGN CHOICE, log 30] -/
opaque random : Nat → Nat → List Byte
/-- The spare cell of bench b under the spare map of bring-up (01 R30, 07 R215): this number modulo 9. [DESIGN CHOICE, log 6] -/
opaque spareCell : Nat → Nat
/-- What of an image is signed (03 R75, R84 give no layout). [DESIGN CHOICE, log 30] -/
opaque imageSigned : List Byte → List Byte
/-- The signing key that stands in an image (03 R75). [DESIGN CHOICE, log 30] -/
opaque imageKey : List Byte → List Byte
/-- The signature that stands in an image (03 R75). [DESIGN CHOICE, log 30] -/
opaque imageSig : List Byte → List Byte
/-- Does an image raise the fuse SVN to its own security version once it has booted (03 R84)? [DESIGN CHOICE, log 30] -/
opaque imageRaises : List Byte → Bool
/-- Is an image malformed (03 R93, REASON 0x04)? [DESIGN CHOICE, log 30] -/
opaque imageMalformed : List Byte → Bool
/-- The security version of an image (03 R75). [DESIGN CHOICE, log 30] -/
opaque imageSvn : List Byte → Nat
/-- The identifier FWID of an image (04 R120). [DESIGN CHOICE, log 30] -/
opaque fwid : List Byte → Nat
/-- Where the trip record stands in the management address space, in registers of 8 bytes (01 R27). [DESIGN CHOICE, log 9] -/
opaque tripAt : Nat
/-- The two words of the record of a thermal trip: by which word, from the reason and the time (01 R27). [DESIGN CHOICE, log 9] -/
opaque tripWord : Nat → Option (Nat × Nat) → Word
/-- Where the slot pointer of a core stands at tick 0 (08 R229). [DESIGN CHOICE, log 1] -/
opaque slotStart : Nat → Nat
/-- Flit buffers of a virtual channel and class (2 * channel + class) at the far end of a port, less one (02 R45). [DESIGN CHOICE, log 16] -/
opaque vcBuffers : Nat → Nat

end Sys2Proof.Config
end

