-- ==== Sys2Proof/Machine/State.lean ====
section
/-! DEFINITION. The state of the module: plain data, every piece of state the manual names. Each field's docstring names
its width and the rule that gives it; the reset value follows, and INVENTORY.md lists them. Tables keep their keys
strictly rising (`FMap`); a table of values that all start at zero lists no zero, so that equal contents are equal data.
Operations over these types stand in Ops.lean. -/
namespace Sys2Proof.Machine

/-! ## Registers of a course -/

/-- A register write that lands together with others (08 R233, R234). Lanes are physical lanes of the course. -/
inductive RegWrite where
  /-- v[reg][lane], 32 bits (08 R236). -/
  | v (reg lane : Nat) (val : Half)
  /-- bypass latch b[n][lane], 32 bits (08 R235). -/
  | b (n lane : Nat) (val : Half)
  /-- scalar register, 64 bits; half 1 of an LW16 course holds its own at 64 + reg (08 R255). -/
  | s (reg : Nat) (val : Word)
  /-- mask register: the bits of `care` take those of `val` (15 R430). -/
  | k (reg : Nat) (care val : LaneMask)
  /-- sr.trapmask (15 R427, R429). -/
  | trap (val : BitVec 16)
  deriving DecidableEq, Repr

/-- The address of a byte as a course names it. -/
inductive Loc where
  /-- a virtual address of the course's virtual device (09 R259) -/
  | glob (va : Nat)
  /-- byte `off` of the window of cell group g of the bench group (09 R273) -/
  | win (g off : Nat)
  /-- byte `off` of the banks of a physical cell reached by route literal (17 R474): bench and cell of this module -/
  | cell (bench cell off : Nat)
  /-- an address of another module, reached over the fabric (02 R55) -/
  | far (modid : Nat) (bench cell : Nat) (addr : Nat)
  deriving DecidableEq, Repr

/-- One byte of a course's buffer of buffered stores (10 R286). `seq` is the store's place in program order (per half
under LW16), `half` and `lane` the rest of its rank key (R291). -/
structure BufStore where
  loc  : Loc
  val  : Byte
  seq  : Nat
  half : Nat := 0
  lane : Nat := 0
  /-- an UNMAP has taken its place away since: the VA of the UNMAP's range (04 R106) -/
  lost : Option Nat := none
  deriving DecidableEq, Repr

/-- A byte of the view that may still read an older value (10 R287): another party wrote it at a distance `d` that
no refresh of scope below `d` has covered. -/
structure StaleByte where
  addr : Nat
  old  : Byte
  d    : Nat
  /-- 0 as long as the view has not been refreshed since the write; then 1 until the byte is read, and 2 once its value until the next
  refresh is settled -/
  held : Nat := 0
  /-- the task that wrote it, and the tick of the write -/
  task : Option Nat := none
  tick : Nat := 0
  deriving DecidableEq, Repr

/-- Where a loaded value goes. -/
inductive Dest where
  | none
  /-- a vector register, the even one of a pair; `nwb` computes without writing (13 R385) -/
  | v (reg : Nat) (nwb : Bool)
  | s (reg : Nat)
  | k (reg : Nat)
  deriving DecidableEq, Repr

/-- Nowhere, in place of a vector register. -/
def Dest.noVector (d : Dest) : Dest :=
  match d with
  | .v _ _ => .none
  | d => d

/-- What an access does at its home (17 R471 to R482). -/
inductive AccOp where
  | load
  | store
  | atom (n : Nat)
  /-- FELD, FEST, FEFILL, FECLR, FEQRY: the minor of 17 R480 -/
  | tag (n : Nat)
  | waita (cond : Nat) (limit : Option Nat)
  deriving DecidableEq, Repr

/-- One lane's part of an access: its address, what the course's own buffer forwards for each byte (10 R287), and the
operands b and c. -/
structure AccItem where
  lane : Nat
  loc  : Loc
  fwd  : List (Option Byte) := []
  b    : Word := 0
  c    : Word := 0
  deriving DecidableEq, Repr

/-- An access that has issued and has not been performed, or not in every lane (17 R481). -/
structure Access where
  op    : AccOp
  type  : Nat
  size  : Nat
  /-- .ACQ and its scope; with it a load reads at the home (10 R296) -/
  acq   : Option Nat := none
  /-- reads at the home although no .ACQ is given -/
  imm   : Bool := false
  items : List AccItem := []
  dest  : Dest := .none
  /-- lanes performed whose value is in `got`, until the whole access lands -/
  got   : List (Nat × Word) := []
  /-- the store's place in program order and its half, for its rank key (10 R291) -/
  seq   : Nat := 0
  half  : Nat := 0
  /-- tick at issue, from which a timeout counts (17 R482) -/
  since : Nat := 0
  deriving DecidableEq, Repr

/-- A state access of 18 R522: the record handle and what is asked of it. -/
inductive StateOp where
  | pkrd (off : Nat)
  | pkwr (off : Nat) (val : Word)
  | pkvget (file rn : Nat) (lanes : LaneMask)
  | pkvset (file rn : Nat) (lanes : LaneMask) (vals : List (Nat × Half)) (sval : Word)
  | pkact (act : Nat)
  deriving DecidableEq, Repr

/-- An array instruction with its operands as read at issue (18 R508 to R512). -/
inductive ArrayOp where
  /-- BTAKE -/
  | take
  | lstat (type sa : Nat) (sb : Option Nat)
  | lswap
  /-- type, Z, activation address, r0, R, c0, activation scale address -/
  | mstrm (type : Nat) (z : Bool) (sa r0 rows c0 : Nat) (sc : Option Nat)
  /-- type, RM, SAT, AK, destination, r0, R, c0, C -/
  | mdrain (type rm : Nat) (sat ak : Bool) (sa r0 rows c0 cols : Nat)
  /-- BPASS -/
  | pass
  deriving DecidableEq, Repr

/-- A tensor-identifier entry (11 R309). -/
structure Tensor where
  fmt    : Nat := 0
  rank   : Nat := 0
  spad   : Bool := false
  bcast  : BitVec 4 := 0
  perm   : BitVec 8 := 0
  base   : Word := 0
  scaleq : Word := 0
  scales : Word := 0
  ext    : List Nat := []
  str    : List Int := []
  vext   : List Nat := []
  off    : List Int := []
  deriving DecidableEq, Repr

/-- A box of a view: origin and extent per dimension (18 R505). -/
abbrev TBox := List (Nat × Nat)

/-- State of a thunk-table node (11 R314); FREE nodes are not listed. -/
inductive NodeSt where
  | pending
  | evaluating
  | parked (die idx : Nat)
  deriving DecidableEq, Repr

/-- A node of the thunk table (11 R315). `op` is the minor of 18 R500. -/
structure Node where
  st     : NodeSt := .pending
  op     : Nat := 0
  sub    : Nat := 0
  sat    : Bool := false
  acc    : Bool := false
  d      : Tensor := {}
  s1     : Option Tensor := none
  s2     : Option Tensor := none
  course : Nat := 0
  batch  : Nat := 1
  pc     : Word := 0
  pcOther : Word := 0
  prof   : Bool := false
  trapmask : BitVec 16 := 0
  /-- done box; none while empty -/
  done   : Option TBox := none
  /-- the box, the NEXTPC and the scope of the evaluation that a fault has broken off, which RETRY continues (11 R314) -/
  redo   : Option (TBox × Word × Nat) := none
  /-- of an append that waits for a free node: the age of the node that it has forced (11 R328) -/
  forced : Option Nat := none
  /-- age, for the oldest first of 11 R323, R328 -/
  seq    : Nat := 0
  deriving DecidableEq, Repr

/-- A copy segment (18 R517). -/
structure Seg where
  id     : Nat
  /-- window offset, length, global address -/
  off    : Nat
  len    : Nat
  addr   : Word
  done   : Bool := false
  parked : Bool := false
  /-- its fabric request has left -/
  sent   : Bool := false
  /-- bytes read and on their way to the receivers still to be filled (07 R206) -/
  data   : List Byte := []
  left   : List Nat := []
  /-- it lands in its own group only: a rollback repeats it, and the other receivers have it already (07 R213) -/
  own    : Bool := false
  deriving DecidableEq, Repr

/-- A COPY or COPYM in flight (18 R514 to R518), or the writes of a TSTORE (R506). -/
structure Copy where
  course : Nat
  group  : Nat
  pc     : Word := 0
  out    : Bool := false
  fill   : Option Half := none
  bd     : Bool := false
  scope  : Nat := 0
  /-- receiving groups, keys (18 R515); MC set -/
  recv   : List Nat := []
  mc     : Bool := false
  /-- route literal of an XL form (R516) -/
  far    : Option Word := none
  segs   : List Seg := []
  /-- follow-on stream of a COPYM: type, sb, aux (18 R515) -/
  follow : Option (Nat × Word × Word) := none
  followed : Bool := false
  seq    : Nat := 0
  bench  : Nat := 0
  cell   : Nat := 0
  prof   : Bool := false
  /-- sr.trapmask at the issue of a COPYM, for its follow-on (12 R353) -/
  trapmask : BitVec 16 := 0
  /-- the status with which a segment of it was killed -/
  killed : Option Nat := none
  /-- the batch whose TSTORE writes these are (18 R506) -/
  batch  : Option Nat := none
  /-- the pending instruction whose flag it releases -/
  pend   : Nat := 0
  /-- the barrier interval in which its writes of global memory last escaped (06 R182) -/
  escaped : Option Nat := none
  deriving DecidableEq, Repr

/-- What an instruction of majors 0x30 to 0x34 still has to do at the cell when it could not take effect as it issued (18 R497). -/
inductive EngineOp where
  /-- the node of an append (18 R503) -/
  | append (n : Node)
  /-- TDROP's identifier (11 R329) -/
  | drop (t : Tensor)
  /-- OWNSET: to engine or to course, and the granules (18 R513) -/
  | own (eng : Bool) (grans : List Nat)
  /-- a COPY or COPYM: global address, window offset, length (18 R514 to R518) -/
  | copy (c : Copy) (sa off n : Nat)
  deriving DecidableEq, Repr

/-- What is still to be done for an instruction that has issued (08 R231 to R234). -/
inductive Action where
  /-- nothing but its register writes -/
  | none
  | access (a : Access)
  /-- PHASE or BAR: the flag is released at completion of the boundary (17 R488) -/
  | boundary
  /-- ENQ, its record as read (18 R520), and the scalar destination -/
  | enq (handle : Word) (record : List Byte) (sd : Nat)
  | qstat (handle : Word) (sel sd : Nat)
  /-- a state access: status register, value register, vector register (18 R522) -/
  | state (handle : Word) (op : StateOp) (st sd vl : Nat)
  /-- PLDR, PSTR and RATOM by route literal (17 R474, R478): the literal, the request, destination, type, ACQ scope -/
  | remote (route : Word) (op : FabOp) (dest : Dest) (type : Nat) (acq : Option Nat)
  /-- FENCE.RFR: the refresh that is still to come (10 R295) -/
  | refresh (scope : Nat)
  /-- a demand: its batch, by TFORCE or TSTORE (11 R325) -/
  | batch (n : Nat)
  | twait (n : Nat) (sd : Nat)
  /-- a COPY or COPYM by its key (18 R517) -/
  | copy (n : Nat)
  | array (op : ArrayOp)
  /-- it waits for its effect at the cell (18 R497) -/
  | engine (op : EngineOp)
  deriving DecidableEq, Repr

/-- A late fault that an instruction has met and its course has not yet taken (06 R161). -/
structure LateFault where
  cause : Nat
  event : Nat := 0
  addr  : Word := 0
  mask  : LaneMask := 0
  cx    : Word := 0
  /-- when it was met -/
  tick  : Nat := 0
  deriving DecidableEq, Repr

/-- An instruction that has issued and has effects still to land. A completion flag's counter in a split is the number
of these that name the flag and whose `splits` holds the split (08 R231, R238). -/
structure Pend where
  id     : Nat
  pc     : Word := 0
  split  : Nat := 0
  splits : BitVec 4 := 0
  flag   : Option Nat := none
  /-- tick at which a fixed-latency result lands (08 R233); none for variable latency -/
  due    : Option Nat := none
  writes : List RegWrite := []
  act    : Action := .none
  /-- k0 at issue, of an instruction performed once per issue (22 R535) -/
  mask   : LaneMask := 0
  /-- sr.trapmask as it stood at issue (12 R353) -/
  trapmask : BitVec 16 := 0
  /-- an operation of the cell's crossbar (09 R279) -/
  xbar   : Bool := false
  late   : Option LateFault := none
  deriving DecidableEq, Repr

/-- What a split, or a group of held lanes, waits for (08 R241, 10 R289). -/
inductive Wait where
  | run
  | rejoin (k : LaneMask)
  | boundary (scope : Nat) (bar : Bool) (pend : Nat)
  /-- its boundary has committed, its BAR completes with the shadow copy (07 R212) -/
  | copying (scope : Nat) (pend : Nat)
  deriving DecidableEq, Repr

/-- A split of a course (08 R236). -/
structure Split where
  /-- address of the next instruction, or of the REJOIN, PHASE or BAR the split waits at; 57 bits in 64 -/
  pc    : Word := 0
  mask  : LaneMask := 0
  /-- reconvergence stack, top first; entries from the 17th on stand in the reserve (08 R239, R240) -/
  stack : List (Word × LaneMask) := []
  wait  : Wait := .run
  /-- tick of its last issue (08 R229) -/
  last  : Nat := 0
  /-- tick of its last attempt to issue: later than `last` while its instruction had to wait then -/
  tried : Nat := 0
  /-- no issue before this tick: DELAY (15 R432) -/
  hold  : Nat := 0
  /-- YIELD: not chosen before this tick while another split can issue (15 R439) -/
  yield : Nat := 0
  /-- RETRY of a late ARITH (06 R176): the instruction at `pc` is performed again under `mask`; then the split continues at
  this address with this mask and this wait, and the count of this pending instruction passes to the new one -/
  redo  : Option (Word × LaneMask × Nat × Wait) := none
  /-- by flag: by how much its counter reads less than the instructions counted, since a merge left it at 63 (08 R238) -/
  excess : FMap Nat := []
  deriving DecidableEq, Repr

/-- Lanes that wait and belong to no split's current mask (08 R539). -/
structure Held where
  split : Nat
  pc    : Word
  mask  : LaneMask
  wait  : Wait
  /-- the wait has ended and the group waits for a split number -/
  ended : Bool := false
  /-- when its holding split has ended: the pending instructions counted in that split then, and its `excess` (08 R539) -/
  counts : Option (List Nat × FMap Nat) := none
  deriving DecidableEq, Repr

/-- Where a course stands (06 R159, 07 R192, 03 R88). -/
inductive CourseSt where
  | running
  /-- stopped under a parked record: die and index -/
  | parked (die idx : Nat)
  /-- stopped, waiting for a record to free (06 R179) -/
  | waiting
  /-- halted by a debug session (03 R88) -/
  | halted
  /-- its group is saved, or being saved (07 R194) -/
  | saved
  | retired
  | killed (status : Nat)
  /-- between MIGR and the end of its migration (08 R251): the entry id -/
  | migrating (id : Nat)
  deriving DecidableEq, Repr

/-- A course (08 R224, R236). -/
structure Course where
  /-- its cell group, a key of `Sched.groups` -/
  group  : Nat := 0
  /-- course index c in the cell group, 0 to 47 (08 R224) -/
  c      : Nat := 0
  /-- the core that runs it and its slot there (08 R226) -/
  dcore  : Bool := false
  slot   : Nat := 0
  /-- profile of the encoding it runs: false L, true D (15 R426 sr.profile) -/
  prof   : Bool := false
  st     : CourseSt := .running
  /-- in the active set of a D-core (08 R230), and since which tick -/
  active : Bool := true
  since  : Nat := 0
  /-- vector registers, 240 of 32 lanes of 32 bits: key reg * 32 + lane (08 R226) -/
  v      : FMap Half := []
  /-- bypass latches b0 to b3: key n * 32 + lane (08 R235) -/
  b      : FMap Half := []
  /-- scalar registers s0 to s63, 64 bits; 64 to 127 are those of half 1 under LW16 (08 R255) -/
  s      : FMap Word := []
  /-- mask registers k1 to k7, 32 bits (08 R236) -/
  k      : FMap LaneMask := []
  /-- lanes that have not exited (08 R236) -/
  live   : LaneMask := 0xffffffff
  splits : FMap Split := []
  held   : List Held := []
  pends  : List Pend := []
  /-- the buffer of buffered stores, each byte once (10 R286) -/
  buf    : List BufStore := []
  /-- places in program order taken so far, of half 0 and of half 1 (10 R286, R291) -/
  seq0   : Nat := 0
  seq1   : Nat := 0
  /-- bytes of the view that may read older values (10 R287) -/
  stale  : List StaleByte := []
  /-- code bytes that instruction fetch may still read old (17 R489, R490) -/
  staleI : List StaleByte := []
  /-- buffered sectors that have left the L1 (09 R272): VA / 64, and the spill bank of the cell plus 1, or 0 for the spill log -/
  spilt  : List (Nat × Nat) := []
  /-- sr.trapmask, 16 bits (15 R427) -/
  trapmask : BitVec 16 := 0
  /-- sr.phase COUNT, 48 bits, and LAST, 3 bits (15 R427) -/
  phases : Nat := 0
  lastScope : Nat := 0
  /-- last bridge point passed: BPC and BID (08 R250); none while BV is 0 -/
  bridge : Option (Word × Nat) := none
  /-- a migration request is posted (08 R252), and the tick an LTOD placement waits to -/
  migReq : Bool := false
  /-- absolute deadline as a tick, none without one, and the passed mark (05 R140, R141) -/
  deadline : Option Nat := none
  passed : Bool := false
  /-- stopping for a late fault: nothing issues any more (06 R161) -/
  stopping : Bool := false
  /-- the PC of its last EXIT or TAIL, for the trace (03 R88) -/
  exitPc : Word := 0
  /-- instructions that it may still issue from a stale loop buffer, the variant that buffer holds, and the older code bytes that it may
  hold (17 R490, 07 R203) -/
  loop   : Nat := 0
  loopVar : BitVec 16 := 0
  loopI  : List StaleByte := []
  /-- in a shadowed launch: the refreshes of its view so far, and the bytes that plain loads of this interval have read, by view and
  physical address, so that a re-run repeats them (07 R214) -/
  views  : Nat := 0
  seen   : FMap Byte := []
  /-- in a shadowed launch: the bytes that plain loads of this interval have read from windows, by PC, lane and byte, in their order, and
  how many of each the run under way has taken (07 R214) -/
  wins   : FMap (List Byte) := []
  winsAt : FMap Nat := []
  /-- the schedule table of its profile, read from the kernel header when it was placed, restored or migrated (13 R387) -/
  sched  : List Half := []
  deriving DecidableEq, Repr

/-! ## Cells, groups, tiles -/

/-- Bank modes (09 R268). -/
inductive BankMode where
  | cache | spad | fifo | spill
  deriving DecidableEq, Repr

/-- A 256-byte line of a cell's L1 (09 R263, R264): of a virtual device, by address / 256, in the way of a cache-mode bank; one that holds
buffered sectors belongs to the course that stored them. -/
structure L1Line where
  vd    : Nat
  line  : Nat
  owner : Option Nat := none
  bank  : Nat
  deriving DecidableEq, Repr

/-- One 128 KiB bank of a cell (09 R268). -/
structure Bank where
  mode  : BankMode := .cache
  /-- leased to this cell group; none when the cell owns it -/
  owner : Option Nat := none
  /-- FIFO contents, head first, words of 32 bits, at most 32,768 (09 R271) -/
  fifo  : List Half := []
  /-- the word of the bank at which the head of the FIFO stands -/
  head  : Nat := 0
  deriving DecidableEq, Repr

/-- Who holds an engine-owned granule (09 R277). -/
inductive Holder where
  /-- made engine-owned by OWNSET, held by no command (18 R513) -/
  | free
  | copy (n : Nat)
  | node (group n : Nat)
  deriving DecidableEq, Repr

/-- A plane of the matrix array (11 R331). `fmt` is a type code; none, before any LSTAT, stands for INT8, the format of a plane of zeros.
Elements by k + K * n. [DESIGN CHOICE, log 110] -/
structure Plane where
  fmt    : Option Nat := none
  w      : FMap Word := []
  /-- block scale bytes by 2 * n + h, superblock scales by n (CB4) -/
  q      : FMap Byte := []
  sc     : FMap Half := []
  /-- the elements that hold uncorrectable data, by k + K * n (12 R352) -/
  bad    : List Nat := []
  deriving DecidableEq, Repr

/-- An entry of the cell's retirement tracker (08 R244): a course that has retired with operations still out. -/
structure Tracker where
  course : Nat
  task   : Nat
  deriving DecidableEq, Repr

/-- A cell (09 R263 to R283, 11 R331). -/
structure Cell where
  banks  : FMap Bank := []
  /-- the lines of its L1, the latest used first (09 R263) -/
  l1     : List L1Line := []
  /-- engine-owned granules, key bank * 32 + granule in bank (09 R277) -/
  owners : FMap Holder := []
  /-- stationary plane, shadow plane, accumulators by row * 128 + column (11 R331) -/
  plane  : Plane := {}
  shadow : Plane := {}
  accum  : FMap Word := []
  /-- the group whose array contents stand (11 R334) -/
  arrayGroup : Option Nat := none
  /-- courses that wait for the bow, in the order they began (11 R334) -/
  bowQueue : List (Nat × Nat) := []
  /-- the next copy segment number and fill sequence number, 32 bits each (18 R517, 07 R206) -/
  segSeq  : Nat := 0
  fillSeq : Nat := 0
  /-- retirement tracker, at most 8 (08 R244) -/
  tracker : List Tracker := []
  /-- uncorrectable errors: their ticks, for the limit of 07 R216 -/
  errors : List Nat := []
  /-- did the issue position for vector instructions of its L-core, and of its D-core, have the last turn (08 R228, R229)? -/
  vecL   : Bool := false
  vecD   : Bool := false
  deriving DecidableEq, Repr

/-- A demand (11 R324): a batch that is not yet complete. -/
structure Demand where
  batch  : Nat
  course : Nat
  g      : Tensor
  box    : TBox
  pc     : Word := 0
  /-- TSTORE's destination and scope -/
  store  : Option (Tensor × Nat) := none
  /-- the copy record of TSTORE's writes, once its nodes are evaluated -/
  copy   : Option Nat := none
  /-- TFORCE's or TSTORE's SCOPE, at which nodes write global memory (18 R506) -/
  scope  : Nat := 3
  /-- the number of its pending instruction, its place in the order of issue -/
  issued : Nat := 0
  deriving DecidableEq, Repr

/-- A state of a group at its last BAR, for a rollback (07 R212, R213). -/
structure Shadow where
  courses : FMap Course := []
  /-- the window's bytes, its banks' modes and FIFOs, its granules' owners -/
  sram    : List Host.Cell := []
  banks   : List Bank := []
  owners  : FMap Holder := []
  tensors : FMap Tensor := []
  nodes   : FMap Node := []
  demands : List Demand := []
  nextBatch : Nat := 1
  wrapped : Bool := false
  nodeSeq : Nat := 0
  p       : BitVec 56 := 0
  holder  : Option Nat := none
  turn    : Nat := 0
  fmtPlane : Option Nat := none
  fmtShadow : Option Nat := none
  /-- planes and accumulators, when a course holds the bow -/
  matrix  : Option (Plane × Plane × FMap Word) := none
  copies  : FMap Copy := []
  deriving DecidableEq, Repr

/-- What a group that has stopped for uncorrectable data comes back for once its copy segments under way have completed (07 R213, 06 R184): the
address, and whether a RETRY asks for the rollback whatever has escaped. -/
structure Undo where
  addr  : Word := 0
  retry : Bool := false
  deriving DecidableEq, Repr

/-- A cell group (08 R224, 11 R309, R324, R333, 17 R484, 06 R182, 07 R188). -/
structure Group where
  /-- its task, a key of `Sched.tasks` -/
  task  : Nat := 0
  /-- indices f, b, g (08 R224) -/
  f     : Nat := 0
  b     : Nat := 0
  g     : Nat := 0
  bench : Nat := 0
  cell  : Nat := 0
  /-- its index among the groups of the cell (06 R168) -/
  index : Nat := 0
  /-- leased banks in ascending order: the window (09 R274) -/
  banks : List Nat := []
  /-- window length W in bytes -/
  win   : Nat := 0
  dcore : Bool := false
  /-- pending-byte counter, 56 bits (17 R484) -/
  p     : BitVec 56 := 0
  tensors : FMap Tensor := []
  nodes : FMap Node := []
  demands : List Demand := []
  nextBatch : Nat := 1
  /-- the open batch number has wrapped (11 R324) -/
  wrapped : Bool := false
  /-- failed batches and the kill status of each; the destinations of killed nodes (06 R181) -/
  failed : List (Nat × Nat) := []
  dead   : List (Tensor × Nat) := []
  overflow : Nat := 0
  camForce : Nat := 0
  nodeSeq : Nat := 0
  /-- the bow: holder and turn (11 R333) -/
  holder : Option Nat := none
  turn   : Nat := 0
  /-- formats of the planes it last loaded (11 R331, R334) -/
  fmtPlane : Option Nat := none
  fmtShadow : Option Nat := none
  /-- effective level at placement (05 R146) -/
  level  : Nat := 7
  /-- start-escape bit (07 R189), boundaries wider than cell (R188) -/
  startesc : Bool := false
  wide   : Nat := 0
  /-- escaped bit, count and log of the interval (06 R182), interval number (R170) -/
  escaped : Bool := false
  escCount : Nat := 0
  escLog : List Word := []
  interval : Nat := 0
  copyTo : Nat := 0
  shadow : Option Shadow := none
  lastUE : Option Word := none
  /-- its courses have stopped, to be rolled back or parked as a group -/
  undo   : Option Undo := none
  /-- image slot: offset in the save area and size (07 R196) -/
  slot   : Option (Nat × Nat) := none
  saved  : Bool := false
  /-- expected generation of its image (07 R198), and the banks' contents as saved -/
  gen    : Nat := 0
  image  : List Host.Cell := []
  /-- with it the modes and FIFOs of its banks and its granules' owners -/
  saveBanks : List Bank := []
  saveOwners : FMap Holder := []
  /-- planes and accumulators that a save or a rollback brings back: they enter the array when a course of the group next takes the bow (11
  R334, 07 R199) -/
  matrix : Option (Plane × Plane × FMap Word) := none
  /-- length of its image and the route variant at the save (07 R197) -/
  imageLen : Nat := 0
  /-- not started yet, or flushed: it has no image (07 R191) -/
  fresh  : Bool := false
  /-- what ends its stay is a flush (R191); fills that are being read again before its courses issue (R201) -/
  flushing : Bool := false
  filling : List Nat := []
  /-- which of the two shadow buffers of its slot holds the last completed copy: false the first (R212) -/
  second : Bool := false
  /-- fills recorded in its image, to be read again at restore (07 R206) -/
  recorded : List Copy := []
  /-- being drained until this tick (07 R190) -/
  drain  : Option Nat := none
  saving : Bool := false
  /-- its spill log in 2 MiB chunks (09 R272), and the log's VA (07 R199) -/
  chunks : Nat := 0
  logVA  : Word := 0
  /-- its last course has ended and no demand is left (05 R152) -/
  ended  : Bool := false
  deriving DecidableEq, Repr

/-! ## Tasks and queues -/

/-- A task record (05 R128), its fields read once. -/
structure TaskRec where
  type     : Nat := 0
  prio     : Nat := 0
  gang     : Bool := false
  core     : Nat := 0
  deadline : Nat := 0
  budget   : Nat := 0
  entry    : Word := 0
  extents  : Word := 0
  args     : List Word := []
  slots    : List Word := []
  deriving DecidableEq, Repr

/-- A kernel header (13 R391), as placement reads it. -/
structure KHdr where
  magic    : Nat := 0
  ver      : Nat := 3
  isa      : Nat := 3
  lw16     : Bool := false
  interlock : Bool := false
  evm      : Bool := false
  shadow   : Bool := false
  idem     : Bool := false
  trapmask : BitVec 16 := 0
  regsL    : Nat := 0
  regsD    : Nat := 0
  prof     : Bool := false
  scratch  : Nat := 0
  brcount  : Nat := 0
  broff    : Int := 0
  other    : Int := 0
  rvstride : Nat := 0
  rvcount  : Nat := 0
  schedL   : List Half := []
  schedD   : List Half := []
  deriving DecidableEq, Repr

/-- Where a task stands in its dispatcher (05 R137 to R153). -/
inductive TaskSt where
  | held | ready | placed | completing | done
  deriving DecidableEq, Repr

/-- A copied record, and the task it becomes. -/
structure Task where
  vd     : Nat := 0
  /-- queue index and generation, and ring index -/
  queue  : Nat := 0
  qgen   : Nat := 0
  idx    : Nat := 0
  trec   : TaskRec := {}
  st     : TaskSt := .held
  /-- home bench, arrival number there (05 R136) -/
  home   : Nat := 0
  arrival : Nat := 0
  /-- level from PRIO instructions: the level, and the tick it applies from (15 R440) -/
  prioTo : List (Nat × Nat) := []
  deadline : Option Nat := none
  passed : Bool := false
  lateLogged : Bool := false
  /-- tick of its copy: notices of tags that became full before it observe nothing (05 R137) -/
  copied : Nat := 0
  /-- wait slots observed full, by slot number (05 R137) -/
  seen   : List Nat := []
  status : Option Nat := none
  /-- issue slots left at the home dispatcher, none when unlimited; per bench what is left of its chunk (05 R155) -/
  budget : Option Nat := none
  chunks : FMap Nat := []
  hdr    : KHdr := {}
  /-- interlocked mode holds (08 R254) -/
  interlock : Bool := false
  /-- next face group to place (05 R148) -/
  nextFace : Nat := 0
  /-- its placement waits for an L-to-D migration, to this tick; 0 after that limit (08 R257) -/
  ltod   : Option Nat := none
  /-- nesting level and record handle of a fault task (06 R173) -/
  nest   : Nat := 0
  record : Word := 0
  deriving DecidableEq, Repr

/-- Queue states (04 R109). -/
inductive QState where
  | active | stopped | error | draining
  deriving DecidableEq, Repr

/-- A queue (04 R108 to R117). -/
structure Queue where
  vd     : Nat := 0
  gen    : Nat := 1
  live   : Bool := true
  kind   : Nat := 0
  st     : QState := .active
  prio   : Nat := 0
  size   : Nat := 0
  base   : Word := 0
  tailva : Word := 0
  headva : Word := 0
  home   : Nat := 0
  statusq : Word := 0
  faultq : Word := 0
  resv   : BitVec 64 := 0
  tDeadline : Nat := 0
  tBudget : Nat := 0
  tEntry : Word := 0
  tExtents : Word := 0
  /-- indices held at the home, 32 bits each (04 R111) -/
  head   : Nat := 0
  tail   : Nat := 0
  /-- ageing counter and step (05 R145) -/
  age    : Nat := 0
  step   : Nat := 0
  reason : Nat := 0
  errored : Nat := 0
  /-- next status entry number of a status queue (04 R116) -/
  seq    : Nat := 0
  /-- its head and tail words have been initialised (04 R110) -/
  inited : Bool := true
  /-- EXPECT_FEAT as given (04 R109) -/
  expect : Word := 0
  /-- records discarded by its destruction, for DRAINED (04 R117, 05 R154) -/
  drained : Nat := 0
  deriving DecidableEq, Repr

/-- A mapping made by MAP (04 R105): page 0 64 KiB, 1 2 MiB, 2 1 GiB; `phys` gives the base of each page. -/
structure Mapping where
  va   : Nat := 0
  len  : Nat := 0
  page : Nat := 0
  perm : BitVec 3 := 0
  phys : List Nat := []
  deriving DecidableEq, Repr

/-- A memory region of the host port (04 R107). -/
structure MemRegion where
  vd   : Nat := 0
  va   : Word := 0
  len  : Nat := 0
  perm : Nat := 0
  rkey : Half := 0
  deriving DecidableEq, Repr

/-- A parked record (06 R166), its fields apart, and the unit it names. -/
structure PRec where
  gen    : Nat := 1
  used   : Bool := false
  kind   : Nat := 0
  cause  : Nat := 0
  event  : Nat := 0
  nest   : Nat := 0
  unres  : Bool := false
  childLost : Bool := false
  stage  : Nat := 1
  escCount : Nat := 0
  prof   : Bool := false
  bv     : Bool := false
  late   : Bool := false
  unit   : Word := 0
  addr   : Word := 0
  pc     : Word := 0
  nextpc : Word := 0
  bpc    : Word := 0
  bid    : Nat := 0xffff
  split  : Nat := 0
  mask   : LaneMask := 0
  deadline : Option Nat := none
  passed : Bool := false
  taskq  : Word := 0
  taskidx : Nat := 0
  parent : Word := 0
  target : Word := 0
  user   : Word := 0
  cx     : Word := 0
  esclog : List Word := []
  /-- the unit: course key, or group and node, or copy and segment, or queue, or group; the task it belongs to -/
  vd     : Nat := 0
  task   : Nat := 0
  uA     : Nat := 0
  uB     : Nat := 0
  /-- the pending instruction of a late fault -/
  pend   : Option Nat := none
  /-- tick at which it was drawn, for the order of R171 -/
  parkedAt : Nat := 0
  /-- the fault task's key once it is known -/
  handler : Option Nat := none
  deriving DecidableEq, Repr

/-! ## Devices, benches, dies -/

/-- Migration state of a virtual device (04 R121): MIGS. -/
inductive MigSt where
  /-- no migration; MIG_START has responded; MIG_STOP waits, has responded (R123 to R125) -/
  | none | tracking | stopping | stopped
  /-- awaiting MIG_RESUME; MIG_RESUME waits; its device is rebuilt and its images are being restored (R126) -/
  | incoming | resuming | restoring
  deriving DecidableEq, Repr

/-- Checkpoint state (07 R223): VD_CKST.STATE. -/
inductive CkSt where
  | running | stopping | stopped | restoring
  /-- still RESTORING: its device is rebuilt and its images are being restored (R205) -/
  | reviving
  deriving DecidableEq, Repr

/-- A queue that a state blob carries, and a copied record (04 R125). -/
structure BlobQueue where
  idx : Nat
  q   : Queue
  deriving DecidableEq, Repr

/-- What a state blob holds (04 R125, 07 R204): its layout is not given, its contents are. -/
structure Blob where
  /-- the module it was written on, its MODID, and the keys of a Confidential device (03 R80, R82) -/
  modid  : BitVec 12 := 0
  keys   : Option (List Byte × List Byte) := none
  queues : List BlobQueue := []
  tasks  : FMap Task := []
  groups : FMap Group := []
  courses : FMap Course := []
  copies : FMap Copy := []
  recs   : List (Nat × PRec) := []
  /-- units that wait for a record, in the order of their dies and of their waiting (06 R179) -/
  waiting : List PRec := []
  /-- virtual addresses of the words whose tag is full (17 R479) -/
  full   : List Nat := []
  /-- the tick at which it was written, from which its deadlines count (05 R141) -/
  clock  : Nat := 0
  /-- FEAT_VER and MIGS of the source (04 R121, R125), and the version notes of its code objects (13 R397) -/
  featVer : Nat := 0
  migs   : Nat := 0
  notes  : List (Nat × Nat × Nat) := []
  deriving DecidableEq, Repr, Inhabited

/-- The registers that stand for each number of a virtual device, whether one exists or not (00 R8): VD_SEC.FAB (03 R82),
VD_SVBASE and VD_SVSIZE (07 R195, R223). -/
structure VdRegs where
  fab    : Bool := false
  svbase : Word := 0
  svblob : Nat := 0
  svsize : Nat := 0
  deriving DecidableEq, Repr

/-- A virtual device (04 R103 to R107, 07 R195, R223). -/
structure VDev where
  asid   : Nat := 0
  /-- what the loader has told of the code objects that it placed: address, length and the stepping of the version note (13 R396, R397) -/
  notes  : List (Nat × Nat × Nat) := []
  memq   : Nat := 0
  used   : Nat := 0
  queueq : Nat := 0
  qpq    : Nat := 0
  benches : BitVec 64 := 0
  maps   : List Mapping := []
  mig    : MigSt := .none
  /-- dirty granules while tracking, bits of MIG_DIRTY (04 R124), and whether writes go through (R123) -/
  dirty  : List Nat := []
  blackout : Nat := 0
  /-- save counter (07 R198) -/
  saves  : Nat := 1
  ck     : CkSt := .running
  ckResult : Nat := 0
  blobLen : Nat := 0
  /-- Confidential, and the owner's key (03 R80 to R82) -/
  conf   : Bool := false
  owner  : List Byte := []
  /-- the two AES keys of a Confidential one, 32 bytes each (03 R80) -/
  keys   : Option (List Byte × List Byte) := none
  /-- the highest level of a debug session that targets it (03 R88) -/
  dbg    : Nat := 0
  /-- FEAT_VER.MIGS, 16 bits (04 R121), and created with MIGIN (R126) -/
  migs   : Nat := 0
  migin  : Bool := false
  /-- the carried MIGS, which counts once MIG_RESUME completes (R121, R126) -/
  migsIn : Nat := 0
  /-- the rkey of its migration queue pair (R123) -/
  migKey : Option Half := none
  /-- ranges that UNMAP took away, latest first: VA and length (04 R106) -/
  unmaps : List (Nat × Nat) := []
  destroying : Bool := false
  deriving DecidableEq, Repr

/-- A bench's registers (05 R158, 07 R221, 08 R257, 09 R283) and its dispatcher. -/
structure Bench where
  /-- tick at which its 48-bit clock read zero (01 R19) -/
  clk0   : Nat := 0
  /-- DSP_CFG.AGE_THR, 16 bits -/
  ageThr : BitVec 16 := 1024
  /-- CELL_MAP: VARIANT 16 bits, FAILED 9 bits, ENABLED 9 bits -/
  variant : BitVec 16 := 0
  failed : BitVec 9 := 0
  enabled : BitVec 9 := 0
  /-- cells that leave service once the groups on them that cannot be saved have ended (07 R217) -/
  retiring : BitVec 9 := 0
  /-- MIG_CFG: LIVE 8 bits, LTOD, DTOL, EN -/
  migLive : BitVec 8 := 4
  ltod   : Bool := true
  dtol   : Bool := true
  migEn  : Bool := true
  /-- BANK_CFG: MINC, SPILL, 4 bits each -/
  minc   : BitVec 4 := 2
  spill  : BitVec 4 := 0
  /-- count of records copied (05 R136), and by effective level the queue read last, where the rotation of that level goes on (R135) -/
  arrivals : Nat := 0
  lastRing : FMap Nat := []
  deriving DecidableEq, Repr

/-- The results a target die keeps for one requesting die, newest first, at most 1,024 (02 R61). -/
structure Dedup where
  srcMod : Nat
  srcDie : Nat
  last   : Nat := 0
  entries : List (Nat × FabResp) := []
  deriving DecidableEq, Repr

/-- A die: its fault registers, the order of waiting units, its tag counter and dedup windows (06 R163, R179, R186,
02 R60, R61), and the die-to-die links that have failed (R59). The tag counter starts at 0. [DESIGN CHOICE, log 98] -/
structure Die where
  /-- FLT_CFG.RESV, 9 bits -/
  resv   : BitVec 9 := 32
  /-- units that wait for a record (06 R179): the record each will fill -/
  waiting : List PRec := []
  /-- the tag counter, 20 bits (02 R60) -/
  tag    : Nat := 0
  /-- transaction numbers taken -/
  tx     : Nat := 0
  windows : List Dedup := []
  linksDown : List Nat := []
  deriving DecidableEq, Repr

/-- An attribute TLB entry, most recently used first, at most 256 per core (09 R261). -/
structure AtlbEntry where
  vd      : Nat
  granule : Nat
  perm    : BitVec 3 := 0
  mapped  : Bool := false
  face    : Nat := 0
  deriving DecidableEq, Repr

/-- A request this module sent over the fabric and has no response to (02 R57). -/
structure Outstanding where
  tx     : Nat
  die    : Nat
  port   : Nat
  tick    : Nat
  limit  : Nat
  tagged : Option Nat := none
  req    : FabReq
  /-- the requester: course and pending instruction; or copy and segment; or record of a fault task; or notice -/
  course : Option (Nat × Nat) := none
  seg    : Option (Nat × Nat) := none
  record   : Option Nat := none
  notice : Option Nat := none
  deriving DecidableEq, Repr

/-! ## Power, links, management, host port -/

/-- Power states (01 R17). -/
inductive Power where
  | p0 | p1 | retention | off
  deriving DecidableEq, Repr

/-- The power controller and the readiness registers (01 R28, R33). [DESIGN CHOICE, log 9] -/
structure Plat where
  cur     : Power := .off
  /-- PWR_CTL.REQ, 2 bits -/
  req     : BitVec 2 := 0
  target  : Power := .p0
  busy    : Bool := false
  /-- the state a running transition ends in -/
  going   : Power := .p0
  /-- the state that Retention returns to (01 R22) -/
  before  : Power := .p0
  therm   : Bool := false
  cap     : Bool := false
  /-- trip record in the standby domain (01 R27): reason and tick -/
  trip    : Option (Nat × Nat) := none
  /-- READY_IO 16 bits, READY_FACE 32, READY_BENCH 64, and the FAIL registers -/
  readyIo : BitVec 16 := 0
  readyFace : BitVec 32 := 0
  readyBench : BitVec 64 := 0
  failIo  : BitVec 16 := 0
  failFace : BitVec 32 := 0
  failBench : BitVec 64 := 0
  /-- power is good: bring-up runs since this tick (01 R29) -/
  since   : Option Nat := none
  /-- tick at which the running transition began -/
  began   : Nat := 0
  deriving DecidableEq, Repr

/-- A flit that waits to be sent or to be acknowledged: the tick from which a request it carries has spent time here since its last
transmission, and the port by which that request arrived, none at its requester (02 R46, R56). -/
structure OutFlit where
  flit : Flit
  tick : Nat
  via  : Option Nat := none
  deriving DecidableEq, Repr

/-- A Gliron port (02 R44 to R47, R65). The sequence numbers after training start at 0. [DESIGN CHOICE, log 98] -/
structure Port where
  peerId   : BitVec 12 := 0
  peerPort : BitVec 3 := 0
  /-- RC counters: 8, 12 and 12 bits -/
  retrain  : BitVec 8 := 0
  crcErr   : BitVec 12 := 0
  discard  : BitVec 12 := 0
  /-- next SEQ to send, next expected, last acknowledged by the peer; 12 bits each -/
  sendSeq  : BitVec 12 := 0
  recvSeq  : BitVec 12 := 0
  /-- replay buffer, oldest first, at most 512; and flits that wait for room in it or for credits of their channel -/
  replay   : List OutFlit := []
  waiting  : List OutFlit := []
  /-- by virtual channel and class (2 * channel + class): buffers of the peer that hold flits of this port, and buffers freed here whose credits are to return (R44, R45) -/
  spent    : FMap Nat := []
  give     : FMap Nat := []
  /-- flits received and not yet acknowledged, their count and first tick -/
  unacked  : Nat := 0
  ackFrom  : Nat := 0
  /-- discarding until the replay -/
  nakked   : Bool := false
  naks     : Nat := 0
  nakSeq   : BitVec 12 := 0
  retraining : Bool := false
  fails    : Nat := 0
  /-- tick at which an acknowledgement last advanced, or the oldest flit that is out left -/
  progress : Nat := 0
  deriving DecidableEq, Repr

/-- A peering entry (02 R65). -/
structure Peering where
  v     : Bool := false
  modid : BitVec 12 := 0
  rvd   : BitVec 6 := 0
  lvd   : BitVec 6 := 0
  deriving DecidableEq, Repr

/-- A notice to another module (22 R536): the record's handle; 0 dispatched, 1 killed, 2 completed; the status; the dispatcher's die. -/
structure Notice where
  record : Word
  what   : Nat
  status : Nat
  die    : Nat
  deriving DecidableEq, Repr

/-- The fabric (02 R48 to R66). The module route table starts with zeros, dead routes. [DESIGN CHOICE, log 98] -/
structure Fabric where
  modid    : BitVec 12 := 0
  dateline : BitVec 8 := 0
  tmo      : BitVec 17 := 2000
  ports    : FMap Port := []
  /-- module route table, 4,096 literals of 64 bits; an unlisted entry is zero -/
  routes   : FMap Word := []
  /-- peering table, 1,024 entries; an unlisted entry is zero -/
  peering  : FMap Peering := []
  outs     : List Outstanding := []
  /-- sequence tags of the fault-task enqueues and notices that are re-sent until they are acknowledged (R64, 22 R536) -/
  enqs     : FMap Nat := []
  /-- notices to be acknowledged (22 R536) -/
  notices  : FMap Notice := []
  /-- responses that came during Retention, for its exit (01 R21): the port -/
  kept     : List (Nat × FabResp) := []
  deriving DecidableEq, Repr

/-- An event channel: of a virtual device, or 64 for the module's (04 R118, R119). -/
structure EvChan where
  /-- receive buffers that host software has posted -/
  space   : Nat := 0
  /-- undelivered events, oldest first, at most 1,024 -/
  queued  : List (List Byte) := []
  dropped : Nat := 0
  /-- TAG of the next event, 32 bits, from 1 -/
  tag     : Nat := 1
  deriving DecidableEq, Repr

/-- An algorithm that an SPDM negotiation selects (03 R86). -/
inductive SpdmAlg where
  | ecdsaP384 | sha384 | secp384r1 | aes256gcm
  deriving DecidableEq, Repr

/-- What an SPDM response says; its bytes are those of DSP0274 (03 R86). -/
inductive SpdmReply where
  /-- the versions, as SPDMVersion codes them -/
  | version (l : List Nat) | capabilities
  | algorithms (l : List SpdmAlg)
  | digests (l : List (List Byte)) | certificate (l : List Byte) | challengeAuth (signature : List Byte)
  /-- index and block (03 R87) -/
  | measurements (l : List (Nat × List Byte)) | measurementCount (n : Nat)
  | keyExchange (session : Nat) (random : List Byte) | finish | heartbeat | endSession
  | busy | unsupported | unexpected | invalid | versionMismatch
  deriving DecidableEq, Repr

/-- What the module sends to the world outside. -/
inductive HostMsg where
  /-- a response message on a command channel (04 R96) -/
  | resp (qpn : Nat) (ver opc : BitVec 8) (tag : BitVec 32) (status : Nat) (params : List Byte)
  /-- a management frame (03 R69) -/
  | mgmt (dst : BitVec 48) (opc : BitVec 8) (tag : BitVec 32) (status : Nat) (session : Option Nat) (body : List Byte)
  /-- a management notice: its opcode, the reason and the body (03 R69, R73) -/
  | mgmtNotice (dst : BitVec 48) (opc : BitVec 8) (tag : Nat) (status : Nat) (body : List Byte)
  /-- what an SPDM response says, and its SPDMVersion (03 R86) -/
  | spdm (dst : BitVec 48) (tag : BitVec 32) (ver : Nat) (reply : SpdmReply)
  /-- what a debugger has read (03 R88): its session and the values -/
  | debug (session : Nat) (vals : List Word)
  /-- an EVENT message: its channel, TAG and record (04 R118) -/
  | event (chan tag : Nat) (body : List Byte)
  /-- a packet of an RDMA READ response, and whether it is the last of its READ (02 R36, R39) -/
  | readResp (qpn : Nat) (data : List Byte) (last : Bool)
  /-- an acknowledgement or a NAK of a queue pair: the syndrome -/
  | ack (qpn : Nat) | nak (qpn : Nat) (code : Nat) | rnr (qpn : Nat) | cnp (qpn : Nat)
  /-- a flit by a Gliron port -/
  | flit (port : Nat) (f : Flit)
  deriving DecidableEq, Repr

/-- A queue pair (04 R94, R95, R99). -/
structure Qp where
  /-- its virtual device; none for the module command queue pair -/
  vd    : Option Nat := none
  hqpn  : BitVec 24 := 0
  gid   : List Byte := []
  /-- the packet sequence number it expects, at first that of R99 -/
  psn   : BitVec 24 := 0
  mtu   : BitVec 2 := 0
  prio  : BitVec 3 := 0
  /-- in the error state (02 R37) -/
  err   : Bool := false
  /-- tick of its last congestion notification (02 R36) -/
  cnp   : Option Nat := none
  /-- a migration queue pair (04 R123) -/
  mig   : Bool := false
  deriving DecidableEq, Repr

/-- The host port (02 R34 to R40, 04 R95, R107, R122). Counts are 48 bits. -/
structure HostPort where
  qps     : FMap Qp := []
  /-- memory regions by rkey -/
  mrs     : FMap MemRegion := []
  nextKey : Nat := 1
  rxfrm   : Nat := 0
  badtype : Nat := 0
  fcserr  : Nat := 0
  rnr     : Nat := 0
  cnp     : Nat := 0
  pfcrx   : Nat := 0
  /-- priorities the peer has paused, and what waits to be sent on them, oldest first (02 R36) -/
  pause   : BitVec 8 := 0
  held    : List HostMsg := []
  deriving DecidableEq, Repr

/-! ## Security (03) -/

/-- The security state (03 R77). -/
inductive SecSt where
  | unprovisioned | openState | locked
  deriving DecidableEq, Repr

/-- FW_STATUS.STAGE (03 R93). -/
inductive FwStage where
  | idle | receiving | verifying | staged | rejected | aborted
  deriving DecidableEq, Repr

/-- A firmware slot (03 R67, R74): the image's length, the bytes written to it, and whether the slot keeps an image. -/
structure FwSlot where
  len   : Nat := 0
  data  : List Host.Cell := []
  valid : Bool := true
  deriving DecidableEq, Repr

/-- An SPDM session (03 R72, R86): its standing is 0 none, 1 owner, 2 debug; sessions are numbered as they are opened. -/
structure Spdm where
  id       : Nat := 0
  finished : Bool := false
  standing : Nat := 0
  /-- the AES-256-GCM key and nonce of the requests it carries, 32 and 12 bytes, and how many it has carried (R72) -/
  key      : List Byte := []
  iv       : List Byte := []
  carried  : Nat := 0
  /-- those of its responses, how many it has sent, and the requester's part of the session identifier -/
  outKey   : List Byte := []
  outIv    : List Byte := []
  sent     : Nat := 0
  reqId    : Nat := 0
  deriving DecidableEq, Repr

/-- A debug session (03 R73, R88, R89): virtual device, or 255 for the module; level 1 Trace, 2 Invasive. -/
structure Dbg where
  vd      : Nat := 255
  level   : Nat := 1
  mac     : BitVec 48 := 0
  session : Option Nat := none
  buf     : Word := 0
  len     : Nat := 0
  pos     : Nat := 0
  deriving DecidableEq, Repr

/-- Keys, firmware, SPDM sessions and debug sessions (03 R67 to R93). [DESIGN CHOICE, log 6] -/
structure Sec where
  st        : SecSt := .unprovisioned
  /-- the vendor key hash and the identity seed, 48 bytes of fuses each (R67). -/
  vendorHash : List Byte := List.replicate 48 0
  seed      : List Byte := List.replicate 48 0
  /-- hashes of 48 bytes -/
  ownerHash : List Byte := List.replicate 48 0
  debugHash : List Byte := List.replicate 48 0
  fuseSvn   : Nat := 0
  slotA     : FwSlot := {}
  slotB     : FwSlot := {}
  /-- the active slot: false A, true B; the other is marked pending (R84) -/
  slot      : Bool := false
  pending   : Bool := false
  bootfail  : Bool := false
  /-- security version of the running firmware, 8 bits -/
  svn       : Nat := 0
  /-- last counter accepted since bring-up (R71) -/
  counter   : Nat := 0
  stage     : FwStage := .idle
  reason    : Nat := 0
  /-- the current update: identifier, length, the session that opened it, by its number in the order of opening -/
  update    : Nat := 0
  updLen    : Nat := 0
  updSession : Option Nat := none
  spdm      : FMap Spdm := []
  dbg       : FMap Dbg := []
  /-- notices sent (R69) and random values drawn -/
  notices   : Nat := 0
  draws     : Nat := 0
  deriving DecidableEq, Repr

/-- A command that waits (04 R98, R101): its message, the device it names, and the queue or the range. -/
structure CmdWait where
  cmd : Cmd
  vd  : Nat := 0
  obj : Nat := 0
  len : Nat := 0
  deriving DecidableEq, Repr

/-- An input from the world outside and the tick before which it has not arrived. -/
structure Input where
  tick : Nat := 0
  ev  : Ev
  deriving DecidableEq, Repr

/-- An event that the hardware has made due, from a tick on. -/
structure Due where
  tick : Nat := 0
  ev  : Ev
  deriving DecidableEq, Repr

/-- The events that a trace records (03 R88). -/
inductive TraceKind where
  | dispatch | retire | migrate | fault
  deriving DecidableEq, Repr

/-- What a trace record tells (03 R88, R89): one of a Confidential device has neither PC nor address. -/
structure TraceEv where
  kind  : TraceKind
  cause : Nat := 0
  pc    : Option Word := none
  addr  : Option Word := none
  time  : Nat := 0
  deriving DecidableEq, Repr

/-- The sections of an image and of a shadow copy, by their content (07 R199, R212). -/
inductive Section where
  | courses (l : FMap Course) (chunk : Nat)
  | scratchpad (mem : List Host.Cell) (banks : List Bank) (owners : FMap Holder)
  | tiles (nodes : FMap Node) (tensors : FMap Tensor) (nextBatch : Nat) (failed : List (Nat × Nat))
  | matrix (plane shadow : Plane) (accum : FMap Word)
  /-- the spill log: its VA, its 2 MiB chunks and the stores in it; the counts of boundaries, and what waits at one, by course -/
  | phase (va : Word) (chunks : Nat) (log : List (Nat × List BufStore)) (counts : List (Nat × Nat)) (arrived : List (Nat × List Wait))
  | copies (l : FMap Copy)
  | fills (l : List Copy)
  /-- offsets of the two shadow buffers, and whether the second holds the last completed copy -/
  | shadow (first second : Nat) (last : Bool)
  deriving DecidableEq, Repr

/-- Why the machine stops. -/
inductive Fault where
  /-- An instruction of the instruction set was given to `exec` while no split issues (State.cur is none). Raised by
  the operation that finds the issuer; `step` never meets it. Safe: no instruction issues without a split. -/
  | noIssuer
  deriving DecidableEq, Repr

/-- Why a step has no meaning. -/
inductive Refusal where
  /-- An instruction that has no meaning yet, raised by its arm in Dispatch.lean. Safe. -/
  | notModelled (mnemonic : String)
  deriving DecidableEq, Repr

/-- The state of the module. -/
structure State where
  /-- time in ticks of 0.5 ns since reset (01 R19) -/
  now    : Nat := 0
  /-- the model's own: number of the step, which indexes the free values -/
  free   : Nat := 0
  /-- the model's own: which of the things that may happen next does; 0 when the list has run out -/
  sched  : List Nat := []
  /-- the model's own: inputs of the world outside, in order -/
  inputs : List Input := []
  /-- the model's own: events that the hardware has made due -/
  agenda : List Due := []
  /-- the model's own: data of the event being performed -/
  arg    : EvArg := .none
  /-- the model's own: messages sent, oldest first -/
  out    : List HostMsg := []
  /-- the course and split whose instruction issues -/
  cur    : Option (Nat × Nat) := none
  /-- power and readiness (01) -/
  plat   : Plat := {}
  /-- Gliron ports and the fabric (02) -/
  fab    : Fabric := {}
  /-- the host port (02, 04) -/
  host   : HostPort := {}
  /-- security, firmware and debug (03) -/
  sec    : Sec := {}
  /-- PRE_CFG.DRAIN, 32 bits (07 R221) -/
  preDrain : BitVec 32 := 200000
  /-- the 32 stacks: byte at physical address face * 2^36 + offset (09 R262, R267); an unlisted byte is zero -/
  dram   : List Host.Cell := []
  /-- physical addresses of the 8-byte words whose tag is full (17 R479) -/
  full   : List Nat := []
  /-- physical addresses of 64-byte sectors that hold uncorrectable data (09 R267) -/
  poison : List Nat := []
  /-- cell SRAM: byte at (bench * 9 + cell) * 1,572,864 + bank * 131,072 + offset (09 R268); an unlisted byte is zero -/
  sram   : List Host.Cell := []
  /-- addresses there of the 8-byte words that hold uncorrectable data (09 R267) -/
  sramPoison : List Nat := []
  /-- attribute TLBs, key 2 * (bench * 9 + cell) + core (09 R261) -/
  atlb   : FMap (List AtlbEntry) := []
  /-- benches 0 to 63, an unlisted one is as after reset -/
  benches : FMap Bench := []
  /-- cells, key bench * 9 + cell -/
  cells  : FMap Cell := []
  /-- dies 0 to 3 -/
  dies   : FMap Die := []
  /-- parked records, key die * 16,384 + index (06 R163) -/
  recs   : FMap PRec := []
  /-- event channels: virtual devices, and 64 for the module (04 R118) -/
  chans  : FMap EvChan := []
  /-- virtual devices 0 to 63 (04 R103) -/
  vds    : FMap VDev := []
  /-- VD_SEC.FAB, VD_SVBASE and VD_SVSIZE by number of a virtual device -/
  vdRegs : FMap VdRegs := []
  queues : FMap Queue := []
  /-- generations of queue indices whose queue is gone (04 R108) -/
  qgens  : FMap Nat := []
  tasks  : FMap Task := []
  groups : FMap Group := []
  courses : FMap Course := []
  copies : FMap Copy := []
  /-- commands that wait (04 R101) -/
  waits  : List CmdWait := []
  /-- handles of records whose unit was killed before their fault task was dispatched (06 R175) -/
  expired : List Word := []
  /-- the model's own: the state blobs that have been written, their bytes and what these stand for (04 R125) -/
  blobs  : List (List Byte × Blob) := []
  /-- next unused key of tasks, groups, courses and copies -/
  nextKey : Nat := 0
  deriving DecidableEq, Repr

/-- The module right after reset: power not yet good, every register at its reset value, nothing listed in memory. [DESIGN CHOICE, log 5; DESIGN CHOICE, log 6] -/
def State.reset : State := {}

end Sys2Proof.Machine

namespace Sys2Proof.Config

/-- The bytes of a trace record (03 R88 gives what it tells, not its layout). [DESIGN CHOICE, log 46] -/
opaque traceRecord : Sys2Proof.Machine.TraceEv → List Byte
/-- The bytes of a state blob (04 R125 gives its content, not its layout). [DESIGN CHOICE, log 43] -/
opaque blobBytes : Sys2Proof.Machine.Blob → List Byte
/-- What bytes that this module has not written stand for: they come from another module. [DESIGN CHOICE, log 43] -/
opaque readBlob : List Byte → Sys2Proof.Machine.Blob
/-- The bytes of a section of an image (07 R199 gives its content, not its layout). [DESIGN CHOICE, log 43] -/
opaque sectionBytes : Sys2Proof.Machine.Section → List Byte
/-- The 228 bytes of payload of a flit (02 R44 gives no layout). [DESIGN CHOICE, log 16] -/
opaque flitPayload : Sys2Proof.Flit → List Byte

end Sys2Proof.Config
end

