-- ==== Sys2Proof/Machine/Tables.lean ====
section
/-! DEFINITION. Finite tables with rising keys, byte strings, and memory as a canonical list of (address, byte) pairs. -/
namespace Sys2Proof.Machine

/-! ## Tables -/

/-- The entry at a key. -/
def tget {α : Type} : FMap α → Nat → Option α
  | [], _ => none
  | (a, x) :: m, k => if a = k then some x else if k < a then none else tget m k

/-- Set the entry at a key, keeping the keys rising. -/
def tset {α : Type} : FMap α → Nat → α → FMap α
  | [], k, v => [(k, v)]
  | (a, x) :: m, k, v => if k < a then (k, v) :: (a, x) :: m else if k = a then (k, v) :: m else (a, x) :: tset m k v

/-- Remove the entry at a key. -/
def tdel {α : Type} : FMap α → Nat → FMap α
  | [], _ => []
  | (a, x) :: m, k => if a = k then m else if k < a then (a, x) :: m else (a, x) :: tdel m k

/-- The entry at a key, or a default. -/
def tgetD {α : Type} (m : FMap α) (k : Nat) (d : α) : α := (tget m k).getD d

/-- Set the entry of a table that lists no default. -/
def tput {α : Type} [DecidableEq α] (d : α) (m : FMap α) (k : Nat) (v : α) : FMap α :=
  if v = d then tdel m k else tset m k v

/-- Change the entry at a key, if there is one. -/
def tmod {α : Type} (m : FMap α) (k : Nat) (f : α → α) : FMap α :=
  match tget m k with
  | some x => tset m k (f x)
  | none => m

/-- Keys strictly rising, all at least `lo`. -/
def tsorted {α : Type} : Nat → FMap α → Bool
  | _, [] => true
  | lo, (a, _) :: m => lo ≤ a && tsorted (a + 1) m

/-- The lowest key at or above `k`, below `k + n`, that a table does not list. -/
def tfree {α : Type} (m : FMap α) (k : Nat) : Nat → Option Nat
  | 0 => none
  | n + 1 => if (tget m k).isNone then some k else tfree m (k + 1) n

/-! ## Byte strings -/

/-- Little-endian value of a byte string (R5). -/
def leNat : List Byte → Nat
  | [] => 0
  | b :: r => b.toNat + 256 * leNat r

/-- The n low bytes of a value, least significant first (R5). -/
def leBytes : Nat → Nat → List Byte
  | 0, _ => []
  | n + 1, x => BitVec.ofNat 8 x :: leBytes n (x / 256)

/-- n bytes of a string from an offset, missing ones zero. -/
def sliceB (l : List Byte) (off n : Nat) : List Byte :=
  (List.range n).map (fun i => l.getD (off + i) 0)

/-- The little-endian field of n bytes at an offset. -/
def fieldB (l : List Byte) (off n : Nat) : Nat := leNat (sliceB l off n)

/-- Bits [hi:lo] of a value as a Nat. -/
def bits (x : Nat) (hi lo : Nat) : Nat := (x >>> lo) % 2 ^ (hi + 1 - lo)

/-- Two's complement reading of the low n bits. -/
def sext (n : Nat) (x : Nat) : Int :=
  let m := x % 2 ^ n
  if 2 ^ (n - 1) ≤ m then (m : Int) - (2 ^ n : Nat) else m

/-! ## Memory -/

/-- Every listed byte differs from what an unlisted address reads as, and addresses rise strictly. -/
def Memory.wf (m : List Host.Cell) : Bool := tsorted 0 m && m.all (fun c => c.2 ≠ 0)

/-- The byte at an address; zero where none is listed. [DESIGN CHOICE, log 5] -/
def Memory.read (m : List Host.Cell) (a : Nat) : Byte := tgetD m a 0

/-- Store one byte. -/
def Memory.write (m : List Host.Cell) (a : Nat) (b : Byte) : List Host.Cell := tput 0 m a b

/-- n bytes from an address on. -/
def Memory.readN (m : List Host.Cell) (a : Nat) : Nat → List Byte
  | 0 => []
  | n + 1 => Memory.read m a :: Memory.readN m (a + 1) n

/-- Store a byte string from an address on. -/
def Memory.writeL (m : List Host.Cell) (a : Nat) : List Byte → List Host.Cell
  | [] => m
  | b :: r => Memory.writeL (Memory.write m a b) (a + 1) r

/-- Zero n bytes from an address on: nothing of them stays listed. -/
def Memory.zero (m : List Host.Cell) (a n : Nat) : List Host.Cell := m.filter (fun c => !(a ≤ c.1 && c.1 < a + n))

/-- A sorted list of numbers without repeats, and membership changes in it. -/
def insertNat : List Nat → Nat → List Nat
  | [], k => [k]
  | a :: m, k => if k < a then k :: a :: m else if k = a then a :: m else a :: insertNat m k

/-- Insertion of an element into a list sorted by a comparison, before its equals. -/
def insertBy {α : Type} (le : α → α → Bool) (x : α) : List α → List α
  | [] => [x]
  | y :: r => if le x y then x :: y :: r else y :: insertBy le x r

/-- A stable insertion sort. -/
def sortBy {α : Type} (le : α → α → Bool) : List α → List α
  | [] => []
  | x :: r => insertBy le x (sortBy le r)

/-- The lanes of a mask in ascending order. -/
def lanesOf (m : LaneMask) : List Nat := (List.range 32).filter (fun l => m.getLsbD l)

/-- The mask of one lane. -/
def laneBit (l : Nat) : LaneMask := BitVec.ofNat 32 (2 ^ l)

/-- The mask of a list of lanes. -/
def maskOf (ls : List Nat) : LaneMask := ls.foldl (fun m l => m ||| laneBit l) 0

/-- The lanes of half h under LW16 (08 R255). -/
def halfMask (h : Nat) : LaneMask := if h = 0 then 0x0000ffff else 0xffff0000

/-! ## CRC-64 of ECMA-182 (02 R44, 07 R198) -/

/-- One bit of the CRC's shift register. -/
def crcBit (c : Nat) : Nat := if 2 ^ 63 ≤ c then ((c * 2) % 2 ^ 64) ^^^ 0x42f0e1eba9ea3693 else c * 2

/-- One byte, most significant bit first. -/
def crcByte (c : Nat) (b : Byte) : Nat :=
  crcBit (crcBit (crcBit (crcBit (crcBit (crcBit (crcBit (crcBit (c ^^^ (b.toNat * 2 ^ 56)))))))))

/-- The CRC of a byte string: initial value 0, no reflection, no final XOR. -/
def crc64 (l : List Byte) : Nat := l.foldl crcByte 0

end Sys2Proof.Machine
end

