-- ==== Sys2Proof/Machine/Tiles.lean ====
section
/-! DEFINITION. The geometry of tensors and nodes: boxes, the map from view to storage, ranges and regions (11 R309 to
R311, R316, R318, R325). Nothing here reads memory. -/
namespace Sys2Proof.Machine

/-! ## Boxes -/

/-- The n-th dimension of a box. -/
def boxDim (b : TBox) (n : Nat) : Nat × Nat := b.getD n (0, 1)

/-- A box with no element. -/
def boxEmpty (b : TBox) : Bool := b.any (fun d => d.2 = 0)

/-- The smallest box that holds two boxes. -/
def hull (a b : TBox) : TBox :=
  (List.range 4).map (fun n =>
    let x := boxDim a n
    let y := boxDim b n
    let lo := min x.1 y.1
    (lo, max (x.1 + x.2) (y.1 + y.2) - lo))

/-- Is an index inside a box? -/
def inBox (b : TBox) (i : List Nat) : Bool :=
  (List.range 4).all (fun n => let d := boxDim b n; d.1 ≤ i.getD n 0 && i.getD n 0 < d.1 + d.2)

/-- The indices of a box, dimension 0 fastest. -/
def boxElems (b : TBox) : List (List Nat) :=
  let r := fun n => (List.range (boxDim b n).2).map (· + (boxDim b n).1)
  (r 3).flatMap (fun i3 => (r 2).flatMap (fun i2 => (r 1).flatMap (fun i1 => (r 0).map (fun i0 => [i0, i1, i2, i3]))))

/-- The whole view of an identifier. -/
def Tensor.whole (t : Tensor) : TBox := (List.range 4).map (fun n => (0, t.vext.getD n 1))

/-- Clip a box with signed origins to the view extents (18 R505); dimensions from the rank on hold one element. -/
def Tensor.clip (t : Tensor) (b : List (Int × Nat)) : TBox :=
  (List.range 4).map (fun n =>
    if t.rank ≤ n then (0, 1)
    else
      let d := b.getD n (0, 0)
      let v : Int := t.vext.getD n 1
      let lo := max d.1 0
      let hi := min (d.1 + d.2) v
      if lo < hi then (lo.toNat, (hi - lo).toNat) else (0, 0))

/-- Is an identifier empty (R309)? -/
def Tensor.isEmpty (t : Tensor) : Bool := t.rank = 0

/-! ## View to storage (R310) -/

/-- View index that storage dimension d takes. -/
def Tensor.permOf (t : Tensor) (d : Nat) : Nat := bits t.perm.toNat (2 * d + 1) (2 * d)
def Tensor.offOf (t : Tensor) (d : Nat) : Int := t.off.getD d 0
def Tensor.extOf (t : Tensor) (d : Nat) : Nat := t.ext.getD d 1
def Tensor.strOf (t : Tensor) (d : Nat) : Int := t.str.getD d 0

/-- The storage coordinate of a view element in dimension d. -/
def Tensor.coord (t : Tensor) (i : List Nat) (d : Nat) : Int :=
  (if t.bcast.getLsbD d then 0 else (i.getD (t.permOf d) 0 : Int)) + t.offOf d

/-- The storage coordinates of a view element, none when it is not inside. -/
def Tensor.coords (t : Tensor) (i : List Nat) : Option (List Nat) :=
  if (List.range t.rank).all (fun d => decide (0 ≤ t.coord i d) && decide (t.coord i d < t.extOf d))
  then some ((List.range 4).map (fun d => if d < t.rank then (t.coord i d).toNat else 0)) else none

/-- Twice the size of an element in bytes: one for CB4. -/
def halfSize (fmt : Nat) : Nat :=
  match fmt with
  | 12 => 1
  | 0 | 1 => 2
  | 2 | 3 | 8 | 9 => 4
  | 6 | 7 | 11 => 16
  | _ => 8

/-- Bytes that an element touches. -/
def elemBytes (fmt : Nat) : Nat := max 1 (halfSize fmt / 2)

/-- The linear offset of a view element in elements, none when it is not inside. -/
def Tensor.linear (t : Tensor) (i : List Nat) : Option Int :=
  (t.coords i).map (fun j => (List.range t.rank).foldl (fun a d => a + ((j.getD d 0 : Nat) : Int) * t.strOf d) 0)

/-- The address of the element at a linear offset. -/
def Tensor.addrOf (t : Tensor) (l : Int) : Int := (t.base.toNat : Int) + l * halfSize t.fmt / 2

/-- The address of a view element. -/
def Tensor.addr (t : Tensor) (i : List Nat) : Option Int := (t.linear i).map t.addrOf

/-- The address of the block scale byte, and of the superblock scale, of a storage element (R311). -/
def Tensor.scaleqAt (t : Tensor) (j : List Nat) : Nat :=
  t.scaleq.toNat + j.getD 0 0 / 64 + t.extOf 0 / 64 * (j.getD 1 0 + t.extOf 1 * (j.getD 2 0 + t.extOf 2 * j.getD 3 0))
def Tensor.scalesAt (t : Tensor) (j : List Nat) : Nat :=
  t.scales.toNat + 4 * (j.getD 0 0 / 16384
    + (t.extOf 0 + 16383) / 16384 * (j.getD 1 0 + t.extOf 1 * (j.getD 2 0 + t.extOf 2 * j.getD 3 0)))

/-! ## Ranges (R318) -/

/-- Bytes from `lo` below `hi`, of a group's window or of a virtual device's memory. -/
structure MRange where
  win : Bool
  id  : Nat
  lo  : Int
  hi  : Int
  deriving DecidableEq, Repr

/-- Do two ranges overlap? -/
def MRange.meets (a b : MRange) : Bool := a.win = b.win && a.id = b.id && decide (a.lo < b.hi) && decide (b.lo < a.hi)

/-- The storage box of a view box, per storage dimension from a low bound below a high one, clipped; none when empty. -/
def Tensor.storeBox (t : Tensor) (b : TBox) : Option (List (Int × Int)) :=
  let r := (List.range t.rank).map (fun d =>
    let v := boxDim b (t.permOf d)
    let lo := (if t.bcast.getLsbD d then 0 else (v.1 : Int)) + t.offOf d
    let n : Int := if t.bcast.getLsbD d then 1 else v.2
    (max lo 0, min (lo + n) (t.extOf d)))
  if r.any (fun x => decide (x.2 ≤ x.1)) || boxEmpty b then none else some r

/-- The bounding byte range of a view box. -/
def Tensor.bytes (t : Tensor) (win : Bool) (id : Nat) (b : TBox) : List MRange :=
  match t.storeBox b with
  | none => []
  | some r =>
    let ext := (List.range t.rank).foldl (fun (a : Int × Int) d =>
      let x := r.getD d (0, 1)
      let p := x.1 * t.strOf d
      let q := (x.2 - 1) * t.strOf d
      (a.1 + min p q, a.2 + max p q)) (0, 0)
    [{ win, id, lo := t.addrOf ext.1, hi := t.addrOf ext.2 + elemBytes t.fmt }]

/-- The ranges of the scales of an identifier. -/
def Tensor.scaleBytes (t : Tensor) (win : Bool) (id : Nat) : List MRange :=
  let rows := t.extOf 1 * t.extOf 2 * t.extOf 3
  if t.fmt = 12 then
    [{ win, id, lo := t.scaleq.toNat, hi := (t.scaleq.toNat + t.extOf 0 / 64 * rows : Nat) },
     { win, id, lo := t.scales.toNat, hi := (t.scales.toNat + 4 * ((t.extOf 0 + 16383) / 16384 * rows) : Nat) }]
  else if t.fmt = 0 && t.scales ≠ 0 then [{ win, id, lo := t.scales.toNat, hi := (t.scales.toNat + 4 * t.vext.getD 1 1 : Nat) }]
  else []

/-- The bytes that an element of a view and its scales touch (R310, R311); `row` says that the row of an INT8 activation has a scale. -/
def Tensor.touch (t : Tensor) (row : Bool) (id : Nat) (i : List Nat) : List MRange :=
  let span := fun (lo : Int) (n : Nat) => ({ win := t.spad, id, lo, hi := lo + n } : MRange)
  let own := match t.addr i with
    | some a => [span a (elemBytes t.fmt)]
    | none => []
  let scales := if t.fmt = 12 then (match t.coords i with
      | some j => [span (t.scaleqAt j) 1, span (t.scalesAt j) 4]
      | none => [])
    else if row && t.scales ≠ 0 then [span (t.scales.toNat + 4 * i.getD 1 0 : Nat) 4] else []
  own ++ scales

/-- Do different storage coordinates of an identifier name different elements, each row beyond the one before it? -/
def Tensor.plain (t : Tensor) : Bool :=
  (List.range t.rank).all (fun d => decide (0 < t.strOf d))
    && (List.range (t.rank - 1)).all (fun d => decide ((t.extOf d : Int) * t.strOf d ≤ t.strOf (d + 1)))

/-! ## Nodes -/

/-- A pending node with where it stands: its group, its index, and the virtual device of its group. -/
structure NodeRef where
  gk  : Nat
  idx : Nat
  vd  : Nat
  n   : Node
  deriving DecidableEq, Repr

/-- The window or the device in which an operand of a node lies. -/
def NodeRef.idOf (r : NodeRef) (t : Tensor) : Nat := if t.spad then r.gk else r.vd

/-- The range an operand's view can reach, scales included. -/
def NodeRef.ranges (r : NodeRef) (t : Tensor) : List MRange :=
  let id := r.idOf t
  t.bytes t.spad id t.whole ++ t.scaleBytes t.spad id

/-- The sources of a node. -/
def Node.sources (n : Node) : List Tensor := n.s1.toList ++ n.s2.toList

/-- CAM entries that a node holds: one for each source and one for its destination (R318). -/
def Node.camEntries (n : Node) : Nat := 1 + n.sources.length

/-- The ranges of a node's operands. -/
def NodeRef.allRanges (r : NodeRef) : List MRange := (r.n.d :: r.n.sources).flatMap r.ranges

/-- Two identifiers that name one storage by one map of coordinates. -/
def sameStore (a b : Tensor) : Bool := a.base = b.base && a.fmt = b.fmt && a.spad = b.spad && a.str = b.str && a.rank = b.rank

/-- The box of `u` whose storage coordinates are those of box `x` of `t`, which names the same store (R325). -/
def boxOn (t : Tensor) (x : TBox) (u : Tensor) : Option TBox :=
  match t.storeBox x with
  | none => none
  | some r =>
    let b : TBox := (List.range 4).map (fun e =>
      match (List.range u.rank).find? (fun d => !u.bcast.getLsbD d && u.permOf d = e) with
      | some d =>
        let s := r.getD d (0, 1)
        let lo := max (s.1 - u.offOf d) 0
        let hi := min (s.2 - u.offOf d) (u.vext.getD e 1)
        if lo < hi then (lo.toNat, (hi - lo).toNat) else (0, 0)
      | none => (0, u.vext.getD e 1))
    if boxEmpty b || (List.range u.rank).any (fun d => u.bcast.getLsbD d &&
        (let s := r.getD d (0, 1); decide (u.offOf d < s.1) || decide (s.2 ≤ u.offOf d))) then none else some b

/-- The box of `u` whose elements or scales touch some bytes (R311, R325). -/
def boxBy (rs : List MRange) (u : Tensor) (id : Nat) : Option TBox :=
  match (boxElems u.whole).filter (fun i => (u.touch false id i).any (fun a => rs.any a.meets)) with
  | [] => none
  | i :: r => some (r.foldl (fun b j => hull b (j.map (·, 1))) (i.map (·, 1)))

/-- Does a node read the scales of its activations' rows: a TMMA of INT8 with CB4 (R317)? -/
def Node.rowScales (n : Node) (t : Tensor) : Bool := n.op = 1 && n.s2.map (·.fmt) = some 12 && n.s1 = some t

/-- The box of node `m` that a box of an operand of node `r` depends on, the scales of its elements among what it reads (R311, R325). -/
def NodeRef.uses (r : NodeRef) (t : Tensor) (x : TBox) (m : NodeRef) : Option TBox :=
  let d := m.n.d
  let row := r.n.rowScales t
  if !(t.bytes t.spad (r.idOf t) x ++ t.scaleBytes t.spad (r.idOf t)).any (fun a => (m.ranges d).any a.meets) then none
  else if t.fmt ≠ 12 && !(row && t.scales ≠ 0) && sameStore t d && t.plain then boxOn t x d
  else boxBy ((boxElems x).flatMap (t.touch row (r.idOf t))) d (m.idOf d)

/-- The widening of a destination box: whole superblocks for TCVT to CB4 (R316). -/
def Node.widen (n : Node) (x : TBox) : TBox :=
  if n.op = 4 && n.d.fmt = 12 then
    let e := n.d.permOf 0
    let o := n.d.offOf 0
    let v : Int := n.d.vext.getD e 1
    x.mapIdx (fun k d => if k = e then
        let lo := ((d.1 : Int) + o) / 16384 * 16384 - o
        let hi := ((d.1 + d.2 : Nat) + o + 16383) / 16384 * 16384 - o
        ((max lo 0).toNat, (min hi v - max lo 0).toNat)
      else d)
  else x

/-- The source boxes for a destination box (R316), beside each source. -/
def Node.regions (n : Node) (x : TBox) : List (Tensor × TBox) :=
  match n.op with
  | 1 =>
    (n.s1.toList.map (fun a => (a, [(0, a.vext.getD 0 1), boxDim x 1, (0, 1), (0, 1)]))) ++
    (n.s2.toList.map (fun b => (b, [(0, b.vext.getD 0 1), boxDim x 0, (0, 1), (0, 1)])))
  | 2 => n.sources.map (fun s => (s, x.mapIdx (fun k d => if s.vext.getD k 1 = 1 then (0, 1) else d)))
  | 3 => n.sources.map (fun s => (s, x.mapIdx (fun k d => if k = n.sub then (0, s.vext.getD k 1) else d)))
  | _ => n.sources.map (fun s => (s, x))

/-- The source elements of a destination element, the prior one of .ACC among them. -/
def Node.reads (nd : Node) (i : List Nat) : List (Tensor × List Nat) :=
  let s1 := nd.s1.getD {}
  let s2 := nd.s2.getD {}
  let clip := fun (t : Tensor) => i.mapIdx (fun k x => if t.vext.getD k 1 = 1 then 0 else x)
  match nd.op with
  | 0 | 4 => [(s1, i)]
  | 2 => (s1, clip s1) :: (if nd.s2.isSome then [(s2, clip s2)] else [])
  | 3 => (List.range (s1.vext.getD nd.sub 1)).map (fun k => (s1, i.mapIdx (fun n x => if n = nd.sub then k else x)))
  | _ => (List.range (s1.vext.getD 0 1)).flatMap (fun k => [(s1, [k, i.getD 1 0, 0, 0]), (s2, [k, i.getD 0 0, 0, 0])])
      ++ (if nd.acc then [(nd.d, i)] else [])

/-- The earlier nodes that a node depends on for a destination box, each with its own box. -/
def NodeRef.deps (r : NodeRef) (all : List NodeRef) (x : TBox) : List (NodeRef × TBox) :=
  (r.n.regions x).flatMap (fun p =>
    all.filterMap (fun m => if m.n.seq < r.n.seq then (r.uses p.1 p.2 m).map (fun b => (m, b)) else none))

/-- Does the evaluation of a node for a box reach a node? -/
def reaches (all : List NodeRef) (gk idx : Nat) : Nat → NodeRef → TBox → Bool
  | 0, _, _ => false
  | n + 1, r, x => (r.gk = gk && r.idx = idx) || (r.deps all x).any (fun p => reaches all gk idx n p.1 p.2)

/-- The nodes that a demanded box of an identifier needs first (R325). -/
def needed (all : List NodeRef) (gk vd : Nat) (g : Tensor) (x : TBox) : List (NodeRef × TBox) :=
  all.filterMap (fun m => ({ gk, idx := 0, vd, n := {} } : NodeRef).uses g x m |>.map (fun b => (m, b)))

/-- Does a demand reach a node? -/
def Demand.reaches (d : Demand) (all : List NodeRef) (gk vd tg ti : Nat) : Bool :=
  (needed all gk vd d.g d.box).any (fun p => Machine.reaches all tg ti 65 p.1 p.2)

/-- Does a demand's evaluation reach a TMMA (R334)? -/
def usesArray (all : List NodeRef) : Nat → NodeRef → TBox → Bool
  | 0, _, _ => false
  | n + 1, r, x => r.n.op = 1 || (r.deps all x).any (fun p => usesArray all n p.1 p.2)

end Sys2Proof.Machine
end

