-- ==== Sys2Proof/Machine/Ops.lean ====
section
/-! DEFINITION. The named operations over the state that every meaning uses: entities, clocks, translated memory and the
views, registers and pending writes, the parked record (taking an exception) and its return, kills, and the issue of an
instruction. -/
namespace Sys2Proof.Machine

/-- What a meaning answers. -/
abbrev Out := Host.Outcome State Fault Refusal

/-! ## Entities -/

def State.course (s : State) (c : Nat) : Course := tgetD s.courses c {}
def State.group (s : State) (g : Nat) : Group := tgetD s.groups g {}
def State.task (s : State) (t : Nat) : Task := tgetD s.tasks t {}
def State.vd (s : State) (n : Nat) : VDev := tgetD s.vds n {}
/-- The registers of a device number: there whether or not the device exists (07 R223). [DEDUCED, log 47] -/
def State.vdReg (s : State) (n : Nat) : VdRegs := tgetD s.vdRegs n {}
def State.bench (s : State) (b : Nat) : Bench := tgetD s.benches b {}
def State.die (s : State) (d : Nat) : Die := tgetD s.dies d {}
def State.cell (s : State) (k : Nat) : Cell := tgetD s.cells k {}
def State.record (s : State) (k : Nat) : PRec := tgetD s.recs k {}
def State.queue (s : State) (k : Nat) : Queue := tgetD s.queues k { live := false }
def State.port (s : State) (p : Nat) : Port := tgetD s.fab.ports p {}

def State.setCourse (s : State) (k : Nat) (c : Course) : State := { s with courses := tset s.courses k c }
def State.setGroup (s : State) (k : Nat) (g : Group) : State := { s with groups := tset s.groups k g }
def State.setTask (s : State) (k : Nat) (t : Task) : State := { s with tasks := tset s.tasks k t }
def State.setVd (s : State) (k : Nat) (v : VDev) : State := { s with vds := tset s.vds k v }
def State.setVdReg (s : State) (k : Nat) (v : VdRegs) : State := { s with vdRegs := tput {} s.vdRegs k v }
def State.setBench (s : State) (k : Nat) (b : Bench) : State := { s with benches := tset s.benches k b }
def State.setDie (s : State) (k : Nat) (d : Die) : State := { s with dies := tset s.dies k d }
def State.setCell (s : State) (k : Nat) (c : Cell) : State := { s with cells := tset s.cells k c }
def State.setRecord (s : State) (k : Nat) (r : PRec) : State := { s with recs := tset s.recs k r }
def State.setQueue (s : State) (k : Nat) (q : Queue) : State := { s with queues := tset s.queues k q }
def State.setPort (s : State) (k : Nat) (p : Port) : State := { s with fab := { s.fab with ports := tset s.fab.ports k p } }

/-- An event that the hardware makes due at a tick. -/
def State.post (s : State) (t : Nat) (i : Instr) (a : EvArg) : State :=
  { s with agenda := s.agenda ++ [{ tick := t, ev := { i, arg := a } }] }

/-- The same, unless it is due already. -/
def State.postOnce (s : State) (t : Nat) (i : Instr) (a : EvArg) : State :=
  if s.agenda.any (fun d => d.ev.i = i && d.ev.arg = a) then s else s.post t i a

/-- The queue pair by which a message leaves (04 R94, R95, R118). -/
def HostMsg.qp (m : HostMsg) : Option Nat :=
  match m with
  | .resp q _ _ _ _ _ | .readResp q _ _ | .ack q | .nak q _ | .rnr q | .cnp q => some q
  | .event ch _ _ => some (if ch = 64 then 0x100 else 0x100000 + 256 * ch)
  | _ => none

/-- Has the peer paused the priority that a message leaves on (02 R36)? -/
def State.paused (s : State) (m : HostMsg) : Bool :=
  s.host.pause ≠ 0 && (match m.qp with
    | some q => s.host.pause.getLsbD (tgetD s.host.qps q {}).prio.toNat
    | none => false)

/-- Send a message to the world outside; it waits while its priority is paused (02 R36). -/
def State.send (s : State) (m : HostMsg) : State :=
  if s.paused m then { s with host := { s.host with held := s.host.held ++ [m] } } else { s with out := s.out ++ [m] }

/-- A virtual device's group, task and device of a course. -/
def State.taskOf (s : State) (c : Nat) : Nat := (s.group (s.course c).group).task
def State.vdOf (s : State) (c : Nat) : Nat := (s.task (s.taskOf c)).vd

/-- The die of a bench (01 R13). -/
def dieOf (bench : Nat) : Nat := bench / 16
/-- The key of a cell. -/
def cellKey (bench cell : Nat) : Nat := bench * 9 + cell

/-- The courses of a group, keys ascending in c. -/
def State.coursesOf (s : State) (g : Nat) : List Nat := (s.courses.filter (fun p => p.2.group = g)).map (·.1)
/-- The groups of a task. -/
def State.groupsOf (s : State) (t : Nat) : List Nat := (s.groups.filter (fun p => p.2.task = t && !p.2.ended)).map (·.1)

/-- Fold over keys. -/
def State.forEach (s : State) (ks : List Nat) (f : State → Nat → State) : State := ks.foldl f s

/-! ## Extents and ranks (05 R130, 08 R224) -/

def extFX (e : Word) : Nat := bits e.toNat 23 19
def extBX (e : Word) : Nat := bits e.toNat 18 18
def extCX (e : Word) : Nat := bits e.toNat 17 15
def extKX (e : Word) : Nat := bits e.toNat 5 0

/-- The course rank q (R224). -/
def rankOf (e : Word) (f b g c : Nat) : Nat := ((f * (extBX e + 1) + b) * (extCX e + 1) + g) * (extKX e + 1) + c

/-- The rank of a course. -/
def State.rank (s : State) (c : Nat) : Nat :=
  let co := s.course c
  let g := s.group co.group
  rankOf (s.task g.task).trec.extents g.f g.b g.g co.c

/-! ## Clocks (01 R19) -/

/-- Ticks of a microsecond (01 R19). -/
def usTicks : Nat := 2000

/-- A bench's 48-bit clock. -/
def State.clock (s : State) (b : Nat) : Nat := (s.now + 2 ^ 48 - (s.bench b).clk0 % 2 ^ 48) % 2 ^ 48

/-- The value a bench clock has at a tick. -/
def State.clockAt (s : State) (b t : Nat) : Nat := (t + 2 ^ 48 - (s.bench b).clk0 % 2 ^ 48) % 2 ^ 48

/-- Has a deadline passed: is the clock less than half its range beyond it (05 R140)? -/
def State.isPast (s : State) (d : Option Nat) : Bool :=
  match d with
  | some t => (s.now + 2 ^ 48 - t % 2 ^ 48) % 2 ^ 48 < 2 ^ 47
  | none => false

/-! ## Free values -/

/-- The free value number k of this step. [DESIGN CHOICE, log 3] -/
def State.freeNat (s : State) (k : Nat) : Nat := Config.freeNat s.free k

/-- Take the next choice of the schedule; 0 when the list has run out. [DESIGN CHOICE, log 2] -/
def State.choose (s : State) : Nat × State :=
  match s.sched with
  | [] => (0, s)
  | n :: r => (n, { s with sched := r })

/-! ## Translation (09 R261, R262) -/

/-- Bytes of a page by its code (04 R105). -/
def pageBytes (p : Nat) : Nat := if p = 0 then 65536 else if p = 1 then 2097152 else 1073741824

/-- The mapping that holds a virtual address. -/
def VDev.mapping (v : VDev) (va : Nat) : Option Mapping := v.maps.find? (fun m => m.va ≤ va && va < m.va + m.len)

/-- The physical address of a virtual one. -/
def VDev.phys (v : VDev) (va : Nat) : Option Nat :=
  match v.mapping va with
  | none => none
  | some m =>
    match m.phys[(va - m.va) / pageBytes m.page]? with
    | none => none
    | some base => some (base + (va - m.va) % pageBytes m.page)

/-- Permissions: bit 0 read, bit 1 write, bit 2 execute (04 R105). -/
def VDev.perm (v : VDev) (va : Nat) : BitVec 3 := ((v.mapping va).map (·.perm)).getD 0

/-- The face that backs a physical address. [DESIGN CHOICE, log 7] -/
def faceOf (pa : Nat) : Nat := pa / 2 ^ 36

/-- Does a range translate in every byte's granule? -/
def VDev.mapsAll (v : VDev) (va n : Nat) : Bool :=
  n = 0 || (List.range ((va + n - 1) / 65536 - va / 65536 + 1)).all (fun i => (v.phys (max va ((va / 65536 + i) * 65536))).isSome)

/-- A permission over every granule of a range. -/
def VDev.allows (v : VDev) (va n : Nat) (bit : Nat) : Bool :=
  n = 0 || (List.range ((va + n - 1) / 65536 - va / 65536 + 1)).all
    (fun i => (v.perm (max va ((va / 65536 + i) * 65536))).getLsbD bit)

/-! ## Global memory and the views (10 R284 to R297) -/

/-- How far two courses stand apart: the least scope that covers both (10 R285). -/
def State.dist (s : State) (a b : Nat) : Nat :=
  let ga := s.group (s.course a).group
  let gb := s.group (s.course b).group
  if (s.course a).group = (s.course b).group then 0
  else if ga.task = gb.task && ga.f = gb.f && ga.b = gb.b then 1
  else if ga.task = gb.task && ga.f = gb.f then 2
  else 3

/-- What a write that is visible at `scope` means to a reader: the least scope of a refresh that makes the reader's
view hold it; 5 when none does (R285, R287). For a writer that is no course, `scope` is that least scope: quarry for what the module
itself writes, whose writes reach every course of it (R306), sys for the host and for other modules (R304). -/
def State.staleDist (s : State) (writer : Option Nat) (scope reader : Nat) : Nat :=
  match writer with
  | none => scope
  | some w => if s.dist w reader ≤ scope then s.dist w reader else 5

/-- A course that can still read. -/
def Course.alive (c : Course) : Bool :=
  match c.st with
  | .retired | .killed _ => false
  | _ => true

/-- An older value of a byte is kept behind those that stand before it; where the write changes nothing, only behind such. -/
def keepOld (changes : Bool) (l : List StaleByte) (e : StaleByte) : List StaleByte :=
  if changes || l.any (fun x => x.addr = e.addr) then l ++ [e] else l

/-- The views of the other courses keep the older byte until a refresh (R287); the writer's own view holds the write. [DESIGN CHOICE, log 74] -/
def State.ageViews (s : State) (writer : Option Nat) (scope pa : Nat) (old : Byte) (changes : Bool) : State :=
  let task := writer.map (fun w => (s.group (s.course w).group).task)
  { s with courses := s.courses.map (fun p =>
      if !p.2.alive then p
      else if writer = some p.1 then p
      else
        let e : StaleByte := { addr := pa, old, d := s.staleDist writer scope p.1, task, tick := s.now }
        (p.1, { p.2 with stale := keepOld changes p.2.stale e, staleI := keepOld changes p.2.staleI e })) }

/-- The view of the course that writes a byte holds the write, and nothing older (R287). -/
def State.ownView (s : State) (writer : Option Nat) (pa : Nat) : State :=
  match writer with
  | none => s
  | some w =>
    { s with courses := tmod s.courses w (fun c =>
        if !c.alive then c
        else { c with stale := c.stale.filter (·.addr ≠ pa), seen := c.seen.filter (fun e => e.1 % 2 ^ 64 ≠ pa) }) }

/-- Write one byte at its home. -/
def State.pokePhys (s : State) (writer : Option Nat) (scope pa : Nat) (b : Byte) : State :=
  let s := s.ownView writer pa
  let old := Memory.read s.dram pa
  let s := s.ageViews writer scope pa old (old ≠ b)
  { s with dram := Memory.write s.dram pa b }

/-- The stores that a task has performed at its courses' own scopes are visible at sys from its completion on (05 R153, 10 R306). -/
def State.showStores (s : State) (tk : Nat) : State :=
  { s with courses := s.courses.map (fun p =>
      (p.1, { p.2 with stale := p.2.stale.map (fun e => if e.task = some tk && e.d = 5 then { e with d := 3 } else e) })) }

/-- Granules of 64 KiB that a write touches while a migration tracks them (04 R123, R124). -/
def State.track (s : State) (vdn va : Nat) : State :=
  let v := s.vd vdn
  if v.mig = .tracking || v.mig = .stopping || v.mig = .stopped then s.setVd vdn { v with dirty := insertNat v.dirty (va / 65536) } else s

/-- Write bytes at their homes; bytes that do not translate are left out. [DEDUCED, log 73] -/
def State.pokeVA (s : State) (vdn : Nat) (writer : Option Nat) (scope va : Nat) : List Byte → State
  | [] => s
  | b :: r =>
    let s1 := match (s.vd vdn).phys va with
      | some pa => (s.pokePhys writer scope pa b).track vdn va
      | none => s
    s1.pokeVA vdn writer scope (va + 1) r

/-- Read n bytes at their homes; a byte that does not translate reads zero. -/
def State.peekVA (s : State) (vdn va : Nat) : Nat → List Byte
  | 0 => []
  | n + 1 =>
    (match (s.vd vdn).phys va with
     | some pa => Memory.read s.dram pa
     | none => 0) :: s.peekVA vdn (va + 1) n

/-- Does a range of a device lie on a face that is not ready (01 R32)? -/
def State.faceDown (s : State) (vdn va n : Nat) : Bool :=
  (List.range n).any (fun i => match (s.vd vdn).phys (va + i) with
    | some pa => !s.plat.readyFace.getLsbD (faceOf pa)
    | none => false)

/-- Does a range of a device hold uncorrectable data (09 R267)? A face that is not ready answers as one that does (01 R32). [DEDUCED, log 38] -/
def State.poisoned (s : State) (vdn va n : Nat) : Bool :=
  s.faceDown vdn va n || (List.range n).any (fun i => match (s.vd vdn).phys (va + i) with
    | some pa => s.poison.contains (pa / 64 * 64)
    | none => false)

/-- The full/empty tag of a word (17 R479). -/
def State.tagFull (s : State) (vdn va : Nat) : Bool :=
  match (s.vd vdn).phys va with
  | some pa => s.full.contains pa
  | none => false

/-- Change a tag. -/
def State.setTag (s : State) (vdn va : Nat) (f : Bool) : State :=
  match (s.vd vdn).phys va with
  | some pa => { s with full := if f then insertNat s.full pa else s.full.filter (· ≠ pa) }
  | none => s

/-- What a refresh at a scope leaves of the older bytes, oldest first: where it shows a write of a byte, the values before that write go
too (R287). -/
def freshen (scope : Nat) : List StaleByte → List StaleByte
  | [] => []
  | e :: r => if (e :: r).any (fun x => x.addr = e.addr && decide (x.d ≤ scope)) then freshen scope r else e :: freshen scope r

/-- Refresh a course's view at a scope (R288): what the scope does not reach reads one value until the next refresh, unless it is written
again (R287). -/
def Course.refresh (c : Course) (scope : Nat) : Course :=
  { c with stale := (freshen scope c.stale).map (fun e => { e with held := 1 }), views := c.views + 1 }

/-- The bytes a plain load may read at a physical address, oldest first, the present one last (R287). -/
def State.viewBytes (s : State) (c : Course) (pa : Nat) : List Byte :=
  (c.stale.filter (fun e => e.addr = pa)).map (·.old) ++ [Memory.read s.dram pa]

/-- Drop the first n entries of a byte's older values: once a value is read, no older one is (R287). [DESIGN CHOICE, log 74] -/
def dropStale : List StaleByte → Nat → Nat → List StaleByte
  | [], _, _ => []
  | e :: r, pa, n => if e.addr = pa then (if n = 0 then e :: r else dropStale r pa (n - 1)) else e :: dropStale r pa n

/-- A byte that nobody has written since the last refresh keeps the value that has been read (R287). -/
def settleByte (l : List StaleByte) (pa : Nat) : List StaleByte :=
  l.map (fun e => if e.addr = pa then { e with held := 2 } else e)

/-- How free the view of a byte is: 0 when it was written since the last refresh, 1 when its value is still to be settled, 2 when it is
settled (R287). -/
def heldByte (l : List StaleByte) (pa : Nat) : Nat := (((l.filter (fun e => e.addr = pa)).getLast?).map (·.held)).getD 0

/-- Is the launch of a course shadowed? -/
def State.shadowed (s : State) (cid : Nat) : Bool := (s.task (s.group (s.course cid).group).task).hdr.shadow

/-- Remember the byte that a plain load of a shadowed launch has read, for a re-run of the interval (07 R214). -/
def State.noteSeen (s : State) (cid pa : Nat) (b : Byte) : State :=
  if !s.shadowed cid then s
  else
    let c := s.course cid
    s.setCourse cid { c with seen := tset c.seen (c.views * 2 ^ 64 + pa) b }

/-- Read one byte of a course's view; which of the allowed values is free (R287). A shadowed launch reads one value of a byte in one view,
so that a re-run of its interval repeats it (07 R214). [DEDUCED, log 73; DESIGN CHOICE, log 74] -/
def State.viewRead (s : State) (cid : Nat) (pa k : Nat) : Byte × State :=
  let c := s.course cid
  let vs := s.viewBytes c pa
  let again := if s.shadowed cid then tget c.seen (c.views * 2 ^ 64 + pa) else none
  match again with
  | some b => (b, s)
  | none =>
    if vs.length ≤ 1 then (Memory.read s.dram pa, s.noteSeen cid pa (Memory.read s.dram pa))
    else
      let h := heldByte c.stale pa
      let j := if h = 2 then 0 else s.freeNat k % vs.length
      let l := dropStale c.stale pa j
      (vs.getD j 0, (s.setCourse cid { c with stale := if h = 0 then l else settleByte l pa }).noteSeen cid pa (vs.getD j 0))

/-! ## Cell SRAM -/

/-- Bytes of a cell's banks. -/
def sramBytes : Nat := 1572864
/-- Address of a byte of a cell's banks in `State.sram`. [DESIGN CHOICE, log 7] -/
def sramAddr (bench cell off : Nat) : Nat := cellKey bench cell * sramBytes + off

/-- Where a window offset lies: bank and offset in it (09 R274). [DEDUCED, log 78] -/
def Group.place (g : Group) (off : Nat) : Option Nat := (g.banks[off / 131072]?).map (fun b => b * 131072 + off % 131072)

/-- The mode of a bank of a cell. -/
def State.bankOf (s : State) (bench cell bank : Nat) : Bank := tgetD (s.cell (cellKey bench cell)).banks bank {}

/-- The group g of the bench group of a group, if it still runs (09 R275). -/
def State.peerGroup (s : State) (gk g : Nat) : Option Nat :=
  let me := s.group gk
  ((s.groups.filter (fun p => p.2.task = me.task && p.2.f = me.f && p.2.b = me.b && p.2.g = g && !p.2.ended)).map (·.1)).head?

/-- Read a byte of a group's window at its bank, or in its image while it is saved (07 R199); out of the window it reads
zero. -/
def State.peekWin (s : State) (gk off : Nat) : Byte :=
  let g := s.group gk
  if g.saved then Memory.read g.image off
  else match g.place off with
  | some o => Memory.read s.sram (sramAddr g.bench g.cell o)
  | none => 0

/-- Write a byte of a group's window at its bank, or in its image while it is saved. -/
def State.pokeWin (s : State) (gk off : Nat) (b : Byte) : State :=
  let g := s.group gk
  if g.saved then s.setGroup gk { g with image := Memory.write g.image off b }
  else match g.place off with
  | some o => { s with sram := Memory.write s.sram (sramAddr g.bench g.cell o) b }
  | none => s

def State.peekWinN (s : State) (gk off : Nat) : Nat → List Byte
  | 0 => []
  | n + 1 => s.peekWin gk off :: s.peekWinN gk (off + 1) n

def State.pokeWinL (s : State) (gk off : Nat) : List Byte → State
  | [] => s
  | b :: r => (s.pokeWin gk off b).pokeWinL gk (off + 1) r

/-- Do n bytes of a cell's banks hold uncorrectable data (09 R267)? -/
def State.sramBad (s : State) (bench cell off n : Nat) : Bool :=
  s.sramPoison.any (fun w => w < sramAddr bench cell off + n && sramAddr bench cell off < w + 8)

/-- Do n bytes of a group's window, within one bank, hold uncorrectable data? -/
def State.winBad (s : State) (gk off n : Nat) : Bool :=
  let g := s.group gk
  if g.saved then false
  else match g.place off with
  | some o => s.sramBad g.bench g.cell o n
  | none => false

/-- The mode of the bank where a window offset lies, as the image has it while the group is saved: an access to it waits (09 R275); none
outside the leased banks. -/
def State.winMode (s : State) (gk off : Nat) : Option BankMode :=
  let g := s.group gk
  if g.saved then some (((g.saveBanks[off / 131072]?).map (·.mode)).getD .spad)
  else (g.place off).map (fun o => (s.bankOf g.bench g.cell (o / 131072)).mode)

/-- A bank starts anew: every byte reads zero. -/
def State.zeroBank (s : State) (bench cell b : Nat) : State :=
  let lo := sramAddr bench cell (b * 131072)
  { s with sram := Memory.zero s.sram lo 131072, sramPoison := s.sramPoison.filter (fun w => w < lo || lo + 131072 ≤ w) }

/-- Is a granule of a group's window engine-owned, and who holds it (09 R277)? -/
def State.holder (s : State) (gk gran : Nat) : Option Holder :=
  let g := s.group gk
  if g.saved then tget g.saveOwners gran
  else match g.place (gran * 4096) with
  | some o => tget (s.cell (cellKey g.bench g.cell)).owners (o / 4096)
  | none => none

/-- Set or clear the engine owner of a granule. -/
def State.setHolder (s : State) (gk gran : Nat) (h : Option Holder) : State :=
  let g := s.group gk
  if g.saved then s.setGroup gk { g with saveOwners := match h with
                                                       | some x => tset g.saveOwners gran x
                                                       | none => tdel g.saveOwners gran }
  else match g.place (gran * 4096) with
  | some o =>
    let k := cellKey g.bench g.cell
    let c := s.cell k
    s.setCell k { c with owners := match h with
                                   | some x => tset c.owners (o / 4096) x
                                   | none => tdel c.owners (o / 4096) }
  | none => s

/-! ## The buffer of buffered stores (10 R286, R291) -/

/-- The rank key of a store within its course (R291); under LW16 the half comes first. -/
def BufStore.key (lw16 : Bool) (e : BufStore) : Nat :=
  if lw16 then (e.half * 2 ^ 64 + e.seq) * 32 + e.lane else e.seq * 32 + e.lane

/-- Put a byte into the buffer: for each byte the store of greatest key stays (R286). -/
def bufPut (lw16 : Bool) (e : BufStore) : List BufStore → List BufStore
  | [] => [e]
  | x :: r => if x.loc = e.loc then (if x.key lw16 ≤ e.key lw16 then e :: r else x :: r) else x :: bufPut lw16 e r

/-- The buffered byte at an address. -/
def bufGet (b : List BufStore) (l : Loc) : Option Byte := (b.find? (fun e => e.loc = l)).map (·.val)

/-- The next byte of an address. -/
def Loc.add (l : Loc) (n : Nat) : Loc :=
  match l with
  | .glob va => .glob ((va + n) % 2 ^ 64)
  | .win g off => .win g (off + n)
  | .cell b c off => .cell b c (off + n)
  | .far m b c a => .far m b c (a + n)

/-- What the buffer forwards for n bytes. -/
def bufFwd (b : List BufStore) (l : Loc) (n : Nat) : List (Option Byte) := (List.range n).map (fun i => bufGet b (l.add i))

/-- Perform one buffered byte at its home (R290, R295); one whose place an UNMAP took away is discarded (04 R106). -/
def State.perform (s : State) (cid scope : Nat) (e : BufStore) : State :=
  match e.loc with
  | .glob va => if e.lost.isSome then s else s.pokeVA (s.vdOf cid) (some cid) scope va [e.val]
  | .win g off =>
    match s.peerGroup (s.course cid).group g with
    | some gk => s.pokeWin gk off e.val
    | none => s
  | _ => s

/-- The stores of a group's courses into one granule of its window, in rank order, are applied and leave their buffers
(09 R278). -/
def State.applyGranule (s : State) (gk gran : Nat) : State :=
  let g := s.group gk
  let inGran := fun (e : BufStore) => match e.loc with
    | .win n off => n = g.g && off / 4096 = gran
    | _ => false
  (s.coursesOf gk).foldl (fun s cid =>
    let c := s.course cid
    let s := (c.buf.filter inGran).foldl (fun s e => s.perform cid 0 e) s
    s.setCourse cid { s.course cid with buf := (s.course cid).buf.filter (fun e => !inGran e) }) s

/-! ## Events to the host (04 R118, R119) -/

/-- The clock of the lowest ready bench of a die, else of the module (R118). -/
def State.eventTime (s : State) (die : Nat) : Nat :=
  match (List.range 16).find? (fun i => s.plat.readyBench.getLsbD (die * 16 + i)) with
  | some i => s.clock (die * 16 + i)
  | none =>
    match (List.range 64).find? (fun i => s.plat.readyBench.getLsbD i) with
    | some i => s.clock i
    | none => 0

/-- The EVENT_LOSS record of a channel (R118, R119): its device, the time and the count. [DESIGN CHOICE, log 46] -/
def lossEvent (vdb time dropped : Nat) : List Byte := leBytes 1 7 ++ leBytes 1 vdb ++ leBytes 6 0 ++ leBytes 8 time ++ leBytes 8 dropped ++ leBytes 8 0

/-- Deliver what a channel can deliver: the events that were dropped first (R119). -/
def EvChan.flush (vdb time : Nat) : Nat → EvChan → List (List Byte × Nat) × EvChan
  | 0, c => ([], c)
  | n + 1, c =>
    if c.space = 0 then ([], c)
    else
      match (if c.dropped ≠ 0 then some (lossEvent vdb time c.dropped) else none), c.queued with
      | some loss, _ =>
        let r := EvChan.flush vdb time n { c with space := c.space - 1, dropped := 0, tag := (c.tag + 1) % 2 ^ 32 }
        ((loss, c.tag) :: r.1, r.2)
      | none, e :: q =>
        let r := EvChan.flush vdb time n { c with space := c.space - 1, queued := q, tag := (c.tag + 1) % 2 ^ 32 }
        ((e, c.tag) :: r.1, r.2)
      | none, [] => ([], c)

/-- Deliver the events of a channel for which host software has posted space; in Retention they wait, since the host port carries
management alone (01 R17). -/
def State.flushChan (s : State) (ch : Nat) : State :=
  if s.plat.cur = .retention then s else
  let c := tgetD s.chans ch {}
  let r := EvChan.flush (if ch = 64 then 0xff else ch) (s.eventTime 0) (c.space + 1) c
  r.1.foldl (fun s e => s.send (.event ch e.2 e.1)) { s with chans := tset s.chans ch r.2 }

/-- Post an event record (R118): kind, virtual device byte, code, reporting die, detail of 16 bytes. [DESIGN CHOICE, log 46] -/
def State.event (s : State) (ch kind vdb code die : Nat) (detail : List Byte) : State :=
  let body := leBytes 1 kind ++ leBytes 1 vdb ++ leBytes 2 code ++ leBytes 4 0 ++ leBytes 8 (s.eventTime die) ++ sliceB detail 0 16
  let c := tgetD s.chans ch {}
  let c := if c.queued.length < 1024 then { c with queued := c.queued ++ [body] } else { c with dropped := c.dropped + 1 }
  { s with chans := tset s.chans ch c }.flushChan ch

/-- One trace record into the ring of a debug session, as an engine write at system scope; dropped where its place does not translate
(03 R73). -/
def State.traceRing (s : State) (k : Nat) (d : Dbg) (l : List Byte) : State :=
  if d.len < l.length || !(List.range l.length).all (fun i => ((s.vd d.vd).phys (d.buf.toNat + (d.pos + i) % d.len)).isSome) then s
  else
    let s := (List.range l.length).foldl (fun (s : State) i => s.pokeVA d.vd none 3 (d.buf.toNat + (d.pos + i) % d.len) [l.getD i 0]) s
    { s with sec := { s.sec with dbg := tset s.sec.dbg k { d with pos := (d.pos + l.length) % d.len } } }

/-- A management notice to an address: notices are counted from 1 (03 R69). -/
def State.mgmtNotice (s : State) (mac : BitVec 48) (opc : BitVec 8) (status : Nat) (body : List Byte) : State :=
  { s with sec := { s.sec with notices := s.sec.notices + 1 } }.send (.mgmtNotice mac opc (s.sec.notices + 1) status body)

/-- What debug sessions trace of a device (03 R73, R88, R89): each session that targets it gets a record in its ring; a session of the
whole module gets it in a DBG_TRACE notice, unless the module is Locked. [DEDUCED, log 33; DESIGN CHOICE, log 46] -/
def State.trace (s : State) (vdn : Nat) (kind : TraceKind) (cause : Nat) (pc addr : Word) : State :=
  let conf := (s.vd vdn).conf
  let l := Config.traceRecord { kind, cause, pc := if conf then none else some pc, addr := if conf then none else some addr, time := s.eventTime 0 }
  if s.plat.cur = .retention then s
  else
    s.sec.dbg.foldl (fun s p =>
      if p.2.vd = vdn then s.traceRing p.1 p.2 l
      else if p.2.vd = 255 && s.sec.st ≠ .locked then s.mgmtNotice p.2.mac 0x23 0 (leBytes 8 p.1 ++ l)
      else s) s

/-- Buffered stores to a range that UNMAP took away are discarded; a LOST_STORES event counts them (04 R106), with the
clock of die 0 (04 R118). [DESIGN CHOICE, log 109] -/
def State.reportLost (s : State) (vdn : Nat) (es : List BufStore) : State :=
  let v := s.vd vdn
  let gone := es.filter (fun e => match e.loc with
    | .glob va => e.lost.isSome || (v.phys va).isNone
    | _ => false)
  let rangeOf : BufStore → Option Nat := fun e => match e.loc with
    | .glob va => if e.lost.isSome then e.lost else (v.unmaps.find? (fun u => u.1 ≤ va && va < u.1 + u.2)).map (·.1)
    | _ => none
  let us := (gone.map rangeOf).eraseDups
  us.foldl (fun s u =>
    let n := ((gone.filter (fun e => rangeOf e = u)).map (fun e => (e.seq, e.half, e.lane))).eraseDups.length
    s.event vdn 5 vdn 0 0 (leBytes 8 n ++ leBytes 8 (u.getD 0))) s

/-- FENCE.PUB: every buffered store of the course is performed and leaves the buffer (10 R295). -/
def State.publish (s : State) (cid scope : Nat) : State :=
  let c := s.course cid
  let s := s.reportLost (s.vdOf cid) c.buf
  let s := c.buf.foldl (fun s e => s.perform cid scope e) s
  s.setCourse cid { s.course cid with buf := [] }

/-- An access that escapes (06 R182, R183, 07 R189): kind and address. -/
def State.escape (s : State) (gk kind addr : Nat) : State :=
  let g := s.group gk
  let h := (s.task g.task).hdr
  let e := BitVec.ofNat 64 (kind * 2 ^ 61 + addr % 2 ^ 57)
  let g := if h.shadow then { g with escaped := true, escCount := g.escCount + 1
                                     escLog := if g.escLog.length < 16 then g.escLog ++ [e] else g.escLog } else g
  s.setGroup gk (if h.idem then { g with startesc := true } else g)

/-! ## Queues (04 R108, R111, R116) -/

/-- The handle of a queue (R108). -/
def State.queueHandle (s : State) (k : Nat) : Word :=
  let q := s.queue k
  BitVec.ofNat 64 (s.fab.modid.toNat * 2 ^ 52 + q.vd * 2 ^ 46 + k * 2 ^ 34 + q.gen)

/-- The queue a handle names on this module, while the handle is current. -/
def State.findQueue (s : State) (h : Word) : Option Nat :=
  let k := bits h.toNat 45 34
  let q := s.queue k
  if q.live && q.gen = bits h.toNat 31 0 && q.vd = bits h.toNat 51 46 && bits h.toNat 63 52 = s.fab.modid.toNat
      && bits h.toNat 33 32 = 0 then some k else none

/-- Write an entry of a status queue (R116): kind, reason, reporting queue, index. The bytes of its place that are mapped are written, whatever
their permission. [DESIGN CHOICE, log 109] -/
def State.statusEntry (s : State) (qk kind reason idx : Nat) : State :=
  let q := s.queue qk
  match s.findQueue q.statusq with
  | none => s
  | some sk =>
    let sq := s.queue sk
    let n := sq.seq + 1
    let ent := leBytes 4 n ++ leBytes 1 kind ++ leBytes 1 reason ++ leBytes 2 0 ++ leBytes 8 (s.queueHandle qk).toNat
      ++ leBytes 4 idx ++ leBytes 4 0 ++ leBytes 8 (s.clock q.home)
    let s := s.pokeVA sq.vd none 3 (sq.base.toNat + 32 * (n % 2 ^ sq.size)) ent
    s.setQueue sk { sq with seq := n % 2 ^ 32 }

/-! ## Parked records (06 R163 to R170) -/

/-- The key of a record in the table. -/
def recKey (die idx : Nat) : Nat := die * 16384 + idx

/-- The handle of a record (R163). -/
def State.recHandle (s : State) (k : Nat) : Word :=
  BitVec.ofNat 64 (s.fab.modid.toNat * 2 ^ 52 + (k / 16384) * 2 ^ 50 + (k % 16384) * 2 ^ 36 + (s.record k).gen)

/-- The record a handle names, while the handle is current and the record is a device's own (R164, R174). -/
def State.findRec (s : State) (h : Word) (vdn : Nat) : Option Nat :=
  let k := recKey (bits h.toNat 51 50) (bits h.toNat 49 36)
  let r := s.record k
  if r.used && r.gen = bits h.toNat 31 0 && bits h.toNat 63 52 = s.fab.modid.toNat && r.vd = vdn
      && bits h.toNat 35 32 = 0 then some k else none

/-- The record of a handle here. -/
def State.recOf (s : State) (h : Word) : PRec := s.record (recKey (bits h.toNat 51 50) (bits h.toNat 49 36))

/-- The lowest record not in use among n from an index on. -/
def State.lowestFree (s : State) (die lo : Nat) : Nat → Option Nat
  | 0 => none
  | n + 1 => if (s.record (recKey die lo)).used then s.lowestFree die (lo + 1) n else some (recKey die lo)

/-- Reserved records of a die (R186). -/
def Die.reserved (d : Die) : Nat := if d.resv = 0 then 1 else min d.resv.toNat 256

/-- What a fault may draw (R165, R177 to R180). -/
inductive Draw where
  | record (k : Nat)
  | wait
  | nestKill
  | deviceError
  deriving DecidableEq, Repr

/-- Draw a record on a die, by the unit's level and whether the fault is fatal (R165, R177 to R180). While units wait on the die, a fault
that may wait takes its place behind them: they receive records in the order they asked (R179). -/
def State.draw (s : State) (die level : Nat) (fatal : Bool) : Draw :=
  let ord := s.lowestFree die 0 8192
  let res := s.lowestFree die 8192 (s.die die).reserved
  let fat := s.lowestFree die 8448 4
  if level = 0 then
    match if fatal || (s.die die).waiting.isEmpty then ord else none with
    | some k => .record k
    | none => if fatal then (match fat with
                             | some k => .record k
                             | none => .deviceError) else .wait
  else if level = 1 then
    match res with
    | some k => .record k
    | none => if fatal then (match fat with
                             | some k => .record k
                             | none => .deviceError) else .nestKill
  else .nestKill

/-- Free a record: its generation moves on and skips 0 (R164). -/
def State.freeRec (s : State) (k : Nat) : State :=
  let r := s.record k
  if r.used then
    let g := (r.gen + 1) % 2 ^ 32
    let s := s.setRecord k { gen := if g = 0 then 1 else g }
    if (s.die (k / 16384)).waiting.isEmpty then s else s.post s.now .recordFreeGrant (.nat (k / 16384) 0 0)
  else s

/-- Units that have gone wait for no record any more. -/
def State.forgetWaiting (s : State) (mine : PRec → Bool) : State :=
  (List.range 4).foldl (fun s d =>
    if (s.die d).waiting.any mine then s.setDie d { s.die d with waiting := (s.die d).waiting.filter (fun r => !mine r) } else s) s

/-- The core of a course, as the key of `State.atlb`. -/
def State.coreOf (s : State) (cid : Nat) : Nat :=
  let c := s.course cid
  let g := s.group c.group
  2 * cellKey g.bench g.cell + (if c.dcore then 1 else 0)

/-- UNIT of a course record (R168). -/
def State.courseUnit (s : State) (cid : Nat) : Word :=
  let c := s.course cid
  let g := s.group c.group
  BitVec.ofNat 64 (g.bench * 4096 + g.cell * 256 + (if c.dcore then 128 else 0) + c.slot)

/-- Land one register write; there are four latches. -/
def Course.land (c : Course) (w : RegWrite) : Course :=
  match w with
  | .v r l x => { c with v := tput 0 c.v (r * 32 + l) x }
  | .b n l x => if n < 4 then { c with b := tput 0 c.b (n * 32 + l) x } else c
  | .s r x => { c with s := tput 0 c.s r x }
  | .k r care x => { c with k := tput 0 c.k r ((tgetD c.k r 0 &&& ~~~care) ||| (x &&& care)) }
  | .trap x => { c with trapmask := x &&& 0x01fe }

/-- Land register writes; a retired course takes none (08 R244). -/
def Course.landAll (c : Course) (ws : List RegWrite) : Course := if c.st = .retired then c else ws.foldl Course.land c

/-- Do fixed-latency results land while a course is in this state? -/
def CourseSt.lands (x : CourseSt) : Bool :=
  match x with
  | .running | .migrating _ => true
  | _ => false

/-- Land every fixed-latency result that is due, in order of landing and then of program order (R234). An instruction
that has met a late fault keeps its flag count, and the course stops (06 R161). -/
def Course.landDue (c : Course) (now : Nat) : Course :=
  let due := c.pends.filter (fun p => match p.due with
    | some t => t ≤ now
    | none => false)
  let due := sortBy (fun (a b : Pend) => a.due.getD 0 ≤ b.due.getD 0) due
  let c := due.foldl (fun c p => c.landAll p.writes) c
  let isDue := fun (p : Pend) => match p.due with
    | some t => decide (t ≤ now)
    | none => false
  { c with stopping := c.stopping || due.any (·.late.isSome)
           pends := c.pends.filterMap (fun p => if !isDue p then some p
                                                else if p.late.isSome then some { p with due := none, writes := [] } else none) }

/-- The state a course keeps when it parks, is saved, is restored, migrates or is rolled back: latches read zero outside
interlocked mode (08 R235), fixed-latency results of instructions issued before land (06 R161), the rest of a DELAY and a YIELD is dropped (15 R432), its migration request is withdrawn (08 R252). -/
def Course.stopped (c : Course) (interlock : Bool) : Course :=
  let last := c.pends.foldl (fun m p => max m (p.due.getD 0)) 0
  let c := c.landDue last
  { c with stopping := false
           b := if interlock then c.b else []
           migReq := false
           splits := c.splits.map (fun p => (p.1, { p.2 with hold := 0, yield := 0 })) }

/-! ## Buffered sectors outside the L1 (09 R272) -/

/-- Buffered sectors that a bank of a cell holds. -/
def State.spillUse (s : State) (bench cell bank : Nat) : Nat :=
  ((s.courses.filter (fun p => (s.group p.2.group).bench = bench && (s.group p.2.group).cell = cell && !(s.group p.2.group).saved)).map
    (fun p => (p.2.spilt.filter (fun e => e.2 = bank + 1)).length)).foldl (· + ·) 0

/-- The spill bank an evicted sector of a group goes to: of its own lease first, then of the cell. -/
def State.spillBank (s : State) (gk : Nat) : Option Nat :=
  let g := s.group gk
  let ok := fun (b : Nat) => (s.bankOf g.bench g.cell b).mode = .spill && s.spillUse g.bench g.cell b < 1920
  match g.banks.find? (fun b => decide (ok b)) with
  | some b => some b
  | none => (List.range 12).find? (fun b => decide (ok b) && (s.bankOf g.bench g.cell b).owner.isNone)

/-- A spill log takes chunks; the module chooses the VA of a new log, which programs cannot address. [DESIGN CHOICE, log 101] -/
def Group.growLog (g : Group) (chunks va : Nat) : Group :=
  if chunks ≤ g.chunks then g else { g with chunks, logVA := if g.chunks = 0 then BitVec.ofNat 64 va else g.logVA }

/-- Room in the spill log of a group: its chunks of 2 MiB, or a new chunk of the device's quota. -/
def State.spillLog (s : State) (gk : Nat) : Option State :=
  let g := s.group gk
  let n := ((s.coursesOf gk).map (fun c => ((s.course c).spilt.filter (fun e => e.2 = 0)).length)).foldl (· + ·) 0
  if n < g.chunks * 32768 then some s
  else
    let vdn := (s.task g.task).vd
    let v := s.vd vdn
    let taken := ((s.groups.filter (fun p => (s.task p.2.task).vd = vdn && !p.2.ended)).map (·.2.chunks)).foldl (· + ·) 0
    if v.used + taken < v.memq then some (s.setGroup gk (g.growLog (g.chunks + 1) (s.freeNat (2 ^ 29 + gk)))) else none

/-- Where an evicted sector goes: a spill bank (its number plus 1), or the spill log (0). -/
def State.spillPlace (s : State) (gk : Nat) : Option (Nat × State) :=
  match s.spillBank gk with
  | some b => some (b + 1, s)
  | none => (s.spillLog gk).map (fun t => (0, t))

/-- The sectors that a bank held go to another spill bank or to the log (09 R269). -/
def State.moveSpills (s : State) (bench cell bank : Nat) : State :=
  let here := s.courses.filter (fun p => (s.group p.2.group).bench = bench && (s.group p.2.group).cell = cell && p.2.spilt.any (fun e => e.2 = bank + 1))
  here.foldl (fun s p =>
    (p.2.spilt.filter (fun e => e.2 = bank + 1)).foldl (fun s e =>
      let r := (s.spillPlace p.2.group).getD (0, s)
      let c := r.2.course p.1
      r.2.setCourse p.1 { c with spilt := c.spilt.map (fun x => if x.1 = e.1 then (x.1, r.1) else x) }) s) s

/-! ## Ways of the L1 (09 R263, R269) -/

/-- The buffered sectors of a course in a line that stand in the L1. -/
def Course.lineSectors (c : Course) (line : Nat) : List Nat :=
  (c.buf.filterMap (fun e => match e.loc with
    | .glob va => if va / 256 = line && !c.spilt.any (fun x => x.1 = va / 64) then some (va / 64) else none
    | _ => none)).eraseDups

/-- Change the lines of a cell's L1. -/
def State.setL1 (s : State) (key : Nat) (l : List L1Line) : State := s.setCell key { s.cell key with l1 := l }

/-- A way leaves the L1: its buffered sectors take the phase-spill path (09 R269). -/
def State.dropWay (s : State) (bench cell bank : Nat) : State :=
  let k := cellKey bench cell
  ((s.cell k).l1.filter (fun x => x.bank = bank)).foldl (fun s x =>
    let s := match x.owner with
      | some v =>
        ((s.course v).lineSectors x.line).foldl (fun (s : State) sec =>
          let r := (s.spillPlace (s.course v).group).getD (0, s)
          let c := r.2.course v
          r.2.setCourse v { c with spilt := c.spilt ++ [(sec, r.1)] }) s
      | none => s
    s.setL1 k ((s.cell k).l1.filter (· ≠ x))) s

/-! ## Kills and the ends of courses, groups and tasks (05 R152, 08 R243 to R246) -/

/-- Record the first kill reason of a task (R152). -/
def State.killReason (s : State) (t status : Nat) : State :=
  let tk := s.task t
  if tk.status.isNone then s.setTask t { tk with status := some status } else s

/-- Move the turn of a bow on to the next course that has not ended (11 R333). -/
def State.nextTurn (s : State) (gk from_ : Nat) : Nat :=
  let n := (s.coursesOf gk).length
  let at_ := fun i => (s.coursesOf gk).find? (fun c => (s.course c).c = (from_ + 1 + i) % n)
  match (List.range n).find? (fun i => match at_ i with
    | some c => (s.course c).alive
    | none => false) with
  | some i => (from_ + 1 + i) % n
  | none => from_

/-- The nodes of a group, with their places (11 R314). -/
def State.groupNodes (s : State) (gk : Nat) : List NodeRef :=
  (s.group gk).nodes.map (fun q => { gk, idx := q.1, vd := (s.task (s.group gk).task).vd, n := q.2 })

/-- The pending nodes of a cell, with their places (11 R314). -/
def State.cellNodes (s : State) (bench cell : Nat) : List NodeRef :=
  (s.groups.filter (fun p => p.2.bench = bench && p.2.cell = cell && !p.2.ended && !p.2.saved)).flatMap (fun p =>
    p.2.nodes.map (fun q => { gk := p.1, idx := q.1, vd := (s.task p.2.task).vd, n := q.2 }))

/-- A course's COPYMs and demands that still use the array (11 R333). -/
def State.arrayUsed (s : State) (cid : Nat) : Bool :=
  let co := s.course cid
  let g := s.group co.group
  let all := s.cellNodes g.bench g.cell
  s.copies.any (fun p => p.2.course = cid && p.2.follow.isSome && !p.2.followed)
    || g.demands.any (fun d => d.course = cid && (needed all co.group (s.vdOf cid) d.g d.box).any (fun p => usesArray all 65 p.1 p.2))

/-- Does a pending instruction act on the array? -/
def Pend.onArray (p : Pend) : Bool :=
  match p.act with
  | .array _ => true
  | _ => false

/-- The course of a group with an index. -/
def State.courseAt (s : State) (gk c : Nat) : Option Nat := (s.coursesOf gk).find? (fun cid => (s.course cid).c = c)

/-- Look at the courses that wait for the bow in a group's cell (11 R333, R334). -/
def State.askBow (s : State) (gk : Nat) : State :=
  let g := s.group gk
  let k := cellKey g.bench g.cell
  if (s.cell k).bowQueue.isEmpty then s else s.postOnce s.now .bowGrant (.nat k 0 0)

/-- The holder passes the bow: the array is free, and a turn that is its own moves on (11 R333). -/
def State.passBow (s : State) (gk c : Nat) : State :=
  let g := s.group gk
  (s.setGroup gk { g with holder := none, turn := if g.turn = c then s.nextTurn gk c else g.turn }).askBow gk

/-- The holder or turn course of a group leaves: it passes the bow as BPASS does, so a holder keeps it until its array instructions,
follow-ons and demands that use the array have completed (11 R333, R335). -/
def State.leaveBow (s : State) (gk c : Nat) : State :=
  let g := s.group gk
  if g.holder = some c then
    let out := match s.courseAt gk c with
      | some cid => s.arrayUsed cid || (s.course cid).pends.any Pend.onArray
      | none => false
    if out then s else s.passBow gk c
  else if g.holder = none && g.turn = c then s.passBow gk c
  else s

/-- Holders that have left pass the bow once nothing of theirs uses the array any more (11 R333, R335, R337). -/
def State.watchBows (s : State) : State :=
  s.groups.foldl (fun s p => match (s.group p.1).holder with
    | none => s
    | some c => if ((s.courseAt p.1 c).map (fun cid => (s.course cid).alive)).getD false || (s.group p.1).saved then s else s.leaveBow p.1 c) s

/-- What a bench has drawn of a task's budget and not spent goes back when the last of the task's groups leaves the bench, so that no
slot is lost to a move (05 R155). -/
def State.returnChunk (s : State) (gk : Nat) : State :=
  let g := s.group gk
  let t := s.task g.task
  let stays := s.groups.any (fun p => p.1 ≠ gk && p.2.task = g.task && p.2.bench = g.bench && !p.2.ended && !p.2.saved)
  if stays || tgetD t.chunks g.bench 0 = 0 then s
  else s.setTask g.task { t with budget := t.budget.map (· + tgetD t.chunks g.bench 0), chunks := tdel t.chunks g.bench }

/-- The banks of a group that are ways of the L1 leave it before they are returned (09 R269). -/
def State.dropWays (s : State) (gk : Nat) : State :=
  let g := s.group gk
  (g.banks.filter (fun i => decide ((s.bankOf g.bench g.cell i).mode = .cache))).foldl (fun s i => s.dropWay g.bench g.cell i) s

/-- Return the banks of a group to its cell, drained and zeroed, in the mode BANK_CFG gives: the SPILL highest-numbered ones of the cell
hold spills (09 R268, R269, R283). -/
def State.unlease (s : State) (gk : Nat) : State :=
  let s := s.dropWays gk
  let g := s.group gk
  let k := cellKey g.bench g.cell
  let c := s.cell k
  let b := s.bench g.bench
  let spills := min b.spill.toNat (min b.minc.toNat 11)
  let c : Cell := { c with
                    banks := g.banks.foldl (fun m i =>
                      tset m i { mode := if 12 ≤ i + spills then .spill else .cache }) c.banks
                    owners := c.owners.filter (fun p => !g.banks.contains (p.1 / 32))
                    bowQueue := c.bowQueue.filter (fun p => p.1 ≠ gk)
                    arrayGroup := if c.arrayGroup = some gk then none else c.arrayGroup }
  let spilt := g.banks.filter (fun i => (s.bankOf g.bench g.cell i).mode = .spill)
  let s := spilt.foldl (fun (s : State) i => s.moveSpills g.bench g.cell i) ((s.setCell k c).returnChunk gk)
  (g.banks.foldl (fun s i => s.zeroBank g.bench g.cell i) s).askBow gk

/-- Free the cell's banks, identifiers, nodes and slot of a group that has ended (08 R246, 09 R268). -/
def State.freeLeases (s : State) (gk : Nat) : State :=
  let s := s.unlease gk
  s.setGroup gk { s.group gk with holder := none, tensors := [], nodes := [], banks := [] }

/-- Has every course of a group retired or been killed? -/
def State.groupDone (s : State) (gk : Nat) : Bool := (s.coursesOf gk).all (fun c => !(s.course c).alive)

/-- Does something that courses of a group left under way still go on: operations under the retirement tracker, or copies (R244)? -/
def State.groupOut (s : State) (gk : Nat) : Bool :=
  (s.coursesOf gk).any (fun c => !(s.course c).pends.isEmpty) || s.copies.any (fun p => p.2.group = gk && p.2.segs.any (fun x => !x.done))

/-- A group whose courses have all ended ends once its demands are done; its leases are free once nothing of it goes on any more (R244); a task whose groups have all ended, and that
has nothing left to place, completes (R246, 05 R152). -/
def State.endGroup (s : State) (gk : Nat) : State :=
  let g := s.group gk
  if g.ended || !s.groupDone gk || !g.demands.isEmpty then s
  else
    let s := if s.groupOut gk then s else s.freeLeases gk
    let s := s.setGroup gk { s.group gk with ended := true, drain := none, saved := false, slot := none, chunks := 0 }
    let t := s.task g.task
    if (s.groupsOf g.task).isEmpty && extFX t.trec.extents < t.nextFace && t.st = .placed then
      (s.setTask g.task { t with st := .completing }).post s.now .taskComplete (.nat g.task 0 0)
    else s

/-- Queue a notice of a die's dispatcher for the module of a record: 0 dispatched, 1 killed, 2 completed (22 R536). -/
def State.notice (s : State) (die : Nat) (h : Word) (what status : Nat) : State :=
  let n := s.nextKey
  ({ s with fab := { s.fab with notices := tset s.fab.notices n { record := h, what, status, die } }, nextKey := n + 1 }).post s.now
    .faultNoticeResend (.nat n 0 0)

/-- A course of a fault task is killed: the record that the task handles is marked CHILD_LOST, by a notice when it lies on
another module (R167, R177, R178, 22 R536). -/
def State.childLost (s : State) (die : Nat) (h : Word) (status : Nat) : State :=
  if bits h.toNat 63 52 = s.fab.modid.toNat then
    let k := recKey (bits h.toNat 51 50) (bits h.toNat 49 36)
    let r := s.record k
    if r.used && r.gen = bits h.toNat 31 0 then s.setRecord k { r with childLost := true } else s
  else s.notice die h 1 status

/-- Has a pending instruction sent a state access to a record of this module, which is performed even when its course is killed (06 R174)? -/
def Pend.sentState (p : Pend) (modid : Nat) : Bool :=
  match p.act with
  | .state h _ _ _ _ => p.late.isNone && bits h.toNat 63 52 = modid
  | _ => false

/-- The record of kind 4 under which the courses of a group have parked is freed, or waited for no more, once none of them is left: the
group is then the unit that has been killed (06 R164). -/
def State.freeGroupRec (s : State) (gk : Nat) : State :=
  if !s.groupDone gk then s
  else
    let ks := (s.recs.filter (fun p => p.2.used && p.2.kind = 4 && p.2.uA = gk)).map (·.1)
    (ks.foldl (fun s k => s.freeRec k) s).forgetWaiting (fun r => r.kind = 4 && r.uA = gk)

/-- Kill a course (06 R176, R181): it stops, its buffered stores are discarded, its own record is freed, the bow passes. -/
def State.killCourse (s : State) (cid status : Nat) : State :=
  let c := s.course cid
  if !c.alive then s
  else
    let s := match c.st with
      | .parked d i => if (s.record (recKey d i)).kind = 4 then s else s.freeRec (recKey d i)
      | .waiting => s.forgetWaiting (fun r => r.kind = 0 && r.uA = cid)
      | _ => s
    let left := c.pends.filter (fun p => p.sentState s.fab.modid.toNat)
    let s := s.setCourse cid { c with st := .killed status, live := 0, splits := [], held := [], pends := left, buf := [],
                                      stale := [], staleI := [], migReq := false }
    let s := left.foldl (fun (s : State) p => s.postOnce (s.now + 1) .instructionComplete (.course cid p.id 0 0)) s
    let s := s.killReason (s.taskOf cid) status
    let t := s.task (s.taskOf cid)
    let s := if t.nest = 0 then s else s.childLost (dieOf t.home) t.record status
    let s := s.leaveBow c.group c.c
    (s.freeGroupRec c.group).endGroup c.group

/-- A cell reports an uncorrectable error; the eighth within 10 ms retires it (07 R216). -/
def State.countError (s : State) (bench cell : Nat) : State :=
  let k := cellKey bench cell
  let c := s.cell k
  let es := c.errors.filter (fun t => s.now < t + 10000 * usTicks) ++ [s.now]
  let s := s.setCell k { c with errors := es }
  if 8 ≤ es.length then s.postOnce s.now .cellRetire (.nat bench cell 1) else s

/-- May uncorrectable data that a group meets roll it back: the launch is shadowed, and the address has not failed in this interval
already (07 R213)? -/
def State.rollsBack (s : State) (gk : Nat) (addr : Word) : Bool := (s.task (s.group gk).task).hdr.shadow && (s.group gk).lastUE ≠ some addr

/-- Uncorrectable data has been consumed by a part of a group: its cell reports the error (07 R216), and a shadowed group rolls back or
parks (07 R213, 06 R184); elsewhere `fatal` follows. -/
def State.consumeUE (s : State) (gk : Nat) (who : Consumer) (addr : Word) (fatal : State → State) : State :=
  let ev := EvArg.consumer who 3 addr
  let s := if s.agenda.any (fun d => d.ev.i = .uncorrectableConsumed && d.ev.arg = ev) then s
    else s.countError (s.group gk).bench (s.group gk).cell
  if s.rollsBack gk addr then s.postOnce s.now .uncorrectableConsumed ev else fatal s

/-- Kill every course of a group. One that has only demands left loses them, and the kill is recorded against its task (05 R152). -/
def State.killGroup (s : State) (gk status : Nat) : State :=
  let s := (s.coursesOf gk).foldl (fun s c => s.killCourse c status) s
  let g := s.group gk
  if g.ended then s else ((s.setGroup gk { g with demands := [] }).killReason g.task status).endGroup gk

/-! ## Taking an exception: the parked record and its fault task (06 R161 to R181) -/

/-- The queue error of R113: the queue enters ERROR; when its FAULTQ is ACTIVE here, or lies on another module, the record and its fault
task follow (06 R171); else an event. -/
def State.queueError (s : State) (qk reason : Nat) : State :=
  let q := s.queue qk
  if q.st = .error then s
  else
    let s := (s.setQueue qk { q with st := .error, reason, errored := q.head }).trace q.vd .fault 0x11 0 0
    let s := s.statusEntry qk 2 reason q.head
    let ok : Bool := match s.findQueue q.faultq with
      | some f => decide ((s.queue f).st = QState.active)
      | none => decide (q.faultq ≠ 0) && decide (bits q.faultq.toNat 63 52 ≠ s.fab.modid.toNat)
    let r : PRec := { kind := 3, cause := 0x11, event := reason, unit := s.queueHandle qk, taskq := s.queueHandle qk
                      taskidx := q.head, cx := BitVec.ofNat 64 q.head, vd := q.vd, uA := qk }
    if ok then
      let d := dieOf q.home
      match s.draw d 0 false with
      | .record k =>
        (s.setRecord k { r with gen := (s.record k).gen, used := true, parkedAt := s.now }).post s.now .faultTaskDeferredWrite (.nat k 0 0)
      | _ => s.setDie d { s.die d with waiting := (s.die d).waiting ++ [r] }
    else
      s.event q.vd 3 q.vd reason (dieOf q.home)
        (leBytes 8 (s.queueHandle qk).toNat ++ leBytes 4 q.head ++ leBytes 4 0)

/-- The 128 bytes of a fault task (R172). -/
def State.faultTask (s : State) (q : Queue) (k : Nat) : List Byte :=
  let r := s.record k
  leBytes 1 2 ++ leBytes 1 q.prio ++ leBytes 2 2 ++ leBytes 6 q.tDeadline ++ leBytes 5 q.tBudget ++ leBytes 1 0
    ++ leBytes 8 q.tEntry.toNat ++ leBytes 8 q.tExtents.toNat
    ++ leBytes 8 (s.recHandle k).toNat
    ++ leBytes 8 (r.cause + r.event * 256 + r.kind * 4096 + (r.nest + 1) * 65536)
    ++ leBytes 8 r.addr.toNat ++ leBytes 8 r.pc.toNat ++ leBytes 8 r.taskq.toNat
    ++ leBytes 56 0

/-- A batch fails: the courses that wait on it are killed, in TWAIT or with the SETF flag of its demand unreleased; for another course
nothing of it is left to wait for (R181, 11 R326). [DEDUCED, log 68] -/
def State.failBatch (s : State) (gk b status : Nat) : State :=
  let g := s.group gk
  let s := s.setGroup gk { g with failed := if g.failed.any (fun p => p.1 = b) then g.failed else g.failed ++ [(b, status)]
                                  demands := g.demands.filter (fun d => d.batch ≠ b) }
  let holds := (s.coursesOf gk).filter (fun c => (s.course c).pends.any (fun p => match p.act with
    | .twait n _ => n = b
    | .batch n => n = b && p.flag.isSome
    | _ => false))
  let s := holds.foldl (fun s c => s.killCourse c status) s
  ((s.coursesOf gk).foldl (fun s c => s.setCourse c { s.course c with pends := (s.course c).pends.filter (fun p => p.act ≠ .batch b) }) s).endGroup gk

/-- Kill a node: its own batch fails, and so does every batch whose demand reaches it (R181, 11 R326). [DEDUCED, log 68] -/
def State.killNode (s : State) (gk idx status : Nat) : State :=
  let g := s.group gk
  let all := s.cellNodes g.bench g.cell
  let n := tgetD g.nodes idx {}
  let bad := (s.groups.filter (fun p => p.2.bench = g.bench && p.2.cell = g.cell && !p.2.ended)).flatMap (fun p =>
    (p.2.demands.filter (fun d => d.reaches all p.1 (s.task p.2.task).vd gk idx)).map (fun d => (p.1, d.batch)))
  let s := s.setGroup gk { s.group gk with nodes := tdel (s.group gk).nodes idx, dead := (s.group gk).dead ++ [(n.d, status)] }
  let s := s.killReason g.task status
  ((gk, n.batch) :: bad).foldl (fun s p => s.failBatch p.1 p.2 status) s

/-- Kill a copy segment by its record: the course that issued its instruction is killed, or, when that has retired, the kill is recorded
against its task; a TSTORE's batch fails; a fill that a restore reads again takes every course of its group (R181, 07 R207). -/
def State.killSegment (s : State) (r : PRec) (status : Nat) : State :=
  let cp := tgetD s.copies r.uA { course := 0, group := 0 }
  let s := { s with copies := tset s.copies r.uA { cp with killed := some status, segs := cp.segs.map (fun (x : Seg) =>
                                if x.id = r.uB then { x with done := true, parked := false } else x) } }
  let s := match cp.batch with
    | some b => s.failBatch cp.group b status
    | none => s
  if r.pc = 0 then s.killGroup cp.group status
  else if (s.course cp.course).alive then s.killCourse cp.course status
  else s.killReason r.task status

/-- Kill a unit whose fault can reach no handler, or whose action is KILL (R171, R176, R181). Nodes and segments are
killed by the events that own them; here their courses go. -/
def State.killUnit (s : State) (k status : Nat) : State :=
  let r := s.record k
  let s := s.freeRec k
  match r.kind with
  | 0 => s.killCourse r.uA status
  | 1 => s.killNode r.uA r.uB status
  | 2 => s.killSegment r status
  | 4 => s.killGroup r.uA status
  | _ => s.event r.vd 3 r.vd r.event (dieOf (s.queue r.uA).home) (leBytes 8 r.unit.toNat ++ leBytes 4 r.taskidx ++ leBytes 4 0)

/-- Kill a unit that waits for a record. -/
def State.killWaiting (s : State) (die : Nat) (r : PRec) (status : Nat) : State :=
  let d := s.die die
  let s := s.setDie die { d with waiting := d.waiting.filter (fun x => !(x.kind = r.kind && x.uA = r.uA && x.uB = r.uB)) }
  match r.kind with
  | 0 => s.killCourse r.uA status
  | 1 => s.killNode r.uA r.uB status
  | 2 => s.killSegment r status
  | 4 => s.killGroup r.uA status
  | _ => s

/-- Write a fault task at the tail of its queue (R172). -/
def State.writeFaultTask (s : State) (fk k : Nat) : State :=
  let q := s.queue fk
  let v := s.vd q.vd
  let at_ := q.base.toNat + 128 * (q.tail % 2 ^ q.size)
  if !v.mapsAll at_ 128 || !v.mapsAll q.tailva.toNat 8 then s.queueError fk 1
  else if !v.allows at_ 128 1 || !v.allows q.tailva.toNat 8 1 then s.queueError fk 2
  else
    let t := (q.tail + 1) % 2 ^ 32
    let s := s.pokeVA q.vd none 3 at_ (s.faultTask q k)
    let s := s.pokeVA q.vd none 3 q.tailva.toNat (leBytes 8 t)
    let s := s.setQueue fk { q with tail := t }
    s.setRecord k { s.record k with stage := 2 }

/-- The fault queue of a record's unit (R171). -/
def State.faultQueueOf (s : State) (k : Nat) : Word :=
  match s.findQueue (s.record k).taskq with
  | some q => (s.queue q).faultq
  | none => 0

/-- Raise the fault task of a record, or leave the record PARKED (R171). -/
def State.raiseFault (s : State) (k : Nat) : State :=
  let r := s.record k
  let h := s.faultQueueOf k
  if !r.used || r.stage ≠ 1 then s
  else if h = 0 then s.killUnit k 1
  else if bits h.toNat 63 52 ≠ s.fab.modid.toNat then s.post s.now .faultEnqResend (.nat k 0 0)
  else
    match s.findQueue h with
    | none => s.killUnit k 1
    | some fk =>
      let q := s.queue fk
      let first := (s.recs.filter (fun p => p.2.used && p.2.stage = 1 && p.1 ≠ k && p.2.parkedAt < r.parkedAt
        && s.faultQueueOf p.1 = h)).isEmpty
      match q.st with
      | .draining => s.killUnit k 1
      | .active =>
        if q.inited && (q.tail + 2 ^ 32 - q.head) % 2 ^ 32 < 2 ^ q.size then
          (if first then s.writeFaultTask fk k else s)
        else s
      | _ => s

/-- Has the time of a unit run out as it parks: PASSED is set, or its clock has reached DEADLINE (R175)? -/
def State.outOfTime (s : State) (r : PRec) : Bool := r.passed || s.isPast r.deadline

/-- The cell group of the unit of a record. -/
def State.recGroup (s : State) (r : PRec) : Nat :=
  match r.kind with
  | 0 => (s.course r.uA).group
  | 2 => (tgetD s.copies r.uA { course := 0, group := 0 }).group
  | _ => r.uA

/-- Park a unit: draw a record for it, fill the record, raise its fault task (R165, R166, R171, R175 to R180). `r` holds
the record's own fields; `stop` is what stops the unit under record k (none: it waits for a record). Its cause is traced however it goes
on (03 R88). -/
def State.parkUnit (s : State) (die : Nat) (r : PRec) (fatal : Bool) (stop : State → Option Nat → State)
    (kill : State → Nat → State) : State :=
  let s := s.trace r.vd .fault r.cause r.pc r.addr
  match s.draw die r.nest fatal with
    | .record k =>
      if s.outOfTime r then kill s 2
      else
      let s := s.setRecord k { r with gen := (s.record k).gen, used := true, stage := 1, parkedAt := s.now }
      let s := stop s (some k)
      let s := match r.deadline with
        | some t => s.post t .parkedDeadlineKill (.nat k (s.record k).gen 0)
        | none => s
      s.raiseFault k
    | .wait =>
      if s.outOfTime r then kill s 2
      else
      let s := stop s none
      let s := s.setDie die { s.die die with waiting := (s.die die).waiting ++ [r] }
      match r.deadline with
      | some t => s.post t .parkedDeadlineKill (.nat (2 ^ 20 + die) r.uA r.uB)
      | none => s
    | .nestKill => kill s 7
    | .deviceError =>
      let gk := s.recGroup r
      let g := s.group gk
      let s := s.event 64 4 r.vd r.cause die
        (leBytes 1 die ++ leBytes 1 g.bench ++ leBytes 1 g.cell ++ leBytes 1 g.index ++ leBytes 4 0 ++ leBytes 8 r.taskq.toNat)
      s.killGroup gk 8

/-- The fields that a record takes from its task and the unit's place (R166). -/
def State.recBase (s : State) (t : Nat) : PRec :=
  let tk := s.task t
  { task := t, vd := tk.vd, nest := tk.nest, taskq := BitVec.ofNat 64 ((s.queueHandle tk.queue).toNat - (s.queue tk.queue).gen + tk.qgen)
    taskidx := tk.idx, parent := if tk.nest = 1 then tk.record else 0, deadline := tk.deadline, passed := tk.passed }

/-- Taking an exception: a course stops under a parked record (R159, R161, R162, R166). `pc` is the faulting
instruction's address, `nextpc` the first not issued; `pend` names the pending instruction of a late fault. -/
def State.parkCourse (s : State) (cid split : Nat) (cause event : Nat) (addr cx : Word) (mask : LaneMask)
    (pc nextpc : Word) (pend : Option Nat) : State :=
  let c := s.course cid
  let g := s.group c.group
  let t := s.task g.task
  let r : PRec := { s.recBase g.task with
    kind := 0, cause, event, prof := c.prof, bv := c.bridge.isSome, late := pend.isSome, unit := s.courseUnit cid
    addr, pc, nextpc, bpc := (c.bridge.map (·.1)).getD 0, bid := (c.bridge.map (·.2)).getD 0xffff
    split, mask, deadline := c.deadline, passed := c.passed || t.passed, cx, uA := cid, pend }
  let stop := fun (s : State) (k : Option Nat) =>
    let c := s.course cid
    s.setCourse cid { (c.stopped t.interlock) with st := match k with
      | some k => .parked (k / 16384) (k % 16384)
      | none => .waiting }
  s.parkUnit (dieOf g.bench) r (cause = 3 || cause = 0x12) stop (fun s st => s.killCourse cid st)

/-- Set a split of a course. -/
def State.setSplit (s : State) (cid w : Nat) (sp : Split) : State :=
  let c := s.course cid
  s.setCourse cid { c with splits := tset c.splits w sp }

/-! ## Returning from an exception (06 R176) -/

/-- Release the counts a pending instruction holds, without its effects. -/
def State.dropPend (s : State) (cid p : Nat) : State :=
  let c := s.course cid
  s.setCourse cid { c with pends := c.pends.filter (fun x => x.id ≠ p) }

/-- A parked course runs again, its split continuing at `pc`; its record is freed (R164, R176). -/
def State.unparkAt (s : State) (k : Nat) (pc : Option Word) : State :=
  let r := s.record k
  let c := s.course r.uA
  let c := match pc with
    | some pc => { c with splits := tmod c.splits r.split (fun sp => { sp with pc, wait := .run }) }
    | none => c
  let s := s.setCourse r.uA { c with st := if (s.group c.group).saved then .saved else .running }
  s.freeRec k

/-! ## Registers of a course (08 R233 to R236) -/

/-- Width of a type code in bits (12 R338); CB4 and PAIR stand in a whole lane register. -/
def typeWidth (t : Nat) : Nat :=
  match t with
  | 0 | 1 => 8
  | 2 | 3 | 8 | 9 => 16
  | 6 | 7 | 11 => 64
  | _ => 32

/-- How a result of width w fills a 32-bit lane register (12 R339). -/
def fillLane (t : Nat) (x : Nat) : Half :=
  match t with
  | 0 => (BitVec.ofNat 8 x).signExtend 32
  | 2 => (BitVec.ofNat 16 x).signExtend 32
  | t => BitVec.ofNat 32 (x % 2 ^ typeWidth t)

/-- How a value of a type fills a scalar register: sign-extended for the signed integer types (17 R471, 16 R464). -/
def fillScalar (t : Nat) (x : Nat) : Word :=
  match t with
  | 0 => (BitVec.ofNat 8 x).signExtend 64
  | 2 => (BitVec.ofNat 16 x).signExtend 64
  | 4 => (BitVec.ofNat 32 x).signExtend 64
  | t => BitVec.ofNat 64 (x % 2 ^ typeWidth t)

/-- The write of a 32-bit lane to VD or VL: a vector register or a latch (13 R382). -/
def writeHalf (vd l : Nat) (x : Half) : RegWrite := if 240 ≤ vd then .b (vd - 240) l x else .v vd l x

/-- The register writes of one lane's result to VD: a vector register, a pair or a latch (13 R382). -/
def writeLane (vd t l x : Nat) : List RegWrite :=
  if 240 ≤ vd then [.b (vd - 240) l (fillLane t x)]
  else if wide64 t then [.v vd l (BitVec.ofNat 32 x), .v (vd + 1) l (BitVec.ofNat 32 (x / 2 ^ 32))]
  else [.v vd l (fillLane t x)]

/-- The register writes of the values an access has read. -/
def Access.landed (a : Access) : List RegWrite :=
  a.got.flatMap (fun g => match a.dest with
    | .v r false => writeLane r a.type g.1 g.2.toNat
    | .s r => [.s r (fillScalar a.type g.2.toNat)]
    | .k r => [.k r (laneBit g.1) (if g.2 = (0 : Word) then (0 : LaneMask) else laneBit g.1)]
    | _ => [])

/-- What a pending instruction will write, as far as it is known yet: the result of what has been performed (R234). -/
def Pend.shown (p : Pend) : List RegWrite :=
  p.writes ++ (match p.act with
    | .access a => a.landed
    | _ => [])

/-- Values that a register may show besides its own: writes pending to it, in program order. A result that is not known yet cannot be
read early (R234). -/
def Course.pendV (c : Course) (reg lane : Nat) : List Half :=
  c.pends.flatMap (fun p => p.shown.filterMap (fun w => match w with
    | .v r l x => if r = reg && l = lane then some x else none
    | _ => none))

/-- Which of the allowed values a read takes: the register's own when nothing is pending, otherwise a free choice, and in
interlocked mode the last in program order (R234, R254). [DESIGN CHOICE, log 69] -/
def pick {α : Type} (interlock : Bool) (n : Nat) (own : α) (pending : List α) : α :=
  match pending with
  | [] => own
  | ps => if interlock then (own :: ps).getLast?.getD own else ((own :: ps)[n % (ps.length + 1)]?).getD own

/-- v[reg][lane]. [DESIGN CHOICE, log 69] -/
def Course.readV (c : Course) (il : Bool) (free reg lane : Nat) : Half :=
  pick il (Config.freeNat free (2 ^ 16 + reg * 32 + lane)) (tgetD c.v (reg * 32 + lane) 0) (c.pendV reg lane)

/-- A bypass latch (R235). [DESIGN CHOICE, log 69] -/
def Course.readB (c : Course) (il : Bool) (free n lane : Nat) : Half :=
  pick il (Config.freeNat free (2 ^ 17 + n * 32 + lane)) (tgetD c.b (n * 32 + lane) 0)
    (c.pends.flatMap (fun p => p.shown.filterMap (fun w => match w with
      | .b r l x => if r = n && l = lane then some x else none
      | _ => none)))

/-- A scalar register by its key: 64 on for half 1 of an LW16 course (R255). [DESIGN CHOICE, log 69] -/
def Course.readS (c : Course) (il : Bool) (free key : Nat) : Word :=
  pick il (Config.freeNat free (2 ^ 18 + key)) (tgetD c.s key 0)
    (c.pends.flatMap (fun p => p.shown.filterMap (fun w => match w with
      | .s r x => if r = key then some x else none
      | _ => none)))

/-- A stored mask register k1 to k7 (R236). [DESIGN CHOICE, log 69] -/
def Course.readK (c : Course) (il : Bool) (free n : Nat) : LaneMask :=
  let own := tgetD c.k n 0
  pick il (Config.freeNat free (2 ^ 20 + n)) own
    (c.pends.flatMap (fun p => p.shown.filterMap (fun w => match w with
      | .k r care x => if r = n then some ((own &&& ~~~care) ||| (x &&& care)) else none
      | _ => none)))

/-- The instructions counted under a completion flag in a split (R231, R238). -/
def Course.counted (c : Course) (split w : Nat) : Nat := c.pends.countP (fun p => p.flag = some w && p.splits.getLsbD split)

/-- A completion flag's counter in a split (R231): what a merge above 63 has left out it never shows (R238). -/
def Course.flag (c : Course) (split w : Nat) : Nat :=
  min 63 (c.counted split w - tgetD (tgetD c.splits split {}).excess w 0)

end Sys2Proof.Machine
end

