-- ==== Sys2Proof/Machine/Operands.lean ====
section
/-! DEFINITION. What an issuing instruction reads and writes: its schedule, its lanes, its operand fields (13 R381 to
R387), the fill of results (12 R339), and the issue of an instruction (08 R228 to R234, 05 R155). -/
namespace Sys2Proof.Machine

/-! ## Schedules (13 R386, R387) -/

/-- DIST, WAIT and SETF of an instruction, and whether the entry that gives them is reserved. -/
structure Sched where
  dist : Nat := 0
  wait : BitVec 12 := 0
  flag : Option Nat := none
  bad  : Bool := false
  deriving DecidableEq, Repr

/-- The schedule in the bits of word 2 or of a table entry. -/
def schedBits (w : Half) : Sched :=
  let f := (w.extractLsb' 15 4).toNat
  { dist := (w.extractLsb' 0 3).toNat, wait := w.extractLsb' 3 12, flag := if f < 12 then some f else none
    bad := 12 ≤ f && f ≤ 14 }

/-- Word 2 of an X form. -/
def XFields.w2 (x : XFields) : Half := x.hint ++ x.ext ++ x.setf ++ x.wait ++ x.dist

/-- The schedule of an instruction of a course (R386, R387). -/
def Course.schedOf (c : Course) (i : Instr) : Sched :=
  match xFieldsOf i with
  | some x => if x.sch = 15 then schedBits (XFields.w2 x) else entry x.sch.toNat
  | none => entry (schOf i)
where
  entry (n : Nat) : Sched :=
    let e := c.sched.getD n 0x00078000
    { schedBits e with bad := (schedBits e).bad || e.extractLsb' 19 13 ≠ 0 }

/-! ## The issuing context -/

/-- What an issuing instruction finds. -/
structure Ctx where
  i   : Instr
  s   : State
  cid : Nat
  c   : Course
  w   : Nat
  sp  : Split
  g   : Group
  t   : Task
  vdn : Nat
  x   : XFields
  sched : Sched
  deriving Repr

/-- Interlocked mode (08 R254) and legacy width (R255) of the issuing group. [DEDUCED, log 59] -/
def Ctx.il (k : Ctx) : Bool := k.t.interlock
def Ctx.lw (k : Ctx) : Bool := k.t.hdr.lw16
/-- The half that issues: splits 2 and 3 belong to half 1 under LW16 (R255). -/
def Ctx.half (k : Ctx) : Nat := if k.lw && 2 ≤ k.w then 1 else 0
/-- The lanes of the issuing half. -/
def Ctx.halfLanes (k : Ctx) : LaneMask := if k.lw then halfMask k.half else 0xffffffff
def Ctx.pc (k : Ctx) : Word := k.sp.pc
/-- Address of the next instruction. -/
def Ctx.next (k : Ctx) : Word := k.sp.pc + BitVec.ofNat 64 (lengthBytes k.i)
/-- k0: the issuing split's mask (08 R236). -/
def Ctx.k0 (k : Ctx) : LaneMask := k.sp.mask
def Ctx.free (k : Ctx) : Nat := k.s.free

/-- A mask register as stored lanes, k0 the split's mask. -/
def Ctx.kreg (k : Ctx) (n : Nat) : LaneMask := if n = 0 then k.k0 else k.c.readK k.il k.free n

/-- The active lanes (13 R384). -/
def Ctx.active (k : Ctx) : LaneMask := if k.x.km = 0 then k.k0 else k.k0 &&& k.kreg k.x.km.toNat

/-- Lanes in ascending order. -/
def Ctx.lanes (k : Ctx) : List Nat := lanesOf k.active

/-- The key of scalar register n of the issuing half (08 R255). -/
def Ctx.skey (k : Ctx) (n : Nat) : Nat := n + 64 * k.half

/-- A scalar source field: 244 reads zero (13 R383). -/
def Ctx.srcS (k : Ctx) (f : BitVec 8) : Word :=
  if f.toNat ≤ 63 then k.c.readS k.il k.free (k.skey f.toNat) else 0

/-- A 32-bit vector source in a lane (13 R381). -/
def Ctx.srcV (k : Ctx) (f : BitVec 8) (l : Nat) : Half :=
  let n := f.toNat
  if n < 240 then k.c.readV k.il k.free n l
  else if n < 244 then k.c.readB k.il k.free (n - 240) l
  else if 248 ≤ n then (k.c.readS k.il k.free (k.skey (n - 248))).setWidth 32
  else 0

/-- A 64-bit vector source in a lane: a pair, zero, or a broadcast scalar (12 R339). -/
def Ctx.srcP (k : Ctx) (f : BitVec 8) (l : Nat) : Word :=
  let n := f.toNat
  if n < 240 then (k.c.readV k.il k.free (n + 1) l) ++ (k.c.readV k.il k.free n l)
  else if 248 ≤ n then k.c.readS k.il k.free (k.skey (n - 248))
  else 0

/-- Size in memory of an element of a lane access (17 R469). [DEDUCED, log 87] -/
def typeSize (t : Nat) : Nat := typeWidth t / 8

/-- The w-bit pattern of a source of a type in a lane (12 R339). -/
def Ctx.srcT (k : Ctx) (t : Nat) (f : BitVec 8) (l : Nat) : Nat :=
  if wide64 t then (k.srcP f l).toNat else (k.srcV f l).toNat % 2 ^ typeWidth t

/-- The lanes of k0 outside active, which KZ zeroes (13 R384). -/
def Ctx.zeroLanes (k : Ctx) : List Nat := if k.x.kz = 0 then [] else lanesOf (k.k0 &&& ~~~k.active)

/-- The register writes of a vector result: the given lanes, and zero where KZ asks for it; none with NWB (R385). -/
def Ctx.writeV (k : Ctx) (t : Nat) (vals : List (Nat × Nat)) : List RegWrite :=
  if k.x.nwb ≠ 0 then []
  else vals.flatMap (fun p => writeLane k.x.vd.toNat t p.1 p.2)
    ++ k.zeroLanes.flatMap (fun l => writeLane k.x.vd.toNat t l 0)

/-- The write of a mask result: given lanes and their bits, and lanes that KZ clears (16 R452). -/
def Ctx.writeK (k : Ctx) (vals : List (Nat × Bool)) : List RegWrite :=
  if k.x.nwb ≠ 0 then []
  else [.k k.x.vd.toNat (maskOf (vals.map (·.1)) ||| maskOf k.zeroLanes) (maskOf ((vals.filter (·.2)).map (·.1)))]

/-! ## Hazards of interlocked mode (08 R254) -/

/-- A register as an interlock names it. -/
inductive RegName where
  | v (n : Nat) | b (n : Nat) | s (key : Nat) | k (n : Nat)
  deriving DecidableEq, Repr

/-- The registers that a field names. -/
def opdNames (o : Opd) (half t : Nat) (e : BitVec 9) (n : Nat) : List RegName :=
  match o with
  | .v w | .vreg w =>
    if n < 240 then (if w.is64 t e then [.v n, .v (n + 1)] else [.v n])
    else if n < 244 then [.b (n - 240)]
    else if 248 ≤ n then [.s (n - 248 + 64 * half)] else []
  | .s | .sReg | .sd => if n ≤ 63 then [.s (n + 64 * half)] else []
  | .k | .kd => if n = 0 then [] else [.k n]
  | .box => if n ≤ 60 then (List.range 4).map (fun i => .s (n + i + 64 * half)) else []
  | _ => []

/-- Registers that an instruction reads or writes. -/
def regsOf (half : Nat) (i : Instr) : List RegName :=
  match scalarFieldsOf i with
  | some x => [.s (x.sd.toNat + 64 * half), .s (x.ss.toNat + 64 * half)]
  | none =>
  match vecFieldsOf i with
  | some x => opdNames (.v .w32) half 0 0 x.vd.toNat ++ opdNames (.v .w32) half 0 0 x.vs.toNat
  | none =>
  match branchFieldsOf i with
  | some x => (if x.k = 0 then [] else [.k x.k.toNat]) ++ (match i with
      | .callS _ => [.s (63 + 64 * half)]
      | _ => [])
  | none =>
  match useOf i, xFieldsOf i with
  | some u, some x =>
    let t := x.type.toNat
    let vd := opdNames u.vd half t x.ext x.vd.toNat
    match u.w1 with
    | some _ =>
      (if x.km = 0 then [] else [.k x.km.toNat]) ++ vd ++
      (match i with
       | .pkrd _ | .pkwr _ | .pkvget _ | .pkvset _ | .pkact _ =>
         [.s ((x.w1.extractLsb' 0 6).toNat + 64 * half), .s ((x.w1.extractLsb' 8 6).toNat + 64 * half)]
           ++ opdNames (.v .w32) half 0 0 (x.w1.extractLsb' 16 8).toNat
       | _ => [])
    | none =>
      vd ++ opdNames u.sa half t x.ext x.sa.toNat ++ opdNames u.sb half t x.ext x.sb.toNat ++ opdNames u.sc half t x.ext x.sc.toNat
        ++ (if x.km = 0 then [] else [.k x.km.toNat])
        ++ (match i with
            | .callXl _ _ => [.s (63 + 64 * half)]
            | _ => [])
  | _, _ => []

/-- Registers with a result still to land in a pending instruction. [DEDUCED, log 80] -/
def Pend.names (p : Pend) : List RegName :=
  p.writes.map (fun w => match w with
    | .v r _ _ => .v r
    | .b n _ _ => .b n
    | .s r _ => .s r
    | .k r _ _ => .k r
    | .trap _ => .k 0) ++
  (match p.act with
   | .access a => match a.dest with
     | .v r false => if wide64 a.type then [.v r, .v (r + 1)] else [.v r]
     | .s r => [.s r]
     | .k r => [.k r]
     | _ => []
   | .remote _ _ d t _ => match d with
     | .v r false => if wide64 t then [.v r, .v (r + 1)] else [.v r]
     | .s r => [.s r]
     | _ => []
   | .enq _ _ sd | .qstat _ _ sd | .twait _ sd => [.s sd]
   | .state _ (.pkvget _ _ _) st sd vl => [.s st, .s sd, if 240 ≤ vl then .b (vl - 240) else .v vl]
   | .state _ _ st sd _ => [.s st, .s sd]
   | _ => [])

/-- The LW16 group rejects the tile majors (08 R255, 14 R403 step 2). -/
def tileMajor (i : Instr) : Bool :=
  match opcodeOf i with
  | some o => 0x30 ≤ o.maj.toNat && o.maj.toNat ≤ 0x34
  | none => false

/-- MAJ 0x3f is illegal whatever else its word holds (14 R413). -/
def isUdf (i : Instr) : Bool :=
  match i with
  | .udf _ _ _ => true
  | _ => false

/-- Is a fault of an instruction raised without waiting for its schedule: ILLEGAL_ENCODING, or a malformed schedule entry that
SCH selects (19 R528)? -/
def State.atOnce (s : State) (cid : Nat) (i : Instr) : Bool :=
  let h := (s.task (s.taskOf cid)).hdr
  isUdf i || (h.lw16 && tileMajor i) || (((s.course cid).schedOf i).bad && (match xFieldsOf i with
    | some x => x.sch ≠ 15
    | none => true))

/-- The schedule conditions of a split's next instruction (08 R232), and the interlocks (R254). -/
def State.ready (s : State) (cid w : Nat) (i : Instr) : Bool :=
  let c := s.course cid
  let t := s.task (s.taskOf cid)
  let sp := tgetD c.splits w {}
  let sc := c.schedOf i
  let full := match sc.flag with
    | some f => c.flag w f = 63
    | none => false
  sp.hold ≤ s.now && (s.atOnce cid i ||
  !full && (if t.interlock then
     let rs := regsOf (if t.hdr.lw16 && 2 ≤ w then 1 else 0) i
     c.pends.all (fun p => !p.splits.getLsbD w || p.names.all (fun n => !rs.contains n))
   else
     (sp.last = 0 || sp.last + sc.dist ≤ s.now) && (List.range 12).all (fun f => !sc.wait.getLsbD f || c.flag w f = 0)))

/-! ## Issue -/

/-- Draw the issue slot of an instruction: none when the budget is spent (05 R155). -/
def State.spend (s : State) (tk bench : Nat) : Option State :=
  let t := s.task tk
  match t.budget with
  | none => some s
  | some home =>
    let ch := tgetD t.chunks bench 0
    let n := min 4096 home
    if 0 < ch then
      let s := s.setTask tk { t with chunks := tset t.chunks bench (ch - 1) }
      some (if ch = 1 && home = 0 then s.postOnce (s.now + 1) .budgetExhausted (.nat tk bench 0) else s)
    else if n = 0 then none
    else some (s.setTask tk { t with budget := some (home - n), chunks := tset t.chunks bench (n - 1) })

/-- What a stale loop buffer still gives has ended (17 R490). -/
def Course.leaveLoop (c : Course) : Course := { c with loop := 0, loopI := [] }

/-- Has a course met a late fault in the cycle of a tick, in a split below `w`? A cycle is two ticks. -/
def Course.lateBelow (c : Course) (now w : Nat) : Bool :=
  c.pends.any (fun p => decide (p.split < w) && (p.late.map (fun f => decide (f.tick / 2 = now / 2))).getD false)

/-- Has a course met a late fault in the cycle of a tick? -/
def Course.lateNow (c : Course) (now : Nat) : Bool := c.pends.any (fun p => (p.late.map (fun f => decide (f.tick / 2 = now / 2))).getD false)

/-- An instruction that must wait: nothing changes but the order of later attempts. -/
def Ctx.blocked (k : Ctx) : State := k.s.setSplit k.cid k.w { k.sp with tried := k.s.now }

/-- The issue fault of the issuing instruction (06 R161): the course parks with PC and NEXTPC at it, unless a lower split has met a late fault
in the same cycle, which then is the one (R162). -/
def Ctx.fault (k : Ctx) (cause : Nat) (event : Nat := 0) (addr : Word := 0) (cx : Word := 0) (mask : LaneMask) : State :=
  if k.c.lateBelow k.s.now k.w then k.blocked
  else k.s.parkCourse k.cid k.w cause event addr cx mask k.pc k.pc none

/-- Latencies of R233. -/
def latency (c : LatClass) (dcore : Bool) : Nat :=
  match c with
  | .scalar => if dcore then 2 else 1
  | .vint => if dcore then 4 else 2
  | .vmul => if dcore then 5 else 3
  | .f32 => if dcore then 6 else 4
  | .f64 => if dcore then 8 else 6
  | .cvt => if dcore then 6 else 4
  | .variable | .none => 1

/-- Does a list of writes go to a latch only? Such a result is read one cycle earlier (R233). -/
def toLatch (ws : List RegWrite) : Bool :=
  match ws with
  | .b _ _ _ :: _ => true
  | _ => false

/-- The splits whose flags an instruction of split w counts in: its own at issue (R231). -/
def splitBit (w : Nat) : BitVec 4 := BitVec.ofNat 4 (2 ^ w)

/-- What merges have left out of the split's counters, once one of them counts the instruction too (R231, R238). -/
def Ctx.overNext (k : Ctx) (c : Course) : FMap Nat :=
  match k.sched.flag with
  | some f => tput 0 k.sp.excess f (min (tgetD k.sp.excess f 0) (c.counted k.w f))
  | none => k.sp.excess

/-- Held lanes that counted an instruction count the one issued in its place. -/
def Course.renewHeld (c : Course) (old : Option Pend) (n : Nat) : List Held :=
  match old with
  | none => c.held
  | some q => c.held.map (fun h => { h with counts := h.counts.map (fun x => if x.1.contains q.id then (x.1 ++ [n], x.2) else x) })

/-- Issue the instruction: its slot is spent, the split moves on to `pc`, its flag is counted, and its effects are pending
(R228 to R234). A fixed-latency result lands at its latency, a variable-latency one at INSTRUCTION_COMPLETE, which is
posted unless the action completes by an event of its own (`own`). `late` is a fault met in it (06 R161). The pending
number is the answer's second part. -/
def Ctx.issueAt (k : Ctx) (pc : Word) (ws : List RegWrite) (act : Action) (own : Bool := false) (mask : LaneMask := 0)
    (xbar : Bool := false) (late : Option LateFault := none) : State × Nat :=
  let s := (k.s.spend (k.c.group |> k.s.group).task k.g.bench).getD k.s
  let n := s.nextKey
  let cls := latClass k.i
  let due := match cls with
    | .variable => none
    | c => some (s.now + latency c k.c.dcore - (if toLatch ws then 1 else 0))
  let c := s.course k.cid
  let old : Option Pend := match k.sp.redo with
    | some (_, _, q, _) => c.pends.find? (fun p => p.id = q)
    | none => none
  let p : Pend := { id := n, pc := k.pc, split := k.w, splits := (old.map (·.splits)).getD (splitBit k.w)
                    flag := k.sched.flag, due, writes := ws, act, mask, xbar, trapmask := k.c.trapmask, late := late.map (fun f => { f with tick := due.getD s.now }) }
  let keep := !(ws.isEmpty && act = .none && p.flag.isNone && due.isSome && late.isNone)
  let sp := { k.sp with pc, last := s.now, tried := s.now, yield := 0 }
  let sp := match k.sp.redo with
    | some (np, m, _, wt) => { sp with pc := np, mask := m, wait := wt, redo := none }
    | none => sp
  let ps := match k.sp.redo with
    | some (_, _, q, _) => c.pends.filter (fun p => p.id ≠ q)
    | none => c.pends
  let sp := { sp with excess := k.overNext c }
  let c := { c with splits := tset c.splits k.w sp, pends := if keep then ps ++ [p] else ps, loop := c.loop - 1, held := c.renewHeld old n }
  let s := { s with nextKey := n + 1 }.setCourse k.cid c
  let s := match due with
    | none => if own then s else s.post s.now .instructionComplete (.course k.cid n 0 0)
    | some t => if late.isSome then s.post t .lateFault (.course k.cid n 0 0) else s
  (s, n)

/-- A branch has been taken to a target: a backward one ends what a stale loop buffer still gives (17 R490, 07 R203). -/
def Ctx.taken (k : Ctx) (target : Word) (s : State) : State :=
  if target.toNat ≤ k.pc.toNat then s.setCourse k.cid (s.course k.cid).leaveLoop else s

/-- Issue an instruction whose only effect is its register writes. -/
def Ctx.issue (k : Ctx) (ws : List RegWrite) : State := (k.issueAt k.next ws .none).1

/-- Is an instruction course-wide (13 R384)? -/
def isWide (i : Instr) : Bool := ((useOf i).map (·.wide)).getD false

/-- The context of the issuing split. -/
def State.ctx (s : State) (i : Instr) (cid w : Nat) (c : Course) (sp : Split) : Ctx :=
  let g := s.group c.group
  let t := s.task g.task
  { i, s, cid, c, w, sp, g, t, vdn := t.vd, x := (xFieldsOf i).getD {}, sched := c.schedOf i }

/-- Issue with the checks that come before an instruction's own, in the order of 13 R389 and 05 R155: the budget,
ILLEGAL_ENCODING under LW16, RESERVED_ENCODING, PROFILE_OPERAND, PARTIAL_MASK_TILE. Each parks the course, ADDR zero
and MASK the active lanes (22 R529). [DEDUCED, log 94] -/
def withIssue (i : Instr) (s : State) (f : Ctx → Out) : Out :=
  match s.cur with
  | none => .fault .noIssuer
  | some (cid, w) =>
    match tget s.courses cid with
    | none => .fault .noIssuer
    | some c =>
      match tget c.splits w with
      | none => .fault .noIssuer
      | some sp =>
        let k := s.ctx i cid w c sp
        if (s.spend k.g.task k.g.bench).isNone then .next (k.fault 0x0d 0 0 0 k.k0)
        else if isUdf i || (k.lw && tileMajor i) then .next (k.fault 0x07 0 0 0 k.active)
        else if reserved i || k.sched.bad then .next (k.fault 0x08 0 0 0 k.active)
        else if c.prof && profileOperand i then .next (k.fault 0x09 0 0 0 k.active)
        else if isWide i && k.k0 ≠ c.live then .next (k.fault 0x0a 0 0 0 k.active)
        else f k

/-- An instruction with a fixed effect on registers. -/
def regInstr (i : Instr) (s : State) (f : Ctx → List RegWrite) : Out := withIssue i s (fun k => .next (k.issue (f k)))

end Sys2Proof.Machine
end

