-- ==== Sys2Proof/Machine/Flags.lean ====
section
/-! DEFINITION. Exact integers, narrowing and conditions (12 R341, 15 R422, R423): what every integer instruction and
every comparison computes. The machine has no arithmetic flags; a comparison writes a mask or a scalar. -/
namespace Sys2Proof.Machine

/-- INT8, INT16, INT32 and INT64 are the signed integer types (12 R338). -/
def signedType (t : Nat) : Bool := t = 0 || t = 2 || t = 4 || t = 6

/-- The w-bit pattern x read as an integer of type t. -/
def intVal (t x : Nat) : Int := if signedType t then sext (typeWidth t) x else ((x % 2 ^ typeWidth t : Nat) : Int)

/-- The least and the greatest value of an integer type. -/
def intMin (t : Nat) : Int := if signedType t then -((2 ^ (typeWidth t - 1) : Nat) : Int) else 0
def intMax (t : Nat) : Int := if signedType t then ((2 ^ (typeWidth t - 1) : Nat) : Int) - 1 else ((2 ^ typeWidth t : Nat) : Int) - 1

/-- The low w bits of an exact result. -/
def wrapTo (w : Nat) (v : Int) : Nat := (v % ((2 ^ w : Nat) : Int)).toNat

/-- Narrow an exact result (R341): wrap, or clamp to the type's range with SAT. -/
def narrow (sat : Bool) (t : Nat) (v : Int) : Nat :=
  wrapTo (typeWidth t) (if sat then max (intMin t) (min (intMax t) v) else v)

/-- COND codes 0x0 to 0x5 (R422). -/
def condInt (c : Nat) (a b : Int) : Bool :=
  match c with
  | 0 => a = b
  | 1 => a ≠ b
  | 2 => a < b
  | 3 => a ≤ b
  | 4 => b < a
  | _ => b ≤ a

/-- COND of WAITA: 0x6 is wrap-around order (17 R482). -/
def condWait (c t : Nat) (v b : Nat) : Bool :=
  if c = 6 then (v + 2 ^ typeWidth t - b % 2 ^ typeWidth t) % 2 ^ typeWidth t < 2 ^ (typeWidth t - 1)
  else condInt c (intVal t v) (intVal t b)

/-- Number of leading zeros of a w-bit pattern, w for zero. -/
def clz : Nat → Nat → Nat
  | 0, _ => 0
  | w + 1, x => if x.testBit w then 0 else 1 + clz w x

/-- Number of set bits among the low w. -/
def popc : Nat → Nat → Nat
  | 0, _ => 0
  | w + 1, x => (if x.testBit w then 1 else 0) + popc w x

/-- Bit reversal of a w-bit pattern: bit i of the result is bit w - 1 - i. -/
def brev (w x : Nat) : Nat := (List.range w).foldl (fun r i => if x.testBit i then r + 2 ^ (w - 1 - i) else r) 0

/-- Two-operand integer operations by name. -/
inductive IntOp where
  | add | sub | mul | mulh | and | or | xor | shl | shr | sar | min | max
  deriving DecidableEq, Repr

/-- The exact value of an operation on w-bit patterns of type t; `n` is the whole unsigned count of a shift (R423). -/
def IntOp.exact (op : IntOp) (t a b n : Nat) : Int :=
  let w := typeWidth t
  let p := a % 2 ^ w
  let q := b % 2 ^ w
  match op with
  | .add => intVal t a + intVal t b
  | .sub => intVal t a - intVal t b
  | .mul => intVal t a * intVal t b
  | .mulh => (intVal t a * intVal t b) / ((2 ^ w : Nat) : Int)
  | .and => ((p &&& q : Nat) : Int)
  | .or => ((p ||| q : Nat) : Int)
  | .xor => ((p ^^^ q : Nat) : Int)
  | .shl => if n < w then intVal t a * ((2 ^ n : Nat) : Int) else 0
  | .shr => if n < w then ((p / 2 ^ n : Nat) : Int) else 0
  | .sar => if n < w then sext w p / ((2 ^ n : Nat) : Int) else (if sext w p < 0 then -1 else 0)
  | .min => if intVal t a ≤ intVal t b then intVal t a else intVal t b
  | .max => if intVal t a ≤ intVal t b then intVal t b else intVal t a

/-- The narrowed result of a two-operand operation. -/
def IntOp.result (op : IntOp) (sat : Bool) (t a b n : Nat) : Nat := narrow sat t (op.exact t a b n)

end Sys2Proof.Machine
end

