-- ==== Sys2Proof/Machine/Float.lean ====
section
/-! DEFINITION. Binary floats: formats, exact values, one rounding, events and their NaNs (12 R342 to R356, R361). A
float is a pattern of its type's width; an operation computes exactly on integers and rounds once. -/
namespace Sys2Proof.Machine

/-! ## Formats (R342) -/

/-- Exponent bits and fraction bits of a float type. -/
def expBits (t : Nat) : Nat := if t = 9 then 5 else if t = 11 then 11 else 8
def fracBits (t : Nat) : Nat := if t = 8 then 7 else if t = 9 then 10 else if t = 10 then 23 else 52

/-- Is a type code a float type? -/
def floatType (t : Nat) : Bool := t = 8 || t = 9 || t = 10 || t = 11

/-- The exponent of the last place of a subnormal: 1 - bias - fraction bits. -/
def lsbExp (t : Nat) : Int := 2 - ((2 ^ (expBits t - 1) : Nat) : Int) - (fracBits t : Int)

/-- The pattern of +∞, and of the sign bit. -/
def infBits (t : Nat) : Nat := (2 ^ expBits t - 1) * 2 ^ fracBits t
def signBit (t : Nat) : Nat := 2 ^ (expBits t + fracBits t)

/-- A pattern with its sign. -/
def withSign (t : Nat) (neg : Bool) (x : Nat) : Nat := if neg then x + signBit t else x

/-- The canonical quiet NaN (R346). -/
def canonNaN (t : Nat) : Nat := infBits t + 2 ^ (fracBits t - 1)

/-- Width of the origin field (R348). -/
def originBits (t : Nat) : Nat := if t = 11 then 47 else if t = 10 then 18 else if t = 9 then 5 else 0
/-- Lowest bit of the event code field (R348). -/
def codeAt (t : Nat) : Nat := fracBits t - 5

/-- The event NaN with a code and an origin, of which the low bits that fit stay (R348, R351). -/
def eventNaN (t code origin : Nat) : Nat := canonNaN t + code * 2 ^ codeAt t + origin % 2 ^ originBits t

/-- A newly raised event NaN: the origin holds the low bits of PC / 4 (R349). -/
def newNaN (t code : Nat) (pc : Word) : Nat := eventNaN t code (pc.toNat / 4)

/-- What a pattern means. A finite value is m × 2^e with its sign; a quiet NaN gives its code field and origin. -/
inductive FVal where
  | snan
  | qnan (code origin : Nat)
  | inf (neg : Bool)
  | fin (neg : Bool) (m : Nat) (e : Int)
  deriving DecidableEq, Repr

/-- The value of a pattern (R342, R343, R348). -/
def fval (t x : Nat) : FVal :=
  let f := fracBits t
  let frac := x % 2 ^ f
  let ex := (x / 2 ^ f) % 2 ^ expBits t
  let neg := (x / signBit t) % 2 = 1
  if ex = 2 ^ expBits t - 1 then
    if frac = 0 then .inf neg
    else if frac < 2 ^ (f - 1) then .snan
    else .qnan ((x / 2 ^ codeAt t) % 16) (x % 2 ^ originBits t)
  else if ex = 0 then .fin neg frac (lsbExp t)
  else .fin neg (2 ^ f + frac) (lsbExp t + (ex : Int) - 1)

/-- The sign bit of a pattern. -/
def fsign (t x : Nat) : Bool := (x / signBit t) % 2 = 1

/-- Is a value ±0? -/
def FVal.isZero (v : FVal) : Bool :=
  match v with
  | .fin _ 0 _ => true
  | _ => false

/-- The sign of a value that is no NaN. -/
def FVal.neg (v : FVal) : Bool :=
  match v with
  | .inf n => n
  | .fin n _ _ => n
  | _ => false

/-- The value with the other sign. -/
def FVal.flip (v : FVal) : FVal :=
  match v with
  | .inf n => .inf (!n)
  | .fin n m e => .fin (!n) m e
  | v => v

/-! ## Rounding (R344, R345) -/

/-- A result: its pattern as IEEE mode delivers it, and the event it raises, 0 for none. -/
structure FRes where
  x  : Nat
  ev : Nat := 0
  deriving DecidableEq, Repr

/-- Bit length of a number. -/
def bitLen (n : Nat) : Nat := if n = 0 then 0 else Nat.log2 n + 1

/-- Does a magnitude round up? `low` is the part below the last place in units of 2^-s of it, `more` says that something
nonzero lies below that. -/
def roundsUp (rm : Nat) (neg odd : Bool) (low s : Nat) (more : Bool) : Bool :=
  let half := 2 ^ (s - 1)
  match rm with
  | 0 => half < low || (low = half && (more || odd))
  | 1 => false
  | 2 => neg && (low ≠ 0 || more)
  | _ => !neg && (low ≠ 0 || more)

/-- The overflow result of R346. -/
def overflow (t rm : Nat) (neg : Bool) : Nat :=
  let toInf := rm = 0 || (rm = 2 && neg) || (rm = 3 && !neg)
  withSign t neg (if toInf then infBits t else infBits t - 1)

/-- Round the magnitude (q + θ) × 2^e, 0 ≤ θ < 1, where θ is nonzero exactly if `more`, to a type with at most `p`
significant bits. When `more` holds, q has at least p + 2 bits. Not for an exact zero. -/
def roundMag (t p rm : Nat) (neg : Bool) (q : Nat) (e : Int) (more : Bool) : FRes :=
  let l : Int := bitLen q
  let le : Int := max (e + l - p) (lsbExp t)
  let sh : Int := le - e
  let r : Nat × Bool :=
    if sh ≤ 0 then (q * 2 ^ (-sh).toNat, more)
    else if l + 2 < sh then ((if roundsUp rm neg false 1 2 true then 1 else 0), true)
    else
      let s := sh.toNat
      let keep := q / 2 ^ s
      let low := q % 2 ^ s
      ((if roundsUp rm neg (keep % 2 = 1) low s more then keep + 1 else keep), low ≠ 0 || more)
  let m := r.1
  let te : Int := min le (max (le + bitLen m - (fracBits t + 1)) (lsbExp t))
  let x := (te - lsbExp t).toNat * 2 ^ fracBits t + m * 2 ^ (le - te).toNat
  if infBits t ≤ x then { x := overflow t rm neg, ev := 3 }
  else { x := withSign t neg x, ev := if r.2 && x < 2 ^ fracBits t then 4 else 0 }

/-- Round num / den × 2^e, not zero. -/
def roundQ (t p rm : Nat) (neg : Bool) (num den : Nat) (e : Int) : FRes :=
  if den = 1 then roundMag t p rm neg num e false
  else
    let k := p + 3 + bitLen den
    roundMag t p rm neg (num * 2 ^ k / den) (e - k) (num * 2 ^ k % den ≠ 0)

/-- Round a finite value, an exact zero keeping its sign. -/
def roundVal (t rm : Nat) (neg : Bool) (m : Nat) (e : Int) : FRes :=
  if m = 0 then { x := withSign t neg 0 } else roundMag t (fracBits t + 1) rm neg m e false

/-- Round an exact integer. -/
def roundIntVal (t rm : Nat) (v : Int) : FRes := roundVal t rm (v < 0) v.natAbs 0

/-! ## Events and NaN operands (R346 to R351) -/

/-- What a float operation runs under: event mode, and the PC whose origin its events carry (R349). -/
structure FEnv where
  evm : Bool := false
  pc  : Word := 0
  deriving DecidableEq, Repr

/-- The result of an event: its NaN in event mode, otherwise what IEEE mode delivers (R346, R347). -/
def FEnv.event (n : FEnv) (t : Nat) (r : FRes) : FRes := if n.evm && r.ev ≠ 0 then { r with x := newNaN t r.ev n.pc } else r

/-- The result that a poisoned operand gives in event mode (R345, R352). -/
def FEnv.poison (n : FEnv) (t : Nat) : FRes := { x := newNaN t 7 n.pc, ev := 7 }

/-- INV. -/
def FEnv.inv (n : FEnv) (t : Nat) : FRes := n.event t { x := canonNaN t, ev := 1 }

/-- A quiet NaN delivered in a type (R350, R351). -/
def FEnv.quiet (n : FEnv) (t code origin : Nat) : Nat :=
  if n.evm && 1 ≤ code && code ≤ 8 then eventNaN t code origin else canonNaN t

/-- The result that NaN operands decide, in operand order (R345, R350): none when no operand is a NaN. -/
def FEnv.nans (n : FEnv) (t : Nat) (vs : List FVal) : Option FRes :=
  if vs.contains .snan then some (n.inv t)
  else (vs.findSome? (fun v => match v with
    | .qnan c o => some { x := n.quiet t c o }
    | _ => none))

/-! ## Elementwise operations (R361, 16 R454 to R458) -/

/-- The exact sum of two finite values, rounded; the sign of an exact zero follows R344. -/
def addFin (t rm : Nat) (n1 : Bool) (m1 : Nat) (e1 : Int) (n2 : Bool) (m2 : Nat) (e2 : Int) : FRes :=
  let e := min e1 e2
  let a : Int := (m1 * 2 ^ (e1 - e).toNat : Nat)
  let b : Int := (m2 * 2 ^ (e2 - e).toNat : Nat)
  let v := (if n1 then -a else a) + (if n2 then -b else b)
  if v = 0 then { x := withSign t (if n1 = n2 then n1 else rm = 2) 0 }
  else roundVal t rm (v < 0) v.natAbs e

/-- a + b on values. -/
def addVal (n : FEnv) (t rm : Nat) (a b : FVal) : FRes :=
  match n.nans t [a, b] with
  | some r => r
  | none =>
    match a, b with
    | .inf p, .inf q => if p = q then { x := withSign t p (infBits t) } else n.inv t
    | .inf p, _ => { x := withSign t p (infBits t) }
    | _, .inf q => { x := withSign t q (infBits t) }
    | .fin n1 m1 e1, .fin n2 m2 e2 => n.event t (addFin t rm n1 m1 e1 n2 m2 e2)
    | _, _ => n.inv t

/-- FADD and FSUB. -/
def fadd (n : FEnv) (t rm a b : Nat) : FRes := addVal n t rm (fval t a) (fval t b)
def fsub (n : FEnv) (t rm a b : Nat) : FRes := addVal n t rm (fval t a) (fval t b).flip

/-- a × b + c on values, fused; `c` none for a product alone. -/
def fmaVal (n : FEnv) (t rm : Nat) (a b : FVal) (c : Option FVal) : FRes :=
  match n.nans t ([a, b] ++ c.toList) with
  | some r => r
  | none =>
    match a, b with
    | .fin n1 m1 e1, .fin n2 m2 e2 =>
      (match c with
       | none => n.event t (roundVal t rm (n1 != n2) (m1 * m2) (e1 + e2))
       | some (.fin n3 m3 e3) => n.event t (addFin t rm (n1 != n2) (m1 * m2) (e1 + e2) n3 m3 e3)
       | some (.inf s) => { x := withSign t s (infBits t) }
       | some _ => n.inv t)
    | a, b =>
      let s := a.neg != b.neg
      if a.isZero || b.isZero then n.inv t
      else match c with
        | some (.inf s2) => if s = s2 then { x := withSign t s (infBits t) } else n.inv t
        | _ => { x := withSign t s (infBits t) }

/-- FMUL and FFMA. -/
def fmul (n : FEnv) (t rm a b : Nat) : FRes := fmaVal n t rm (fval t a) (fval t b) none
def ffma (n : FEnv) (t rm a b c : Nat) : FRes := fmaVal n t rm (fval t a) (fval t b) (some (fval t c))

/-- FDIV. -/
def fdiv (n : FEnv) (t rm a b : Nat) : FRes :=
  let va := fval t a
  let vb := fval t b
  match n.nans t [va, vb] with
  | some r => r
  | none =>
    let s := va.neg != vb.neg
    match va, vb with
    | .inf _, .inf _ => n.inv t
    | .inf _, _ => { x := withSign t s (infBits t) }
    | _, .inf _ => { x := withSign t s 0 }
    | .fin _ m1 e1, .fin _ m2 e2 =>
      if m2 = 0 then (if m1 = 0 then n.inv t else n.event t { x := withSign t s (infBits t), ev := 2 })
      else if m1 = 0 then { x := withSign t s 0 }
      else n.event t (roundQ t (fracBits t + 1) rm s m1 m2 (e1 - e2))
    | _, _ => n.inv t

/-- Integer square root, bit by bit from bit i - 1 down. -/
def isqrtFrom (n : Nat) : Nat → Nat → Nat
  | 0, r => r
  | i + 1, r => isqrtFrom n i (if (r + 2 ^ i) * (r + 2 ^ i) ≤ n then r + 2 ^ i else r)
def isqrt (n : Nat) : Nat := isqrtFrom n (bitLen n / 2 + 1) 0

/-- FSQRT. -/
def fsqrt (n : FEnv) (t rm a : Nat) : FRes :=
  let v := fval t a
  match n.nans t [v] with
  | some r => r
  | none =>
    match v with
    | .inf s => if s then n.inv t else { x := infBits t }
    | .fin s m e =>
      if m = 0 then { x := withSign t s 0 }
      else if s then n.inv t
      else
        let m := if e % 2 = 0 then m else 2 * m
        let e := if e % 2 = 0 then e else e - 1
        let k := fracBits t + 4
        let r := isqrt (m * 2 ^ (2 * k))
        n.event t (roundMag t (fracBits t + 1) rm false r (e / 2 - k) (r * r ≠ m * 2 ^ (2 * k)))
    | _ => n.inv t

/-- Significant bits of FRCP and FRSQ results (R356). -/
def approxBits (t : Nat) : Nat := min 13 (fracBits t + 1)

/-- FRCP (R356). -/
def frcp (n : FEnv) (t a : Nat) : FRes :=
  let v := fval t a
  match n.nans t [v] with
  | some r => r
  | none =>
    match v with
    | .inf s => { x := withSign t s 0 }
    | .fin s m e =>
      if m = 0 then n.event t { x := withSign t s (infBits t), ev := 2 }
      else n.event t (roundQ t (approxBits t) 0 s 1 m (-e))
    | _ => n.inv t

/-- FRSQ (R356). -/
def frsq (n : FEnv) (t a : Nat) : FRes :=
  let v := fval t a
  match n.nans t [v] with
  | some r => r
  | none =>
    match v with
    | .inf s => if s then n.inv t else { x := 0 }
    | .fin s m e =>
      if m = 0 then n.event t { x := withSign t s (infBits t), ev := 2 }
      else if s then n.inv t
      else
        let m := if e % 2 = 0 then m else 2 * m
        let e := if e % 2 = 0 then e else e - 1
        let k := fracBits t + 4 + bitLen m
        let r := isqrt (2 ^ (2 * k) / m)
        n.event t (roundMag t (approxBits t) 0 false r (-(e / 2) - k) (r * r * m ≠ 2 ^ (2 * k)))
    | _ => n.inv t

/-- Order of two values that are no NaN, as exact numbers: a < b. -/
def ltVal (a b : FVal) : Bool :=
  match a, b with
  | .inf p, .inf q => p && !q
  | .inf p, _ => p
  | _, .inf q => !q
  | .fin n1 m1 e1, .fin n2 m2 e2 =>
    let e := min e1 e2
    let x : Int := (m1 * 2 ^ (e1 - e).toNat : Nat)
    let y : Int := (m2 * 2 ^ (e2 - e).toNat : Nat)
    decide ((if n1 then -x else x) < (if n2 then -y else y))
  | _, _ => false

/-- FMIN (max false) and FMAX: one operand unchanged, -0 below +0 (16 R455). -/
def fminmax (n : FEnv) (t : Nat) (mx : Bool) (a b : Nat) : FRes :=
  let va := fval t a
  let vb := fval t b
  match n.nans t [va, vb] with
  | some r => r
  | none =>
    let lt := ltVal va vb || (va.isZero && vb.isZero && va.neg && !vb.neg)
    let gt := ltVal vb va || (va.isZero && vb.isZero && vb.neg && !va.neg)
    { x := if mx then (if lt then b else a) else (if gt then b else a) }

/-- COND of FCMP and the event it raises (16 R456). -/
def fcond (c t a b : Nat) : Bool × Nat :=
  let va := fval t a
  let vb := fval t b
  let isN : FVal → Bool := fun v => match v with
    | .snan => true
    | .qnan _ _ => true
    | _ => false
  let un := isN va || isN vb
  let lt := !un && ltVal va vb
  let gt := !un && ltVal vb va
  let eq := !un && !lt && !gt
  (match c with
   | 0 => eq
   | 1 => !eq
   | 2 => lt
   | 3 => lt || eq
   | 4 => gt
   | 5 => gt || eq
   | 6 => un
   | _ => !un, if va = .snan || vb = .snan then 1 else 0)

/-- FCLASS (16 R457). -/
def fclass (t a : Nat) : Nat :=
  match fval t a with
  | .snan => 0x100
  | .qnan c _ => 0x200 + (if 1 ≤ c && c ≤ 8 then c * 0x1000 else 0)
  | .inf n => if n then 0x001 else 0x080
  | .fin n m _ =>
    if m = 0 then (if n then 0x008 else 0x010)
    else if m < 2 ^ fracBits t then (if n then 0x004 else 0x020)
    else (if n then 0x002 else 0x040)

/-- A finite value rounded to an integer magnitude under RM. -/
def roundToInt (rm : Nat) (neg : Bool) (m : Nat) (e : Int) : Nat :=
  if 0 ≤ e then m * 2 ^ e.toNat
  else
    let s := (-e).toNat
    if bitLen m + 2 < s then (if m ≠ 0 && roundsUp rm neg false 1 2 true then 1 else 0)
    else
      let keep := m / 2 ^ s
      if roundsUp rm neg (keep % 2 = 1) (m % 2 ^ s) s false then keep + 1 else keep

/-- FRND (16 R458). -/
def frnd (n : FEnv) (t rm a : Nat) : FRes :=
  match n.nans t [fval t a] with
  | some r => r
  | none =>
    match fval t a with
    | .fin s m e => { x := (roundVal t rm s (roundToInt rm s m e) 0).x }
    | .inf s => { x := withSign t s (infBits t) }
    | _ => { x := a }

/-! ## Conversions (R351, R354, R355, 16 R459) -/

/-- Float to float: one rounding; a NaN keeps its code and origin (R351). -/
def cvtFF (n : FEnv) (dt st rm a : Nat) : FRes :=
  match n.nans dt [fval st a] with
  | some r => r
  | none =>
    match fval st a with
    | .fin s m e => if dt = st then { x := a } else n.event dt (roundVal dt rm s m e)
    | .inf s => { x := withSign dt s (infBits dt) }
    | _ => n.inv dt

/-- Float to integer (R355). [DEDUCED, log 82] -/
def cvtFI (dt st rm a : Nat) : FRes :=
  let lo := wrapTo (typeWidth dt) (intMin dt)
  let hi := wrapTo (typeWidth dt) (intMax dt)
  match fval st a with
  | .fin s m e =>
    let r : Int := roundToInt rm s m e
    let v := if s then -r else r
    if intMax dt < v then { x := hi, ev := 6 }
    else if v < intMin dt then { x := lo, ev := 6 }
    else { x := wrapTo (typeWidth dt) v }
  | .inf s => { x := if s then lo else hi, ev := 6 }
  | .snan => { x := 0, ev := 1 }
  | .qnan _ _ => { x := 0, ev := 6 }

/-- Any conversion between the types 0x0 to 0xb. [DEDUCED, log 82] -/
def convert (n : FEnv) (dt st rm : Nat) (sat : Bool) (a : Nat) : FRes :=
  if floatType st then (if floatType dt then cvtFF n dt st rm a else cvtFI dt st rm a)
  else if floatType dt then n.event dt (roundIntVal dt rm (intVal st a))
  else { x := narrow sat dt (intVal st a) }

end Sys2Proof.Machine
end

