-- ==== Sys2Proof/Machine/Cb4.lean ====
section
/-! DEFINITION. CB4: the codebook, decoding, encoding, the choice of scales and the chunk sums (12 R357 to R360, R364,
R365, 16 R461). -/
namespace Sys2Proof.Machine

/-- The levels of R357. -/
def cbLevels : List Int := [-127, -89, -67, -50, -36, -23, -11, 0, 10, 20, 31, 43, 56, 71, 92, 127]

/-- The level of an index. -/
def cbLevel (i : Nat) : Int := cbLevels.getD (i % 16) 0

/-- The value of an element, rounded once to a float type (R358). A zero S with a nonzero level and scale gives the zero
of the product's sign (DEDUCED, notes/assumptions). [DEDUCED, log 83] -/
def cbDecode (n : FEnv) (t rm i q s : Nat) : FRes :=
  let l := cbLevel i
  match n.nans t [fval 10 s] with
  | some r => r
  | none =>
    match fval 10 s with
    | .inf g => if l = 0 || q = 0 then n.inv t else { x := withSign t (g != decide (l < 0)) (infBits t) }
    | .fin g m e =>
      if l = 0 || q = 0 then { x := 0 }
      else if m = 0 then { x := withSign t (g != decide (l < 0)) 0 }
      else n.event t (roundQ t (fracBits t + 1) rm (g != decide (l < 0)) (l.natAbs * q * m) 32385 e)
    | _ => n.inv t

/-- The index nearest to num / den, ties to the smaller magnitude. -/
def nearestLevel (num : Int) (den : Nat) : Nat :=
  let dist := fun i => (num - cbLevel i * (den : Int)).natAbs
  (List.range 16).foldl (fun b i =>
    if dist i < dist b || (dist i = dist b && (cbLevel i).natAbs < (cbLevel b).natAbs) then i else b) 0

/-- The index of the value x / d, and the event of its encoding (R359); a signalling NaN is INV, which R345 puts first. -/
def cbEncodeVal (x : FVal) (d q s : Nat) : Nat × Nat :=
  match x with
  | .fin g m e =>
    if m = 0 then (7, 0)
    else
      match fval 10 s with
      | .inf _ => (7, if q = 0 then 6 else 0)
      | .fin h n f =>
        if q = 0 || n = 0 then (if g then 0 else 15, 8)
        else
          let lo := min e f
          let num := m * 32385 * 2 ^ (e - lo).toNat
          let den := q * n * d * 2 ^ (f - lo).toNat
          let neg := g != h
          if 127 * den < num then (if neg then 0 else 15, 8)
          else (nearestLevel (if neg then -(num : Int) else num) den, 0)
      | .snan => (7, 1)
      | .qnan _ _ => (7, 6)
  | .snan => (7, 1)
  | _ => (7, 6)

/-- The index of a float. -/
def cbEncode (t x q s : Nat) : Nat × Nat := cbEncodeVal (fval t x) 1 q s

/-- S from the greatest magnitude m × 2^e / d: rounded up to FP32, clamped to the largest finite value (R360). [DEDUCED, log 83] -/
def cbScale (m : Nat) (e : Int) (d : Nat := 1) : Nat :=
  if m = 0 then 0
  else
    let x := (roundQ 10 24 3 false m d e).x
    if x = infBits 10 then infBits 10 - 1 else x

/-- q from a block's greatest magnitude m × 2^e / d and a finite S, with the event of VBSCAL (R360, R461). [DEDUCED, log 84] -/
def cbBlockScale (m : Nat) (e : Int) (n : Nat) (f : Int) (d : Nat := 1) : Nat × Nat :=
  if m = 0 || n = 0 then (0, 0)
  else
    let lo := min e f
    let num := 255 * m * 2 ^ (e - lo).toNat
    let den := n * d * 2 ^ (f - lo).toNat
    let c := (num + den - 1) / den
    if 255 < c then (255, 8) else (c, 0)

/-- VBSCAL (R461). [DEDUCED, log 84] -/
def vbscal (mode t a s : Nat) : FRes :=
  let va := fval t a
  if mode = 1 then
    match va with
    | .fin _ m e => { x := cbScale m e }
    | .inf _ => { x := infBits 10 - 1 }
    | _ => { x := 0, ev := 6 }
  else
    match va, fval 10 s with
    | .snan, _ | .qnan _ _, _ | _, .snan | _, .qnan _ _ => { x := 0, ev := 6 }
    | .inf _, .inf _ => { x := 0, ev := 6 }
    | _, .inf g => { x := 0, ev := if g then 6 else 0 }
    | .inf _, .fin h n _ => if n = 0 then { x := 0 } else if h then { x := 0, ev := 6 } else { x := 255, ev := 8 }
    | .fin _ m e, .fin h n f =>
      if h && n ≠ 0 then { x := 0, ev := 6 }
      else
        let r := cbBlockScale m e n f
        { x := r.1, ev := r.2 }

/-! ## Chunk sums (R364, R365) -/

/-- F of a superblock's scale and an activation scale. -/
def cbFactor (n : FEnv) (s a : Nat) : FRes :=
  match n.nans 11 [fval 10 s, fval 10 a] with
  | some r => r
  | none =>
    match fval 10 s, fval 10 a with
    | .fin g m e, .fin h k f =>
      if m = 0 || k = 0 then { x := withSign 11 (g != h) 0 } else n.event 11 (roundQ 11 53 0 (g != h) (m * k) 32385 (e + f))
    | v, w => if v.isZero || w.isZero then n.inv 11 else { x := withSign 11 (v.neg != w.neg) (infBits 11) }

/-- acc := rne(acc + rne(t × F)), t the exact integer p × q; the events of both roundings. A NaN accumulator stays. [DEDUCED, log 85] -/
def cbAccumulate (n : FEnv) (acc : Nat) (tt : Int) (f : Nat) : Nat × List Nat :=
  match fval 11 acc with
  | .snan | .qnan _ _ => (acc, [])
  | _ =>
    let x := fmul n 11 0 (roundIntVal 11 0 tt).x f
    let y := fadd n 11 0 acc x.x
    (y.x, [x.ev, y.ev])

/-- One product of floats of a type added to an accumulator, fused (R364). A NaN accumulator stays. [DEDUCED, log 85] -/
def fmaAccumulate (n : FEnv) (t acc a b : Nat) : Nat × List Nat :=
  match fval 11 acc with
  | .snan | .qnan _ _ => (acc, [])
  | c =>
    let r := fmaAcc c
    (r.x, [r.ev])
where
  /-- The accumulator is the first operand of its own addition (R350). -/
  fmaAcc (c : FVal) : FRes :=
    match n.nans 11 [c, fval t a, fval t b] with
    | some r => r
    | none => fmaVal n 11 0 (fval t a) (fval t b) (some c)

end Sys2Proof.Machine
end

