-- ==== Sys2Proof/Machine/FloatFn.lean ====
section
/-! DEFINITION. FEXP2, FLOG2, FSINPI and FCOSPI (16 R458): computed in fixed point with 400 fractional bits, far beyond
what separates a value from a rounding boundary of the formats, and rounded once. Exact values are met first. -/
namespace Sys2Proof.Machine

/-- One in fixed point with 400 fractional bits. -/
def fxOne : Nat := 2 ^ 400
/-- π with 400 fractional bits, rounded down. -/
def fxPi : Nat := 0x3243f6a8885a308d313198a2e03707344a4093822299f31d0082efa98ec4e6c89452821e638d01377be5466cf34e90c6cc0ac
/-- The natural logarithm of 2 with 400 fractional bits, rounded down. -/
def fxLn2 : Nat := 0xb17217f7d1cf79abc9e3b39803f2f6af40f343267298b62d8a0d175b8baafa2be7b876206debac98559552fb4afa1b10ed2e

/-- Terms k, k + 1, … of the exponential series, added to `acc`; `term` is term k - 1. -/
def expSeries (x : Nat) : Nat → Nat → Nat → Nat → Nat
  | 0, _, _, acc => acc
  | n + 1, k, term, acc => let u := term * x / fxOne / k; expSeries x n (k + 1) u (acc + u)

/-- 2 to a fraction. -/
def fxExp2 (f : Nat) : Nat := expSeries (f * fxLn2 / fxOne) 95 1 fxOne fxOne

/-- The series of the inverse hyperbolic tangent: z^j / j for j, j + 2, …; `pw` is z^j. -/
def atanhSeries (z2 : Nat) : Nat → Nat → Nat → Nat → Nat
  | 0, _, _, acc => acc
  | n + 1, j, pw, acc => atanhSeries z2 n (j + 2) (pw * z2 / fxOne) (acc + pw / j)

/-- The binary logarithm of a fixed-point number from 1 to 2. -/
def fxLog2 (y : Nat) : Nat :=
  let z := (y - fxOne) * fxOne / (y + fxOne)
  2 * atanhSeries (z * z / fxOne) 135 1 z 0 * fxOne / fxLn2

/-- The sine series: `term` is θ^j / j!; positive and negative terms are added apart. -/
def sinSeries (x2 : Nat) : Nat → Nat → Nat → Nat → Nat → Nat
  | 0, _, _, pos, neg => pos - neg
  | n + 1, j, term, pos, neg =>
    let u := term * x2 / fxOne / ((j + 1) * (j + 2))
    let v := u * x2 / fxOne / ((j + 3) * (j + 4))
    sinSeries x2 n (j + 4) v (pos + term) (neg + u)

/-- sin(π t) for t from 0 to 1/2 in fixed point. -/
def fxSinPi (t : Nat) : Nat :=
  let x := t * fxPi / fxOne
  sinSeries (x * x / fxOne) 27 1 x 0 0

/-- Round a fixed-point value that is no exact one: its last 60 bits only say that something follows. -/
def roundFx (t rm : Nat) (neg : Bool) (v : Nat) (e : Int) : FRes :=
  roundMag t (fracBits t + 1) rm neg (v / 2 ^ 60) (e - 340) true

/-- One, with a sign, in a format. -/
def fOne (t : Nat) (neg : Bool) : FRes := roundVal t 0 neg 1 0

/-- FEXP2. [UNVERIFIED, log 86] -/
def fexp2 (n : FEnv) (t rm a : Nat) : FRes :=
  match n.nans t [fval t a] with
  | some r => r
  | none =>
    match fval t a with
    | .inf s => { x := if s then 0 else infBits t }
    | .fin s m e =>
      let v : Int := if s then -(m : Int) else m
      if 0 ≤ e then n.event t (roundMag t (fracBits t + 1) rm false 1 (v * ((2 ^ e.toNat : Nat) : Int)) false)
      else
        let d := (-e).toNat
        let i := v / ((2 ^ d : Nat) : Int)
        let f := (v % ((2 ^ d : Nat) : Int)).toNat
        if f = 0 then n.event t (roundMag t (fracBits t + 1) rm false 1 i false)
        else n.event t (roundFx t rm false (fxExp2 (f * 2 ^ (400 - d))) i)
    | _ => n.inv t

/-- FLOG2. [UNVERIFIED, log 86] -/
def flog2 (n : FEnv) (t rm a : Nat) : FRes :=
  match n.nans t [fval t a] with
  | some r => r
  | none =>
    match fval t a with
    | .inf s => if s then n.inv t else { x := infBits t }
    | .fin s m e =>
      if m = 0 then n.event t { x := withSign t true (infBits t), ev := 2 }
      else if s then n.inv t
      else
        let l := bitLen m - 1
        let i : Int := e + l
        if m = 2 ^ l then roundIntVal t rm i
        else
          let v : Int := i * (fxOne : Int) + (fxLog2 (m * 2 ^ (400 - l)) : Int)
          n.event t (roundFx t rm (v < 0) v.natAbs 0)
    | _ => n.inv t

/-- FSINPI. [UNVERIFIED, log 86] -/
def fsinpi (n : FEnv) (t rm a : Nat) : FRes :=
  match n.nans t [fval t a] with
  | some r => r
  | none =>
    match fval t a with
    | .inf _ => n.inv t
    | .fin s m e =>
      let d := (-e).toNat
      let r := if 0 ≤ e then 0 else (m % 2 ^ (d + 1)) * 2 ^ (400 - d)
      let u := r % fxOne
      if u = 0 then { x := withSign t s 0 }
      else
        let neg := s != decide (fxOne < r)
        if u = fxOne / 2 then fOne t neg
        else n.event t (roundFx t rm neg (fxSinPi (if fxOne / 2 < u then fxOne - u else u)) 0)
    | _ => n.inv t

/-- FCOSPI. [UNVERIFIED, log 86] -/
def fcospi (n : FEnv) (t rm a : Nat) : FRes :=
  match n.nans t [fval t a] with
  | some r => r
  | none =>
    match fval t a with
    | .inf _ => n.inv t
    | .fin _ m e =>
      let d := (-e).toNat
      let r := if 0 < e then 0 else if e = 0 then (m % 2) * fxOne else (m % 2 ^ (d + 1)) * 2 ^ (400 - d)
      let r := if fxOne < r then 2 * fxOne - r else r
      if r = 0 then fOne t false
      else if r = fxOne then fOne t true
      else if r = fxOne / 2 then { x := 0 }
      else if r < fxOne / 2 then n.event t (roundFx t rm false (fxSinPi (fxOne / 2 - r)) 0)
      else n.event t (roundFx t rm true (fxSinPi (r - fxOne / 2)) 0)
    | _ => n.inv t

end Sys2Proof.Machine
end

