-- ==== Sys2Proof/Machine/Eval.lean ====
section
/-! DEFINITION. The tile evaluator: what an element of a node is, the evaluation of a node and of the nodes it depends on,
and forcing (11 R314 to R328, 12 R352, R364, R365, 18 R500 to R506). -/
namespace Sys2Proof.Machine

/-- A fault met in evaluating a node: inner cause, EVENT and ADDR. -/
structure NFault where
  cause : Nat
  event : Nat := 0
  addr  : Word := 0
  deriving DecidableEq, Repr

/-! ## Reading as an engine reads (10 R299) -/

/-- Bytes of the group's window or of the virtual device, and whether they are uncorrectable. -/
def State.tileBytes (s : State) (gk : Nat) (spad : Bool) (a : Int) (n : Nat) : Except NFault (List Byte × Bool) :=
  let g := s.group gk
  if spad then
    if s.winMode gk a.toNat = some .spad then .ok (s.peekWinN gk a.toNat n, s.winBad gk a.toNat n)
    else .error { cause := 0x0f, addr := BitVec.ofInt 64 a }
  else
    let vdn := (s.task g.task).vd
    let va := (a % ((2 ^ 64 : Nat) : Int)).toNat
    if 2 ^ 57 ≤ va + n - 1 then .error { cause := 2, addr := BitVec.ofNat 64 va }
    else if !(s.vd vdn).mapsAll va n then .error { cause := 1, addr := BitVec.ofNat 64 va }
    else if !(s.vd vdn).allows va n 0 then .error { cause := 2, addr := BitVec.ofNat 64 va }
    else .ok (s.peekVA vdn va n, s.poisoned vdn va n)

/-- An element's pattern. One that is not inside reads as zero (R310), which for CB4 is the index of level 0. A poisoned
float is the POISON event NaN in event mode, and any other poisoned element an ECC_UE (12 R352). -/
def State.tileElem (s : State) (gk : Nat) (env : FEnv) (t : Tensor) (i : List Nat) : Except NFault Nat :=
  let g := s.group gk
  match t.linear i with
  | none => .ok (if t.fmt = 12 then 7 else 0)
  | some l =>
    match s.tileBytes gk t.spad (t.addrOf l) (elemBytes t.fmt) with
    | .error e => .error e
    | .ok (bs, bad) =>
      if bad then
        if env.evm && floatType t.fmt && !(s.task g.task).hdr.shadow then .ok (newNaN t.fmt 7 env.pc) else .error { cause := 3, addr := BitVec.ofInt 64 (t.addrOf l) }
      else .ok (if t.fmt = 12 then leNat bs / 16 ^ (l % 2).toNat % 16 else leNat bs)

/-- Is an element uncorrectable data that poisons what it feeds: a float, in event mode (12 R352)? -/
def State.tilePoison (s : State) (gk : Nat) (env : FEnv) (t : Tensor) (i : List Nat) : Bool :=
  env.evm && floatType t.fmt && (match t.linear i with
    | none => false
    | some l =>
      match s.tileBytes gk t.spad (t.addrOf l) (elemBytes t.fmt) with
      | .ok (_, bad) => bad
      | .error _ => false)

/-- A little-endian field at an address of an identifier's kind. -/
def State.tileField (s : State) (gk : Nat) (spad : Bool) (a n : Nat) : Except NFault Nat :=
  match s.tileBytes gk spad a n with
  | .error e => .error e
  | .ok (bs, bad) => if bad then .error { cause := 3, addr := BitVec.ofNat 64 a } else .ok (leNat bs)

/-- The block scale and the superblock scale of a CB4 view element (R311); both zero outside. -/
def State.tileScales (s : State) (gk : Nat) (t : Tensor) (i : List Nat) : Except NFault (Nat × Nat) :=
  match t.coords i with
  | none => .ok (0, 0)
  | some j =>
    match s.tileField gk t.spad (t.scaleqAt j) 1, s.tileField gk t.spad (t.scalesAt j) 4 with
    | .error e, _ => .error e
    | _, .error e => .error e
    | .ok q, .ok v => .ok (q, v)

/-! ## Elements (R317, 18 R502) -/

/-- TEW: one lane of the instruction that OP names, with RNE and wrapping. -/
def tewElem (env : FEnv) (t op a b : Nat) : FRes :=
  if floatType t then
    match op with
    | 1 => fadd env t 0 a b
    | 2 => fsub env t 0 a b
    | 3 => fmul env t 0 a b
    | 4 => fminmax env t false a b
    | 5 => fminmax env t true a b
    | 6 => fminmax env t true a 0
    | 10 => fexp2 env t 0 a
    | 11 => flog2 env t 0 a
    | 12 => frcp env t a
    | 13 => frsq env t a
    | 14 => fdiv env t 0 a b
    | 15 => fsqrt env t 0 a
    | _ => { x := a }
  else
    { x := match op with
      | 1 => IntOp.result .add false t a b 0
      | 2 => IntOp.result .sub false t a b 0
      | 3 => IntOp.result .mul false t a b 0
      | 4 => IntOp.result .min false t a b 0
      | 5 => IntOp.result .max false t a b 0
      | 6 => IntOp.result .max false t a 0 0
      | 7 => a &&& b
      | 8 => a ||| b
      | 9 => a ^^^ b
      | _ => a }

/-- An integer accumulator as an INT64 pattern. -/
def int64Of (v : Int) : Nat := wrapTo 64 v

/-- Sum of floats in FP64, in list order (R364); events beside it. -/
def sumFloats (env : FEnv) (t : Nat) (xs : List Nat) : Nat × List Nat :=
  xs.foldl (fun p x =>
    match fval 11 p.1 with
    | .snan | .qnan _ _ => p
    | _ =>
      let y := cvtFF env 11 t 0 x
      let r := fadd env 11 0 p.1 y.x
      (r.x, p.2 ++ [y.ev, r.ev])) (0, [])

/-- The exact value of a CB4 element converted to an integer type, rounded once with RNE, saturating (R317). -/
def cbToInt (dt i q sv : Nat) : FRes :=
  match fval 10 sv with
  | .fin g m e =>
    let l := cbLevel i
    let num := l.natAbs * q * m * 2 ^ (e + 160).toNat
    let den := 32385 * 2 ^ 160
    let neg := g != decide (l < 0)
    let k := num / den
    let r := num % den
    let k := if den < 2 * r || (2 * r = den && k % 2 = 1) then k + 1 else k
    let v : Int := if neg then -(k : Int) else k
    if intMax dt < v then { x := wrapTo (typeWidth dt) (intMax dt), ev := 6 }
    else if v < intMin dt then { x := wrapTo (typeWidth dt) (intMin dt), ev := 6 }
    else { x := wrapTo (typeWidth dt) v }
  | .inf g =>
    let l := cbLevel i
    if l = 0 || q = 0 then { x := 0, ev := 1 }
    else { x := wrapTo (typeWidth dt) (if g != decide (l < 0) then intMin dt else intMax dt), ev := 6 }
  | .snan => { x := 0, ev := 1 }
  | .qnan _ _ => { x := 0, ev := 6 }

/-- Run a reader over a list. -/
def mapElems {α : Type} (f : α → Except NFault Nat) : List α → Except NFault (List Nat)
  | [] => .ok []
  | x :: r =>
    match f x with
    | .error e => .error e
    | .ok v =>
      match mapElems f r with
      | .error e => .error e
      | .ok vs => .ok (v :: vs)

/-- The chunks of a CB4 product: for each, the weights' scales and the exact sum (R365). [DEDUCED, log 83] -/
def State.cbChunks (s : State) (gk : Nat) (env : FEnv) (a b : Tensor) (m n kk sa : Nat) :
    List Nat → Nat × List Nat → Except NFault (Nat × List Nat)
  | [], acc => .ok acc
  | c :: cs, acc =>
    let ks := (List.range (min 64 (kk - 64 * c))).map (· + 64 * c)
    match mapElems (fun k => s.tileElem gk env b [k, n, 0, 0]) ks, mapElems (fun k => s.tileElem gk env a [k, m, 0, 0]) ks,
        s.tileScales gk b [64 * c, n, 0, 0] with
    | .ok ws, .ok as_, .ok (q, sv) =>
      let p : Int := ((ws.zip as_).map (fun x => cbLevel x.1 * intVal 0 x.2)).foldl (· + ·) 0
      let f := cbFactor env sv sa
      let r := cbAccumulate env acc.1 (p * q) f.x
      s.cbChunks gk env a b m n kk sa cs (r.1, acc.2 ++ f.ev :: r.2)
    | .error e, _, _ => .error e
    | _, .error e, _ => .error e
    | _, _, .error e => .error e

/-- What a poisoned operand makes of an element: POISON, in FP64 for a sum, as the destination's type holds it (12 R351, R352). [DEDUCED, log 105] -/
def Node.poisoned (nd : Node) (env : FEnv) : Nat × List Nat :=
  let p := env.poison 11
  let c := convert env nd.d.fmt 11 0 true p.x
  (c.x, [p.ev, c.ev])

/-- One destination element of a node that is no TCVT to CB4, from operands that are not poisoned: its pattern and the events met. -/
def State.nodeClean (s : State) (gk : Nat) (nd : Node) (env : FEnv) (i : List Nat) : Except NFault (Nat × List Nat) :=
  let d := nd.d
  let s1 := nd.s1.getD {}
  let s2 := nd.s2.getD {}
  let clip := fun (t : Tensor) => i.mapIdx (fun k x => if t.vext.getD k 1 = 1 then 0 else x)
  match nd.op with
  | 0 => (s.tileElem gk env s1 i).map (fun v => (v, []))
  | 2 =>
    (match s.tileElem gk env s1 (clip s1), (if nd.s2.isSome then s.tileElem gk env s2 (clip s2) else .ok 0) with
     | .ok a, .ok b => let r := tewElem env d.fmt nd.sub a b; .ok (r.x, [r.ev])
     | .error e, _ => .error e
     | _, .error e => .error e)
  | 4 =>
    (match s.tileElem gk env s1 i with
     | .error e => .error e
     | .ok v =>
       if s1.fmt = 12 then
         (match s.tileScales gk s1 i with
          | .error e => .error e
          | .ok (q, sv) =>
            let r := if floatType d.fmt then cbDecode env d.fmt 0 v q sv else cbToInt d.fmt v q sv
            .ok (r.x, [r.ev]))
       else let r := convert env d.fmt s1.fmt 0 nd.sat v; .ok (r.x, [r.ev]))
  | 3 =>
    (match mapElems (fun k => s.tileElem gk env s1 (i.mapIdx (fun n x => if n = nd.sub then k else x)))
        (List.range (s1.vext.getD nd.sub 1)) with
     | .error e => .error e
     | .ok xs =>
       if floatType s1.fmt then
         let r := sumFloats env s1.fmt xs
         let c := convert env d.fmt 11 0 true r.1
         .ok (c.x, r.2 ++ [c.ev])
       else
         let c := convert env d.fmt 6 0 true (int64Of ((xs.map (intVal s1.fmt)).foldl (· + ·) 0))
         .ok (c.x, [c.ev]))
  | _ =>
    let n := i.getD 0 0
    let m := i.getD 1 0
    let kk := s1.vext.getD 0 1
    let accT := if s1.fmt = 0 && s2.fmt = 0 then 6 else 11
    match (if nd.acc then s.tileElem gk env d i else .ok 0) with
    | .error e => .error e
    | .ok p =>
      let prior : FRes := if nd.acc then convert env accT d.fmt 0 true p else { x := 0 }
      let start := prior.x
      let acc : Except NFault (Nat × List Nat) :=
        if s2.fmt = 12 then
          (match (if s1.scales = 0 then .ok 0x3f800000 else s.tileField gk s1.spad (s1.scales.toNat + 4 * m) 4) with
           | .error e => .error e
           | .ok sa => s.cbChunks gk env s1 s2 m n kk sa (List.range ((kk + 63) / 64)) (start, [prior.ev]))
        else
          (match mapElems (fun k => s.tileElem gk env s1 [k, m, 0, 0]) (List.range kk),
              mapElems (fun k => s.tileElem gk env s2 [k, n, 0, 0]) (List.range kk) with
           | .error e, _ => .error e
           | _, .error e => .error e
           | .ok as_, .ok bs =>
             if accT = 6 then
               .ok (int64Of (((as_.zip bs).map (fun x => intVal 0 x.1 * intVal 0 x.2)).foldl (· + ·) (sext 64 start)), [prior.ev])
             else
               .ok ((as_.zip bs).foldl (fun p x => let r := fmaAccumulate env s1.fmt p.1 x.1 x.2; (r.1, p.2 ++ r.2)) (start, [prior.ev])))
      match acc with
      | .error e => .error e
      | .ok (v, evs) => let c := convert env d.fmt accT 0 true v; .ok (c.x, evs ++ [c.ev])

/-- One destination element of a node that is no TCVT to CB4: its pattern and the events met. -/
def State.nodeElem (s : State) (gk : Nat) (nd : Node) (env : FEnv) (i : List Nat) : Except NFault (Nat × List Nat) :=
  (s.nodeClean gk nd env i).map (fun r => if env.evm && (nd.reads i).any (fun p => s.tilePoison gk env p.1 p.2) then nd.poisoned env else r)

/-! ## Writes of a node -/

/-- A byte string, or a nibble of a byte, at an address of the destination. -/
structure TWrite where
  addr : Int
  bs   : List Byte := []
  nib  : Option (Bool × Nat) := none
  deriving DecidableEq, Repr

/-- The write of an element; none when the element is not inside (R310). -/
def Tensor.writeOf (t : Tensor) (i : List Nat) (x : Nat) : List TWrite :=
  match t.linear i with
  | none => []
  | some l =>
    if t.fmt = 12 then [{ addr := t.addrOf l, nib := some (decide (l % 2 = 1), x % 16) }]
    else [{ addr := t.addrOf l, bs := leBytes (elemBytes t.fmt) x }]

/-- The greatest finite magnitude of values, as m × 2^e. -/
def greatest (xs : List FVal) : Nat × Int :=
  xs.foldl (fun b x => match x with
    | .fin _ m e => if ltVal (.fin false b.1 b.2) (.fin false m e) then (m, e) else b
    | _ => b) (0, 0)

/-- The exact value of a source element of TCVT, times 32,385 when the source is CB4. -/
def State.cbSource (s : State) (gk : Nat) (env : FEnv) (t : Tensor) (i : List Nat) : Except NFault FVal :=
  match s.tileElem gk env t i with
  | .error e => .error e
  | .ok v =>
    if t.fmt = 12 then
      match s.tileScales gk t i with
      | .error e => .error e
      | .ok (q, sv) =>
        let l := cbLevel v
        match fval 10 sv with
        | .fin g m e => .ok (.fin (g != decide (l < 0)) (l.natAbs * q * m) e)
        | .inf g => .ok (if l = 0 || q = 0 then .snan else .inf (g != decide (l < 0)))
        | w => .ok w
    else if floatType t.fmt then .ok (fval t.fmt v)
    else .ok (.fin (decide (intVal t.fmt v < 0)) (intVal t.fmt v).natAbs 0)

/-- Run a reader of values over a list. -/
def mapVals {α : Type} (f : α → Except NFault FVal) : List α → Except NFault (List FVal)
  | [] => .ok []
  | x :: r =>
    match f x with
    | .error e => .error e
    | .ok v =>
      match mapVals f r with
      | .error e => .error e
      | .ok vs => .ok (v :: vs)

/-- TCVT to CB4 over a box of whole superblocks: indices, block scales, superblock scales and events (12 R359, R360). -/
def State.cbEncodeBox (s : State) (gk : Nat) (nd : Node) (env : FEnv) (box : TBox) : Except NFault (List TWrite × List Nat) :=
  let d := nd.d
  let s1 := nd.s1.getD {}
  let dn := if s1.fmt = 12 then 32385 else 1
  let ins := (boxElems box).filter (fun i => (d.coords i).isSome)
  match mapVals (s.cbSource gk env s1) ins with
  | .error e => .error e
  | .ok xs =>
    let ps := (ins.zip xs).map (fun p => ((d.coords p.1).getD [], p.1, p.2))
    let superKey := fun (j : List Nat) => d.scalesAt j
    let blockKey := fun (j : List Nat) => d.scaleqAt j
    let ss := ((ps.map (fun p => superKey p.1)).eraseDups).map (fun k =>
      let g := greatest ((ps.filter (fun p => superKey p.1 = k)).map (·.2.2))
      (k, cbScale g.1 g.2 dn))
    let sOf := fun (k : Nat) => ((ss.find? (fun p => p.1 = k)).map (·.2)).getD 0
    let qs := ((ps.map (fun p => (blockKey p.1, superKey p.1))).eraseDups).map (fun k =>
      let g := greatest ((ps.filter (fun p => blockKey p.1 = k.1)).map (·.2.2))
      match fval 10 (sOf k.2) with
      | .fin _ n f => (k.1, (cbBlockScale g.1 g.2 n f dn).1)
      | _ => (k.1, 0))
    let qOf := fun (k : Nat) => ((qs.find? (fun p => p.1 = k)).map (·.2)).getD 0
    let rs := ps.map (fun p =>
      let c := cbEncodeVal p.2.2 dn (qOf (blockKey p.1)) (sOf (superKey p.1))
      (p.2.1, c.1, if s.tilePoison gk env s1 p.2.1 then 7 else c.2))
    .ok (rs.flatMap (fun r => d.writeOf r.1 r.2.1)
           ++ ss.map (fun p => { addr := p.1, bs := leBytes 4 p.2 }) ++ qs.map (fun p => { addr := p.1, bs := leBytes 1 p.2 }),
         rs.map (·.2.2))

/-- Can an engine write these bytes: the fault of the first that it cannot (R327). -/
def State.tileWriteFault (s : State) (gk : Nat) (spad : Bool) (ws : List TWrite) : Option NFault :=
  let g := s.group gk
  let v := s.vd (s.task g.task).vd
  ws.findSome? (fun w =>
    let n := max 1 w.bs.length
    if spad then
      if s.winMode gk w.addr.toNat = some .spad then none else some { cause := 0x0f, addr := BitVec.ofInt 64 w.addr }
    else
      let va := (w.addr % ((2 ^ 64 : Nat) : Int)).toNat
      if 2 ^ 57 ≤ va + n - 1 then some { cause := 2, addr := BitVec.ofNat 64 va }
      else if !v.mapsAll va n then some { cause := 1, addr := BitVec.ofNat 64 va }
      else if !v.allows va n 1 then some { cause := 2, addr := BitVec.ofNat 64 va }
      else if s.faceDown (s.task g.task).vd va n then some { cause := 3, addr := BitVec.ofNat 64 va }
      else none)

/-- Perform an engine write of a group (10 R298). -/
def State.tileWrite (s : State) (gk : Nat) (spad : Bool) (writer : Option Nat) (scope : Nat) (w : TWrite) : State :=
  let vdn := (s.task (s.group gk).task).vd
  let va := (w.addr % ((2 ^ 64 : Nat) : Int)).toNat
  let bs := match w.nib with
    | none => w.bs
    | some (hi, x) =>
      let old := (if spad then s.peekWin gk w.addr.toNat else ((s.peekVA vdn va 1).headD 0)).toNat
      [BitVec.ofNat 8 (if hi then old % 16 + 16 * x else old / 16 * 16 + x)]
  if spad then s.pokeWinL gk w.addr.toNat bs else s.pokeVA vdn writer scope va bs

/-! ## Who uses a granule (09 R277, R278) -/

/-- K and N of a plane format. -/
def planeK (fmt : Nat) : Nat :=
  match fmt with
  | 0 | 12 => 128
  | 8 | 9 => 64
  | 10 => 32
  | _ => 16

/-- The bytes of the elements of a plane. -/
def planeBytes (fmt : Nat) : Nat := planeK fmt * planeK fmt * halfSize fmt / 2

/-- Does a course hold its group's bow? -/
def State.holdsBow (s : State) (cid : Nat) : Bool := (s.group (s.course cid).group).holder = some (s.course cid).c

/-- The window of a window or cluster location that an array operand lies in. -/
def State.arrayWin (s : State) (cid a : Nat) : Nat × Nat :=
  let gk := (s.course cid).group
  (if a.testBit 31 then (s.peerGroup gk (bits a 23 21)).getD gk else gk, bits a 20 0)

/-- The granules of n bytes from an offset on. -/
def granulesAt (off n : Nat) : List Nat := if n = 0 then [] else (List.range ((off + n - 1) / 4096 + 1 - off / 4096)).map (· + off / 4096)

/-- The operands of an array instruction in scratchpad, for the format of the stationary plane: address and length (11 R332). -/
def ArrayOp.operands (fmt : Nat) : ArrayOp → List (Nat × Nat)
  | .lstat type sa sb => (sa, planeBytes type) :: sb.toList.map (·, 768)
  | .mstrm type _ sa _ rows _ sc => (sa, rows * planeK fmt * typeSize type) :: sc.toList.map (·, 4 * rows)
  | .mdrain type _ _ _ sa _ rows _ cols => [(sa, rows * cols * typeSize type)]
  | _ => []

/-- The operands of an array instruction of a course. -/
def State.arrayOperands (s : State) (cid : Nat) (op : ArrayOp) : List (Nat × Nat) :=
  let g := s.group (s.course cid).group
  op.operands ((s.cell (cellKey g.bench g.cell)).plane.fmt.getD 0)

/-- The window bytes that lie at an offset of a cell's banks, in the group that leases the bank. -/
def State.bankRange (s : State) (bench cell off size : Nat) : Option MRange :=
  (s.bankOf bench cell (off / 131072)).owner.map (fun gk =>
    let o := (s.group gk).banks.idxOf (off / 131072) * 131072 + off % 131072
    { win := true, id := gk, lo := o, hi := (o + size : Nat) })

/-- The window bytes that a pending instruction of a course still has to reach: of an access or a request of this module, or of an array
instruction. -/
def State.pendRanges (s : State) (cid : Nat) (p : Pend) : List MRange :=
  match p.act with
  | .access a => a.items.filterMap (fun it => match it.loc with
    | .win g off => (s.peerGroup (s.course cid).group g).map (fun gk => { win := true, id := gk, lo := off, hi := (off + a.size : Nat) })
    | _ => none)
  | .remote _ (.bankLoad b c n offs) _ _ _ => offs.filterMap (fun x => s.bankRange b c x.2 n)
  | .remote _ (.bankStore _ b c n vals) _ _ _ => vals.filterMap (fun x => s.bankRange b c x.2.1 n)
  | .array op => (s.arrayOperands cid op).map (fun x =>
      let w := s.arrayWin cid x.1
      { win := true, id := w.1, lo := w.2, hi := (w.2 + x.2 : Nat) })
  | _ => []

/-- Does a course access to some window bytes that issued before a point still have to be performed (09 R278)? An array instruction that
waits for the bow is none yet. -/
def State.awaits (s : State) (r : MRange) (before : Option Nat) : Bool :=
  s.courses.any (fun c => c.2.pends.any (fun p =>
    before.all (p.id < ·) && !(p.onArray && !s.holdsBow c.1) && (s.pendRanges c.1 p).any r.meets))

/-- Has every course access to a granule that issued before the instruction `before`, or before now, been performed? -/
def State.granuleQuiet (s : State) (gk gran : Nat) (before : Option Nat) : Bool :=
  !s.awaits { win := true, id := gk, lo := (gran * 4096 : Nat), hi := (gran * 4096 + 4096 : Nat) } before

/-- Can an engine command take a granule: no other command holds it, and the courses' accesses are performed? -/
def State.granuleFree (s : State) (gk gran : Nat) (before : Option Nat) : Bool :=
  (match s.holder gk gran with
   | none => s.granuleQuiet gk gran before
   | some .free => true
   | _ => false)

/-- flip() to engine: buffered stores are applied, the owner is set; a granule that OWNSET took is not flipped again. -/
def State.flipToEngine (s : State) (gk gran : Nat) (h : Holder) : State :=
  let s := match s.holder gk gran with
    | none => s.applyGranule gk gran
    | some _ => s
  s.setHolder gk gran (some h)

/-- flip() to course. -/
def State.flipToCourse (s : State) (gk gran : Nat) : State := s.setHolder gk gran none

/-- The bank of a group's window at an offset. -/
def State.winBank (s : State) (gk off : Nat) : Option (Nat × Nat × Bank) :=
  let g := s.group gk
  match g.place off with
  | some o => some (cellKey g.bench g.cell, o / 131072, s.bankOf g.bench g.cell (o / 131072))
  | none => none

/-- Does a window offset lie in a FIFO-mode bank? -/
def State.fifoOff (s : State) (gk off : Nat) : Bool := ((s.winBank gk off).map (fun b => decide (b.2.2.mode = BankMode.fifo))).getD false

/-- The granules of a window range that an engine must own: those of FIFO banks have no owner. -/
def State.ownGranules (s : State) (gk off n : Nat) : List Nat := (granulesAt off n).filter (fun i => !s.fifoOff gk (i * 4096))

/-- The granules that an instruction takes for an engine: group and granule. -/
def EngineOp.takes (s : State) (gk : Nat) : EngineOp → List (Nat × Nat)
  | .own true gs => gs.map (fun i => (gk, i))
  | .copy c _ off n =>
    if c.out && c.fill.isSome then []
    else (if c.recv.isEmpty then [c.group] else c.recv).flatMap (fun r => (s.ownGranules r off n).map (fun i => (r, i)))
  | _ => []

/-- Does an earlier instruction of a group still wait to take one of these granules? Engine commands take them in issue order (09 R277). [DEDUCED, log 104] -/
def State.takenAhead (s : State) (gk pend : Nat) (need : List (Nat × Nat)) : Bool :=
  (s.coursesOf gk).any (fun c => (s.course c).pends.any (fun p => decide (p.id < pend) && (match p.act with
    | .engine op => (op.takes s gk).any need.contains
    | _ => false)))

/-- The granules of window ranges, in ascending order. -/
def granulesOf (rs : List MRange) : List Nat :=
  ((rs.filter (·.win)).flatMap (fun r =>
    (List.range ((r.hi.toNat - 1) / 4096 + 1 - r.lo.toNat / 4096)).map (· + r.lo.toNat / 4096))).foldl insertNat []

/-- The elements that a node computes for a destination box: those of the box that are not done; for TCVT to CB4 all of it. -/
def Node.todo (n : Node) (box : TBox) : List (List Nat) :=
  match n.done with
  | some b =>
    let left := (boxElems box).filter (fun i => !inBox b i)
    if n.op = 4 && n.d.fmt = 12 && !left.isEmpty then boxElems box else left
  | none => boxElems box

/-- The granules that a node touches for a destination box: of the elements that it computes, and of what they are computed from, the
scales among them (R327). [DEDUCED, log 89] -/
def NodeRef.granules (r : NodeRef) (box : TBox) : List Nat :=
  granulesOf ((r.n.todo box).flatMap (fun i => r.n.d.touch false (r.idOf r.n.d) i
    ++ (r.n.reads i).flatMap (fun p => p.1.touch (r.n.rowScales p.1) (r.idOf p.1) p.2)))

/-! ## Evaluation -/

/-- What asks for an evaluation: the PC that a parked node's NEXTPC holds, the scope of its writes, the course whose demand it is, and the
number of the instruction in the order of issue, none for what follows every instruction (R325, R327, 09 R277, 10 R288). -/
structure Asker where
  pc     : Word
  scope  : Nat := 3
  course : Option Nat := none
  issued : Option Nat := none
  deriving DecidableEq, Repr

/-- Take the next segment number of a cell (18 R517). -/
def State.nextSeg (s : State) (bench cell : Nat) : Nat × State :=
  let k := cellKey bench cell
  let c := s.cell k
  (c.segSeq, s.setCell k { c with segSeq := (c.segSeq + 1) % 2 ^ 32 })

/-- Park a node (R327, 06 R168, R170); the nodes of a group are its quarter of the cell's (23 R537). -/
def State.parkNode (s : State) (r : NodeRef) (f : NFault) (box : TBox) (a : Asker) : State :=
  let g := s.group r.gk
  let q := s.nextSeg g.bench g.cell
  let s := q.2
  let unit := BitVec.ofNat 64 (r.n.batch * 2 ^ 24 + g.bench * 4096 + g.cell * 256 + g.index * 64 + r.idx)
  let rec_ : PRec := { s.recBase g.task with
    kind := 1, cause := 0x10, event := f.event, late := true, prof := r.n.prof, unit, addr := f.addr, pc := r.n.pc
    nextpc := a.pc, bpc := r.n.pcOther, cx := BitVec.ofNat 64 (f.cause * 2 ^ 56 + q.1), uA := r.gk, uB := r.idx }
  let stop := fun (s : State) (k : Option Nat) =>
    let g := s.group r.gk
    s.setGroup r.gk { g with nodes := tmod g.nodes r.idx (fun n => { n with
      redo := some (box, a.pc, a.scope)
      st := match k with
        | some k => .parked (k / 16384) (k % 16384)
        | none => .evaluating }) }
  s.parkUnit (dieOf g.bench) rec_ (f.cause = 3) stop (fun s st => s.killNode r.gk r.idx st)

/-- Does the done box of a node hold its whole destination? Elements without storage do not count: no demand reaches them
(R310, R325). [DEDUCED, log 90] -/
def Node.isWhole (n : Node) : Bool := match n.done with
  | some b => decide (b = hull b n.d.whole) || (match boxOn n.d n.d.whole n.d with
    | some x => decide (b = hull b x)
    | none => false)
  | none => boxEmpty n.d.whole

/-- The nodes that an evaluation of a group's nodes may depend on: those of its cell, or of its image. -/
def State.nodesNear (s : State) (gk : Nat) : List NodeRef :=
  let g := s.group gk
  if g.saved then s.groupNodes gk else s.cellNodes g.bench g.cell

/-- Compute the elements of a destination box that are not done, and write them (R325, R327). The answer says whether it
was done: it waits while a granule is held by another command, or an earlier instruction is to take one (09 R277), and parks the node at a
fault. A write of global memory escapes (10 R307). -/
def State.computeNode (s : State) (r : NodeRef) (box : TBox) (a : Asker) : State × Bool :=
  let g := s.group r.gk
  let grans := r.granules box
  let todo := r.n.todo box
  if todo.isEmpty then (s.setGroup r.gk { g with nodes := if r.n.isWhole then tdel g.nodes r.idx else g.nodes }, true)
  else if !grans.all (fun i => s.granuleFree r.gk i a.issued) || (a.issued.map (fun n => s.takenAhead r.gk n (grans.map (r.gk, ·)))).getD false
    then (s, false)
  else
    let s := grans.foldl (fun s n => s.flipToEngine r.gk n (.node r.gk r.idx)) s
    let env : FEnv := { evm := (s.task g.task).hdr.evm, pc := r.n.pc }
    let res : Except NFault (List TWrite) :=
      if r.n.op = 4 && r.n.d.fmt = 12 then
        (match s.cbEncodeBox r.gk r.n env box with
         | .error e => .error e
         | .ok (ws, evs) =>
           let e := (evs.find? (fun v => v ≠ 0 && r.n.trapmask.getLsbD v)).getD 0
           if e ≠ 0 then .error { cause := 4, event := e } else .ok ws)
      else todo.foldl (fun acc i => match acc with
        | .error e => .error e
        | .ok ws =>
          match s.nodeElem r.gk r.n env i with
          | .error e => .error e
          | .ok (v, evs) =>
            let order := [7, 1, 2, 3, 4, 8, 6, 5]
            let e := (order.find? (fun v => r.n.trapmask.getLsbD v && evs.contains v)).getD 0
            if e ≠ 0 then .error { cause := 4, event := e } else .ok (ws ++ r.n.d.writeOf i v)) (.ok [])
    let back := fun (s : State) => grans.foldl (fun s n => s.flipToCourse r.gk n) s
    match res with
    | .error e =>
      if e.cause = 3 then ((back s).consumeUE r.gk (.node r.gk r.idx) e.addr (fun s => s.parkNode r e box a), false)
      else ((back s).parkNode r e box a, false)
    | .ok ws =>
      match s.tileWriteFault r.gk r.n.d.spad ws with
      | some e => ((back s).parkNode r e box a, false)
      | none =>
        let s := back (ws.foldl (fun s w => s.tileWrite r.gk r.n.d.spad (some (a.course.getD r.n.course)) a.scope w) s)
        let s := match ws with
          | w :: _ => if r.n.d.spad then s else s.escape r.gk 3 (w.addr % ((2 ^ 64 : Nat) : Int)).toNat
          | [] => s
        let g := s.group r.gk
        let n := { r.n with done := some box, redo := none }
        (s.setGroup r.gk { g with nodes := if n.isWhole then tdel g.nodes r.idx else tset g.nodes r.idx n }, true)

/-- Evaluate a node for a destination box, after every node it depends on; `complete` evaluates all of each (R320, R325).
The answer says whether everything needed is done. -/
def State.evalNode : Nat → State → Nat → Nat → TBox → Bool → Asker → State × Bool
  | 0, s, _, _, _, _, _ => (s, false)
  | fuel + 1, s, gk, idx, box, complete, a =>
    let g := s.group gk
    match tget g.nodes idx with
    | none => (s, true)
    | some n =>
      if n.st ≠ .pending then (s, false)
      else
        let all := s.nodesNear gk
        let r : NodeRef := { gk, idx, vd := (s.task g.task).vd, n }
        let want := if complete then n.d.whole else n.widen box
        let want := match n.done with
          | some b => hull b want
          | none => want
        if boxEmpty want then (s, true)
        else
          let deps := (r.deps all want)
          let go := deps.foldl (fun (p : State × Bool) q =>
            let e := p.1.evalNode fuel q.1.gk q.1.idx q.2 complete a
            (e.1, p.2 && e.2)) (s, true)
          if !go.2 then go
          else
            match tget (go.1.group gk).nodes idx with
            | none => (go.1, true)
            | some n => go.1.computeNode { r with n } want a

/-- Force a node and the nodes it depends on, completely, at quarry scope (R318, R320, 18 R506). -/
def State.forceNode (s : State) (gk idx : Nat) (a : Asker) : State × Bool := s.evalNode 70 gk idx [] true a

/-- Force nodes in the order of their appends. -/
def State.forceAll (s : State) (rs : List NodeRef) (a : Asker) : State × Bool :=
  (sortBy (fun a b => a.n.seq ≤ b.n.seq) rs).foldl (fun (p : State × Bool) r =>
    let e := p.1.forceNode r.gk r.idx a
    (e.1, p.2 && e.2)) (s, true)

/-- Force every pending node of a cell that a write to some ranges overlaps (R318). -/
def State.forceRanges (s : State) (bench cell : Nat) (rs : List MRange) (a : Asker) : State × Bool :=
  s.forceAll ((s.cellNodes bench cell).filter (fun n => n.allRanges.any (fun x => rs.any x.meets))) a

end Sys2Proof.Machine
end

