-- ==== Sys2Proof/Machine/Fabric.lean ====
section
/-! DEFINITION. Sending over the fabric: ports, routes, requests, responses and tags (02 R44 to R60). What arrives is in
Links.lean. -/
namespace Sys2Proof.Machine

/-! ## Ports and routes -/

/-- Is a Gliron port ready (01 R33)? -/
def State.portReady (s : State) (p : Nat) : Bool := s.plat.readyIo.getLsbD (8 + p)

/-- FAB_CFG.TMO as it acts, in µs (R65). -/
def Fabric.timeout (f : Fabric) : Nat := min 100000 (max 20 f.tmo.toNat)

/-- The parts of a route literal (R48). -/
def routeKind (r : Word) : Nat := (r.extractLsb' 60 4).toNat
def routePort (r : Word) : Nat := (r.extractLsb' 29 3).toNat
def routeBench (r : Word) : Nat := (r.extractLsb' 23 6).toNat
def routeCell (r : Word) : Nat := (r.extractLsb' 19 4).toNat
def routeTurns (r : Word) : List Nat := (List.range (r.extractLsb' 56 4).toNat).map (fun i => (r.extractLsb' (32 + 2 * i) 2).toNat)

/-- The route to a module by the module route table, none when it is dead (R51, R54). -/
def State.moduleRoute (s : State) (modid : Nat) : Option Word :=
  let r := tgetD s.fab.routes modid 0
  if badRoute false false r || !s.portReady (routePort r) then none else some r

/-- Is a route in an instruction dead at issue (R51)? -/
def State.routeDead (s : State) (r : Word) : Bool := routeKind r = 1 && !s.portReady (routePort r)

/-- The port a request leaves by after a turn at arrival port p (R50). -/
def turnPort (p turn : Nat) : Nat := 4 * (p / 4) + (p % 4 + (if turn = 0 then 2 else if turn = 1 then 1 else 3)) % 4

/-- A turn as a response takes it (R52). -/
def turnBack (t : Nat) : Nat := if t = 1 then 2 else if t = 2 then 1 else t

/-- Whole microseconds a request spent somewhere, at least one (R56). [DEDUCED, log 19] -/
def lifeSpent (ticks : Nat) : Nat := max 1 ((ticks + usTicks - 1) / usTicks)

/-! ## The link layer (R44 to R46) -/

/-- Bytes 0 to 247 of a flit (R44): header and payload. The payload's layout is not given. [DESIGN CHOICE, log 16] -/
def flitHead (f : Flit) : List Byte :=
  let route := f.req.elim ((f.resp.map (·.turns)).getD []) (·.turns)
  let turns := (List.range route.length).foldl (fun n i => n + route.getD i 0 * 2 ^ (4 + 2 * i)) route.length
  let src := f.req.elim ((f.resp.map (fun r => r.dst.toNat + r.die * 4096)).getD 0) (fun r => r.srcMod.toNat + r.srcDie * 4096)
  let tag := f.req.elim ((f.resp.map (fun r => r.rvd + r.tx * 64)).getD 0) (fun r => r.rvd + r.tx * 64)
  leBytes 1 f.kind.toNat ++ leBytes 1 (f.vc.toNat + (if f.cls then 4 else 0) + (if f.last then 8 else 0)) ++ leBytes 2 f.seq.toNat
    ++ leBytes 2 (f.ack.toNat + (if f.nak then 32768 else 0)) ++ leBytes 2 f.credit.toNat ++ leBytes 4 turns
    ++ leBytes 2 ((f.req.map (·.life)).getD 0) ++ leBytes 2 src ++ leBytes 4 tag ++ sliceB (Config.flitPayload { f with crc := none }) 0 228

/-- The 256 bytes of a flit: with the CRC that it has. -/
def flitWire (f : Flit) : List Byte := flitHead f ++ leBytes 8 (f.crc.elim (crc64 (flitHead f)) (·.toNat))

/-- Does the CRC of a flit match its bytes 0 to 247 (R46)? -/
def flitOk (f : Flit) : Bool := f.crc.all (fun x => x.toNat = crc64 (flitHead f))

/-- The 8 beats of a flit, the first sent first (R44). -/
def flitBeats (f : Flit) : List (List Byte) := (List.range 8).map (fun i => sliceB (flitWire f) (32 * i) 32)

/-- Bytes of data that a request or a response carries. -/
def reqData (r : FabReq) : Nat :=
  match r.op with
  | .copyWrite _ l _ => l.length
  | .enq _ l => l.length
  | .bankStore _ _ _ n vals => n * vals.length
  | .pkvset _ _ _ _ vals _ => 4 * vals.length
  | .faultEnq _ _ args _ _ => 8 * args.length
  | _ => 0
def respData (r : FabResp) : Nat := 8 * r.data.length

/-- Flits of a transaction with n bytes of data (R44). [DESIGN CHOICE, log 16] -/
def flitsOf (n : Nat) : Nat := n / 228 + 1

/-- The flits of a transaction: each has its header, and the last completes it (R44). -/
def flitsFor (n : Nat) (f : Flit) : List Flit := List.replicate (n - 1) { f with last := false } ++ [f]

/-- The buffers that a flit uses: those of its channel and class (R45). -/
def bufKey (vc : Nat) (cls : Bool) : Nat := 2 * vc + (if cls then 1 else 0)
def flitKey (f : Flit) : Nat := bufKey f.vc.toNat f.cls

/-- Are there credits for a flit: link control needs none; the peer has at least one buffer for each class of a channel (R45). [DESIGN CHOICE, log 16] -/
def Port.mayGo (q : Port) (f : Flit) : Bool :=
  f.kind = 3 || tgetD q.spent (flitKey f) 0 = 0 || decide (tgetD q.spent (flitKey f) 0 ≤ Config.vcBuffers (flitKey f))

/-- The CREDIT field of a flit returns what a port owes of the buffers of that flit's class, at most 15 of each channel (R44, R45). [DESIGN CHOICE, log 16] -/
def Port.credits (q : Port) (cls : Bool) : BitVec 16 :=
  BitVec.ofNat 16 ((List.range 4).foldl (fun n v => n + min 15 (tgetD q.give (bufKey v cls) 0) * 16 ^ v) 0)

/-- What is still owed then. -/
def Port.owing (q : Port) (cls : Bool) : FMap Nat :=
  (List.range 4).foldl (fun m v => tput 0 m (bufKey v cls) (tgetD q.give (bufKey v cls) 0 - 15)) q.give

/-- Count a discarded flit on a port (R56, R65). -/
def State.countDiscard (s : State) (p : Nat) : State :=
  let q := s.port p
  s.setPort p { q with discard := if q.discard = 4095 then 4095 else q.discard + 1 }

/-- A request pays, at each transmission, for the time it has spent here; none when its lifetime has run out (R56). -/
def OutFlit.paid (e : OutFlit) (now : Nat) : Option Flit :=
  match e.flit.req with
  | none => some e.flit
  | some r => if r.life ≤ lifeSpent (now - e.tick) then none else some { e.flit with req := some { r with life := r.life - lifeSpent (now - e.tick) } }

/-- Send waiting flits while the replay buffer has room, in order on each channel; the first that is out starts the 10 µs within which an
acknowledgement advances (R45 to R47, R53). [DESIGN CHOICE, log 16] -/
def State.pump : Nat → State → Nat → State
  | 0, s, _ => s
  | n + 1, s, p =>
    let q := s.port p
    if 512 ≤ q.replay.length || q.retraining || !s.portReady p then s
    else
      match q.waiting.findIdx? (fun e => q.mayGo e.flit) with
      | none => s
      | some i =>
        match q.waiting[i]? with
        | none => s
        | some e =>
          let s := s.setPort p { q with waiting := q.waiting.eraseIdx i }
          match e.paid s.now with
          | none => (s.countDiscard (e.via.getD p)).pump n p
          | some f =>
            let q := s.port p
            let f := { f with seq := q.sendSeq, ack := q.recvSeq - 1, credit := q.credits f.cls }
            let s := s.setPort p { q with
              replay := q.replay ++ [{ e with flit := f, tick := s.now }], sendSeq := q.sendSeq + 1, unacked := 0, give := q.owing f.cls
              progress := if q.replay.isEmpty then s.now else q.progress
              spent := if f.kind = 3 then q.spent else tput 0 q.spent (flitKey f) (tgetD q.spent (flitKey f) 0 + 1) }
            let s := if q.replay.isEmpty then s.postOnce (s.now + 10 * usTicks) .glRetrain (.nat p 0 0) else s
            (s.send (.flit p f)).pump n p

/-- Hand flits to a port; a port that is not ready loses them. [DESIGN CHOICE, log 16] -/
def State.linkSend (s : State) (p : Nat) (fs : List Flit) (since : Nat) (via : Option Nat) : State :=
  let q := s.port p
  let w := q.waiting ++ fs.map (fun f => { flit := f, tick := since, via })
  if !s.portReady p then s
  else (s.setPort p { q with waiting := w }).pump w.length p

/-- Hand a request to its exit port: it is here since a tick, by an arrival port or none at its requester (R45, R56). -/
def State.sendOn (s : State) (p since : Nat) (via : Option Nat) (r : FabReq) : State :=
  let r := { r with cls := r.cls || s.fab.dateline.getLsbD p, came := none, lvd := none, waits := false }
  s.linkSend p (flitsFor (flitsOf (reqData r)) { kind := 1, vc := BitVec.ofNat 2 r.vc, cls := r.cls, req := some r }) since via

/-- Send a response by a port, on its channel (R45, R52). -/
def State.sendResp (s : State) (p : Nat) (r : FabResp) : State :=
  s.linkSend p (flitsFor (flitsOf (respData r)) { kind := 2, vc := BitVec.ofNat 2 r.vc, resp := some { r with came := none } }) s.now none

/-- Buffers of a channel and class of a port are free again: their credits go back to the peer with the next flit in sequence (R44, R45). [DESIGN CHOICE, log 16] -/
def State.giveBack (s : State) (p k n : Nat) : State :=
  let q := s.port p
  (s.setPort p { q with give := tput 0 q.give k (tgetD q.give k 0 + n) }).postOnce (s.now + usTicks) .glAckTimer (.nat p 0 0)

/-- The virtual channel of a request (R45). -/
def fabVc (o : FabOp) : Nat :=
  match o with
  | .pkrd _ _ | .pkwr _ _ _ | .pkvget _ _ _ _ | .pkvset _ _ _ _ _ _ | .pkact _ _ | .faultEnq _ _ _ _ _ | .notice _ _ _
  | .enq _ _ => 2
  | _ => 0

/-- Does a request carry a sequence tag (R60)? -/
def fabTagged (o : FabOp) : Bool :=
  match o with
  | .ratom _ _ _ _ _ _ _ | .enq _ _ | .pkwr _ _ _ | .pkvset _ _ _ _ _ _ | .pkact _ _ | .faultEnq _ _ _ _ _ | .notice _ _ _ => true
  | _ => false

/-- Take a die's next tag (R60). -/
def State.takeTag (s : State) (die : Nat) : Nat × State :=
  let d := s.die die
  (d.tag, s.setDie die { d with tag := (d.tag + 1) % 2 ^ 20 })

/-- Send a request of a die by a route and wait for its response (R48 to R57, R60). `o` names the requester; `tag` and
`retry` are those of a retry, otherwise a new tag is taken where the request carries one. -/
def State.request (s : State) (die : Nat) (route : Word) (vdn : Nat) (op : FabOp) (tag : Option Nat) (retry : Bool) (o : Outstanding → Outstanding) : State :=
  let t : Option Nat × State := if fabTagged op then
      (match tag with
       | some t => (some t, s)
       | none => let r := s.takeTag die; (some r.1, r.2))
    else (none, s)
  let s := t.2
  let d := s.die die
  let tx := d.tx
  let s := s.setDie die { d with tx := (tx + 1) % 2 ^ 26 }
  let req : FabReq := { vc := fabVc op, turns := routeTurns route, life := s.fab.timeout / 2, srcMod := s.fab.modid, srcDie := die, rvd := vdn
                        tx, tagged := t.1.map (BitVec.ofNat 20), retry, op }
  let lim := s.now + s.fab.timeout * usTicks
  let out : Outstanding := o { tx, die, port := routePort route, tick := s.now, limit := lim, tagged := t.1, req }
  let s := { s with fab := { s.fab with outs := s.fab.outs ++ [out] } }
  (s.sendOn (routePort route) s.now none req).post lim .fabricTimeout (.nat die tx 0)

/-- The address that ADDR holds for a request that the target says nothing more about (22 R535). [DEDUCED, log 23] -/
def farAddrOf (op : FabOp) : Word :=
  match op with
  | .ratom _ _ _ _ a _ _ => a
  | .bankLoad _ _ _ offs => BitVec.ofNat 64 ((offs.head?.map (·.2)).getD 0)
  | .bankStore _ _ _ _ vals => BitVec.ofNat 64 ((vals.head?.map (·.2.1)).getD 0)
  | .copyRead a _ => a
  | .copyWrite a _ _ => a
  | _ => 0

/-- The lanes that a far request's fault names: its own for a bank access, else the whole issue (22 R535). -/
def farMask (op : FabOp) (m : LaneMask) : LaneMask :=
  match op with
  | .bankLoad _ _ _ offs => maskOf (offs.map (·.1))
  | .bankStore _ _ _ _ vals => maskOf (vals.map (·.1))
  | _ => m

/-- Has a pending instruction's request left for another module, its outcome still unknown? -/
def State.isSent (s : State) (cid n : Nat) : Bool := s.fab.outs.any (fun o => o.course = some (cid, n))

end Sys2Proof.Machine
end

