-- ==== Sys2Proof/Machine/L1.lean ====
section
/-! DEFINITION. The L1 of a cell and the phase-spill path: which lines stand in its ways, and where buffered sectors go that leave it (09
R263, R264, R268, R269, R272, 07 R192). -/
namespace Sys2Proof.Machine

/-! ## The lines of the L1 (R263, R264) -/

/-- The ways of a cell's L1: its banks in cache mode. -/
def State.ways (s : State) (bench cell : Nat) : List Nat := (List.range 12).filter (fun b => (s.bankOf bench cell b).mode = .cache)

/-- Buffered sectors of a course take the phase-spill path; none when one finds neither a spill bank nor a chunk. -/
def State.spillSectors (s : State) (cid : Nat) (secs : List Nat) : Option State :=
  secs.foldl (fun (o : Option State) sec => match o with
    | none => none
    | some s => (s.spillPlace (s.course cid).group).map (fun r =>
        let c := r.2.course cid
        r.2.setCourse cid { c with spilt := c.spilt ++ [(sec, r.1)] })) (some s)

/-- A line leaves the L1: its buffered sectors take the phase-spill path; none when they find no place there. -/
def State.evictLine (s : State) (key : Nat) (x : L1Line) : Option State :=
  let t := match x.owner with
    | some v => s.spillSectors v ((s.course v).lineSectors x.line)
    | none => some s
  t.map (fun s => s.setL1 key ((s.cell key).l1.filter (· ≠ x)))

/-- The line that leaves a set whose ways are full: the least recently used (R263). -/
def State.l1Victim (s : State) (bench cell va : Nat) : Option L1Line :=
  let set := (s.cell (cellKey bench cell)).l1.filter (fun x => x.line % 512 = va / 256 % 512)
  if set.length < (s.ways bench cell).length then none else set.getLast?

/-- Does a line hold, or may it take, what an access needs: a snapshot sector for a load, beside the buffered sectors of whichever course;
a buffered sector for a store of course `owner`, in a line that holds none of another course (R264)? -/
def L1Line.fits (x : L1Line) (vd va : Nat) (owner : Option Nat) : Bool :=
  x.vd = vd && x.line = va / 256 && (owner.isNone || x.owner.isNone || x.owner = owner)

/-- The line of a cell's L1 that an access uses. -/
def State.l1Line (s : State) (bench cell vd va : Nat) (owner : Option Nat) : Option L1Line :=
  let l := (s.cell (cellKey bench cell)).l1
  (l.find? (fun x => x.fits vd va owner && x.owner = owner)).or (l.find? (fun x => x.fits vd va owner))

/-- A line is used: it stands first, and one that was absent takes a free way of its set. A store makes the line its course's. [DESIGN CHOICE, log 101] -/
def State.l1Use (s : State) (bench cell vd va : Nat) (owner : Option Nat) : State :=
  let k := cellKey bench cell
  let l := (s.cell k).l1
  match s.l1Line bench cell vd va owner with
  | some x => s.setL1 k ({ x with owner := owner.or x.owner } :: l.filter (· ≠ x))
  | none =>
    match (s.ways bench cell).find? (fun b => !l.any (fun x => x.line % 512 = va / 256 % 512 && x.bank = b)) with
    | some b => s.setL1 k ({ vd, line := va / 256, owner, bank := b } :: l)
    | none => s

/-- Has the L1 of a cell the line of an address already, for an owner? -/
def State.l1Has (s : State) (bench cell vd va : Nat) (owner : Option Nat) : Bool :=
  (s.l1Line bench cell vd va owner).isSome

/-- A load uses a line: one that is absent is filled, and the least recently used line of its set makes room if it can. -/
def State.l1Load (s : State) (bench cell vd va : Nat) : State :=
  if s.l1Has bench cell vd va none then s.l1Use bench cell vd va none
  else
    match s.l1Victim bench cell va with
    | none => s.l1Use bench cell vd va none
    | some x => ((s.evictLine (cellKey bench cell) x).map (fun s => s.l1Use bench cell vd va none)).getD s

/-- A course's store finds its sector's place: in the L1, where a line without buffered sectors may make room for it, or where the sector
has gone already; with no way, on the phase-spill path. None while a buffered sector must leave the L1 first, or no place is free. -/
def State.l1Store (s : State) (cid va : Nat) : Option State :=
  let c := s.course cid
  let g := s.group c.group
  let vd := (s.task g.task).vd
  if c.spilt.any (fun x => x.1 = va / 64) then some s
  else if (s.ways g.bench g.cell).isEmpty then s.spillSectors cid [va / 64]
  else if s.l1Has g.bench g.cell vd va (some cid) then some (s.l1Use g.bench g.cell vd va (some cid))
  else
    match s.l1Victim g.bench g.cell va with
    | none => some (s.l1Use g.bench g.cell vd va (some cid))
    | some x => if x.owner.isNone then (s.evictLine (cellKey g.bench g.cell) x).map (fun s => s.l1Use g.bench g.cell vd va (some cid)) else none

/-- Room for a store whose set holds buffered sectors: the least recently used line leaves the L1; none when it finds no place, or when,
with no way, the store's own sector finds none. -/
def State.l1MakeRoom (s : State) (cid va : Nat) : Option State :=
  let g := s.group (s.course cid).group
  if (s.ways g.bench g.cell).isEmpty then (s.spillPlace (s.course cid).group).map (fun _ => s)
  else
    match s.l1Victim g.bench g.cell va with
    | some x => s.evictLine (cellKey g.bench g.cell) x
    | none => some s

/-- What a bank of a cell holds leaves it before it changes its mode: its way leaves the L1, or its sectors move (R269). -/
def State.drainBank (s : State) (bench cell b : Nat) : State :=
  let k := cellKey bench cell
  let old := (s.bankOf bench cell b).mode
  let s := if old = .cache then s.dropWay bench cell b else s
  let c := s.cell k
  let s := s.setCell k { c with banks := tset c.banks b { tgetD c.banks b {} with mode := .fifo, fifo := [], head := 0 } }
  if old = .spill then s.moveSpills bench cell b else s

/-- The cell-owned banks that BANK_CFG puts into phase-spill mode: the SPILL highest-numbered ones (R268, R283). [DESIGN CHOICE, log 101] -/
def State.spillSet (s : State) (bench cell : Nat) : List Nat :=
  let b := s.bench bench
  let own := (List.range 12).reverse.filter (fun i => (s.bankOf bench cell i).owner.isNone)
  own.take (min b.spill.toNat (min b.minc.toNat 11))

/-- Cell-owned banks take the mode that BANK_CFG gives them now. -/
def State.setModes (s : State) (bench cell : Nat) (banks : List Nat) : State :=
  let spills := s.spillSet bench cell
  banks.foldl (fun s i =>
    let m : BankMode := if spills.contains i then .spill else .cache
    if (s.bankOf bench cell i).owner.isSome || (s.bankOf bench cell i).mode = m then s
    else
      let s := s.drainBank bench cell i
      let k := cellKey bench cell
      let c := s.cell k
      s.setCell k { c with banks := tset c.banks i { tgetD c.banks i {} with mode := m } }) s

/-- The group leaves the L1 and the spill banks: its buffered sectors are in its spill log, which takes the chunks that they need (07 R192). [DESIGN CHOICE, log 101] -/
def State.spillAll (s : State) (gk : Nat) : State :=
  let cs := s.coursesOf gk
  let secs := fun (c : Course) => (c.buf.filterMap (fun e => match e.loc with
    | .glob va => some (va / 64)
    | _ => none)).eraseDups
  let n := (cs.map (fun c => (secs (s.course c)).length)).foldl (· + ·) 0
  let g := s.group gk
  let s := s.setGroup gk (g.growLog ((n + 32767) / 32768) (s.freeNat (2 ^ 29 + gk)))
  let s := cs.foldl (fun s c => s.setCourse c { s.course c with spilt := (secs (s.course c)).map (fun x => (x, 0)) }) s
  let k := cellKey g.bench g.cell
  s.setL1 k ((s.cell k).l1.filter (fun x => !(x.owner.map cs.contains).getD false))

/-- Copies of a device's range leave every L1; what its courses have buffered stays theirs (04 R106). -/
def State.dropLines (s : State) (vd va len : Nat) : State :=
  { s with cells := s.cells.map (fun (p : Nat × Cell) =>
      (p.1, { p.2 with l1 := p.2.l1.filter (fun x => !(x.vd = vd && x.owner.isNone && va < x.line * 256 + 256 && x.line * 256 < va + len)) })) }

/-- Lines of published or committed sectors belong to no course. -/
def State.settleL1 (s : State) : State :=
  (s.cells.filter (fun p => p.2.l1.any (·.owner.isSome))).foldl (fun (s : State) (p : Nat × Cell) =>
    let l : List L1Line := p.2.l1.map (fun x => match x.owner with
      | some v => if ((s.course v).lineSectors x.line).isEmpty then { x with owner := none } else x
      | none => x)
    let once := (List.range l.length).filterMap (fun n => match l[n]? with
      | some x => if (l.take n).any (fun y => y.vd = x.vd && y.line = x.line && y.owner = x.owner) then none else some x
      | none => none)
    if once = p.2.l1 then s else s.setL1 p.1 once) s

end Sys2Proof.Machine
end

