-- ==== Sys2Proof/Machine/MemOps.lean ====
section
/-! DEFINITION. The named operations of the memory instructions: lane addresses (17 R469), the checks at issue (R470, 09
R261, R274), the buffering of stores (10 R286), and how an access that has issued is performed at its home (10 R287, R294
to R296, 09 R271, R277, R279, 17 R471 to R481). -/
namespace Sys2Proof.Machine

/-! ## Lane addresses (17 R469) -/

/-- Lane number in MODE 1: l mod 16 under LW16. -/
def Ctx.linLane (k : Ctx) (l : Nat) : Nat := if k.lw then l % 16 else l

/-- A lane's global address: SA, MODE and the XL literal. -/
def Ctx.gaddr (k : Ctx) (size : Nat) (lit : Word) (l : Nat) : Nat :=
  let a := (k.srcP k.x.sa l).toNat
  let a := if k.x.ext.extractLsb' 0 3 = 1 then a + size * k.linLane l else a
  (a + lit.toNat) % 2 ^ 64

/-- A lane's index for VLDX and VSTX: IDX 0 UINT32, 1 INT32, 2 INT64 pair. -/
def Ctx.index (k : Ctx) (l : Nat) : Nat :=
  match (k.x.ext.extractLsb' 3 2).toNat with
  | 0 => (k.srcV k.x.sb l).toNat
  | 1 => ((k.srcV k.x.sb l).signExtend 64).toNat
  | _ => (k.srcP k.x.sb l).toNat

/-- A lane's indexed address. -/
def Ctx.xaddr (k : Ctx) (l : Nat) : Nat :=
  ((k.srcP k.x.sa l).toNat + k.index l * 2 ^ (k.x.ext.extractLsb' 0 3).toNat) % 2 ^ 64

/-- A lane's scratchpad address. -/
def Ctx.paddr (k : Ctx) (size : Nat) (l : Nat) : Nat :=
  let a := (k.srcV k.x.sa l).toNat
  (if k.x.ext.extractLsb' 0 3 = 1 then a + size * k.linLane l else a) % 2 ^ 32

/-! ## The attribute TLB (09 R261) -/

/-- The entry of a granule. [DESIGN CHOICE, log 72] -/
def State.atlbEntry (s : State) (core vdn va : Nat) : Option AtlbEntry :=
  (tgetD s.atlb core []).find? (fun e => e.vd = vdn && e.granule = va / 65536)

/-- An entry that is used stands first: replacement is least recently used first. -/
def State.atlbUse (s : State) (core vdn va : Nat) : State :=
  match s.atlbEntry core vdn va with
  | some e => { s with atlb := tset s.atlb core (e :: (tgetD s.atlb core []).filter (· ≠ e)) }
  | none => s

/-- Fill an entry from the virtual device's attribute table. -/
def State.atlbFill (s : State) (core vdn gran : Nat) : State :=
  let v := s.vd vdn
  let m := v.mapping (gran * 65536)
  let e : AtlbEntry := { vd := vdn, granule := gran, perm := (m.map (·.perm)).getD 0, mapped := m.isSome
                         face := ((v.phys (gran * 65536)).map faceOf).getD 0 }
  let l := (tgetD s.atlb core []).filter (fun x => !(x.vd = vdn && x.granule = gran))
  { s with atlb := tset s.atlb core ((e :: l).take 256) }

/-! ## Checks at issue (17 R470) -/

/-- A lane's cause, if it meets one. -/
abbrev LaneCheck := List (Nat × Nat × Option Nat)

/-- The first cause of a global address: PROT for bits [63:57], MISALIGN, PROT from the ATLB. [DESIGN CHOICE, log 72] -/
def Ctx.globCause (k : Ctx) (need size a : Nat) : Option Nat :=
  if 2 ^ 57 ≤ a then some 2
  else if a % size ≠ 0 then some 0x0e
  else
    match k.s.atlbEntry (k.s.coreOf k.cid) k.vdn a with
    | some e => if e.mapped && (need &&& e.perm.toNat) ≠ need then some 2 else none
    | none => none

/-- Where a scratchpad address lies: the group's key, its index and the offset; none raises SCRATCH_RANGE (09 R273, R274). -/
def Ctx.spad (k : Ctx) (size a : Nat) : Option (Nat × Nat × Nat) :=
  let cl := a.testBit 31
  let gi := if cl then bits a 23 21 else k.g.g
  let off := bits a 20 0
  let gk := if cl then k.s.peerGroup k.c.group gi else some k.c.group
  match gk with
  | none => none
  | some gk =>
    if bits a 30 24 ≠ 0 || (!cl && bits a 23 21 ≠ 0) || extCX k.t.trec.extents < gi || (k.s.group gk).win < off + size then none
    else
      match k.s.winMode gk off with
      | some .spad | some .fifo => some (gk, gi, off)
      | _ => none

/-- Does a scratchpad address reach a FIFO-mode bank? -/
def Ctx.inFifo (k : Ctx) (size a : Nat) : Bool :=
  match k.spad size a with
  | some (gk, _, off) => decide (k.s.winMode gk off = some .fifo)
  | none => false

/-- The first cause of a scratchpad address. -/
def Ctx.spadCause (k : Ctx) (fifo : Bool) (size a : Nat) : Option Nat :=
  if (k.spad size a).isNone || (!fifo && k.inFifo size a) then some 0x0f else if a % size ≠ 0 then some 0x0e else none

/-- The issue fault of the lowest lane that meets a cause; MASK holds every lane that meets the same (06 R162). -/
def Ctx.laneFault (k : Ctx) (checks : LaneCheck) (mask : Option LaneMask := none) : Option State :=
  match checks.find? (fun x => x.2.2.isSome) with
  | none => none
  | some (_, a, c) =>
    some (k.fault (c.getD 0) 0 (BitVec.ofNat 64 a) 0 (mask.getD (maskOf ((checks.filter (fun x => x.2.2 = c)).map (·.1)))))

/-- Ask for the absent ATLB entries of the addresses; none when all are there (09 R261). -/
def Ctx.atlbWait (k : Ctx) (as_ : List Nat) : Option State :=
  let core := k.s.coreOf k.cid
  let gone := ((as_.filter (fun a => a < 2 ^ 57 && (k.s.atlbEntry core k.vdn a).isNone)).map (· / 65536)).eraseDups
  if gone.isEmpty then none
  else some (gone.foldl (fun s g => s.postOnce s.now .atlbFillDone (.nat core k.vdn g)) k.blocked)

/-- Every entry used moves to the front. -/
def Ctx.atlbTouch (k : Ctx) (as_ : List Nat) : Ctx :=
  { k with s := as_.foldl (fun s a => s.atlbUse (s.coreOf k.cid) k.vdn a) k.s }

/-- Issue with the checks of global lane addresses: entries are there, no lane meets an issue cause. `once` says that the
instruction is performed once per issue: its MASK is then k0 (22 R529). -/
def Ctx.withGlob (k : Ctx) (need size : Nat) (as_ : List (Nat × Nat)) (once : Bool) (f : Ctx → State) : Out :=
  match k.atlbWait (as_.map (·.2)) with
  | some s => .next s
  | none =>
    match k.laneFault (as_.map (fun p => (p.1, p.2, k.globCause need size p.2))) (if once then some k.k0 else none) with
    | some s => .next s
    | none => .next (f (k.atlbTouch (as_.map (·.2))))

/-- Issue with the checks of scratchpad lane addresses. -/
def Ctx.withSpad (k : Ctx) (fifo : Bool) (size : Nat) (as_ : List (Nat × Nat)) (f : Ctx → State) : Out :=
  match k.laneFault (as_.map (fun p => (p.1, p.2, k.spadCause fifo size p.2))) with
  | some s => .next s
  | none => .next (f k)

/-- The window location of a scratchpad address that has passed its checks. -/
def Ctx.spadLoc (k : Ctx) (size a : Nat) : Loc :=
  match k.spad size a with
  | some (_, gi, off) => .win gi off
  | none => .win k.g.g 0

/-! ## Buffered stores (10 R286) -/

/-- Take the next place in program order of a half. -/
def Course.takeSeq (c : Course) (half : Nat) : Nat × Course :=
  if half = 0 then (c.seq0, { c with seq0 := c.seq0 + 1 }) else (c.seq1, { c with seq1 := c.seq1 + 1 })

/-- Put one lane's element into the buffer, byte by byte. -/
def bufElem (lw16 : Bool) (buf : List BufStore) (seq half lane : Nat) (l : Loc) (bs : List Byte) : List BufStore :=
  ((List.range bs.length).zip bs).foldl (fun b p =>
    bufPut lw16 { loc := l.add p.1, val := p.2, seq, half, lane } b) buf

/-- The bytes of an item of a store. -/
def AccItem.bytes (it : AccItem) (size : Nat) : List Byte := leBytes size it.b.toNat

/-- Put lanes of a store into the buffer; those whose sector has no place in the L1 yet remain (09 R263, R272). -/
def State.bufferItems (s : State) (cid seq half size : Nat) (its : List AccItem) : State × List AccItem :=
  let lw := (s.task (s.taskOf cid)).hdr.lw16
  let put := fun (s : State) (it : AccItem) =>
    s.setCourse cid { s.course cid with buf := bufElem lw (s.course cid).buf seq half it.lane it.loc (it.bytes size) }
  its.foldl (fun (r : State × List AccItem) it => match it.loc with
    | .glob va =>
      (match r.1.l1Store cid va with
       | some s => (put s it, r.2)
       | none => (r.1, r.2 ++ [it]))
    | _ => (put r.1 it, r.2)) (s, [])

/-- A course's buffer with what its stores still hold whose sector has no place in the L1 yet: a later load of the course reads them, as
they are complete (R287, 09 R272). -/
def State.bufAhead (s : State) (cid : Nat) : List BufStore :=
  let lw := (s.task (s.taskOf cid)).hdr.lw16
  (s.course cid).pends.foldl (fun b p => match p.act with
    | .access a =>
      if a.op = AccOp.store && !p.xbar then
        (a.items.filter (fun it => match it.loc with
          | .glob va => (s.vd (s.vdOf cid)).mapsAll va a.size
          | _ => false)).foldl (fun b it => bufElem lw b a.seq a.half it.lane it.loc (it.bytes a.size)) b
      else b
    | _ => b) (s.course cid).buf

/-! ## Places and what a write forces -/

/-- The group that a window location reaches, while it runs and is resident. -/
def State.locGroup (s : State) (cid : Nat) (l : Loc) : Option Nat :=
  match l with
  | .win g _ => s.peerGroup (s.course cid).group g
  | _ => none

/-- Force every pending node that a write to a location by the instruction number n of a course overlaps (11 R318); says whether all are
done. -/
def State.forceFor (s : State) (cid : Nat) (l : Loc) (size : Nat) (pc : Word) (n : Nat) : State × Bool :=
  let g := s.group (s.course cid).group
  let a : Asker := { pc, course := some cid, issued := some n }
  match l with
  | .glob va => s.forceRanges g.bench g.cell [{ win := false, id := s.vdOf cid, lo := va, hi := (va + size : Nat) }] a
  | .win _ off =>
    (match s.locGroup cid l with
     | some gk => s.forceRanges (s.group gk).bench (s.group gk).cell [{ win := true, id := gk, lo := off, hi := (off + size : Nat) }] a
     | none => (s, true))
  | _ => (s, true)

/-- Force for every item of a list. -/
def State.forceItems (s : State) (cid : Nat) (its : List AccItem) (size : Nat) (pc : Word) (n : Nat) : State × Bool :=
  its.foldl (fun (p : State × Bool) it =>
    let r := p.1.forceFor cid it.loc size pc n
    (r.1, p.2 && r.2)) (s, true)

/-! ## What an access waits for -/

/-- A pending instruction by its number. -/
def Course.pend (c : Course) (n : Nat) : Option Pend := c.pends.find? (fun p => p.id = n)

/-- Instructions issued before it that are still pending. -/
def Course.before (c : Course) (n : Nat) : List Pend := c.pends.takeWhile (fun p => p.id ≠ n)

/-- Is a pending instruction an immediate access, still to be performed (10 R284)? -/
def Pend.immediate (p : Pend) : Bool :=
  match p.act with
  | .access a => a.imm && !a.items.isEmpty
  | .remote _ _ _ _ _ | .enq _ _ _ | .qstat _ _ _ | .state _ _ _ _ _ => true
  | _ => false

/-- Does a pending instruction carry .ACQ? -/
def Pend.acquires (p : Pend) : Bool :=
  match p.act with
  | .access a => a.acq.isSome
  | .remote _ _ _ _ q => q.isSome
  | _ => false

/-- May a request to another module leave as it issues: no earlier .ACQ of the course is outstanding (10 R296)? -/
def Ctx.mayLeave (k : Ctx) : Bool := !k.c.pends.any Pend.acquires

/-- Do two elements share a byte? -/
def locMeets (a : Loc) (n : Nat) (b : Loc) (m : Nat) : Bool :=
  match a, b with
  | .glob x, .glob y => decide (x < y + m) && decide (y < x + n)
  | .win g x, .win h y => g = h && decide (x < y + m) && decide (y < x + n)
  | .cell e f x, .cell g h y => e = g && f = h && decide (x < y + m) && decide (y < x + n)
  | _, _ => false

/-- Has a WAITA read its word and found that COND does not hold? Its first value then stands in `got`. -/
def Access.looked (a : Access) : Bool :=
  match a.op with
  | .waita _ _ => !a.got.isEmpty
  | _ => false

/-- May an access be performed yet: no earlier .ACQ is outstanding (R296), the crossbar is in issue order (09 R279). -/
def Course.turnOf (c : Course) (p : Pend) : Bool :=
  (c.before p.id).all (fun q => !q.acquires && !(p.xbar && q.xbar))

/-- May an item of an immediate access be performed: earlier ones to the same address are (R294). A WAITA keeps the order with
its first read; its later reads follow the writes performed there, those of its own course among them (17 R482). -/
def Course.itemTurn (c : Course) (p : Pend) (it : AccItem) (size : Nat) : Bool :=
  (c.before p.id).all (fun q => match q.act with
    | .access a => !a.imm || a.looked || a.items.all (fun j => !locMeets it.loc size j.loc a.size)
    | _ => true)

/-- Is a window location ready: its group resident, its granule owned by the courses (09 R275, R277)? [DEDUCED, log 66] -/
def State.winReady (s : State) (cid : Nat) (l : Loc) : Bool :=
  match l with
  | .win _ off =>
    (match s.locGroup cid l with
     | some gk => !(s.group gk).saved && (s.holder gk (off / 4096)).isNone
     | none => true)
  | _ => true

/-! ## Reading and writing one element -/

/-- Why an element cannot be read. -/
inductive Miss where
  | page | poison
  deriving DecidableEq, Repr

/-- Does an element translate and hold no uncorrectable data? -/
def State.elemMiss (s : State) (cid : Nat) (l : Loc) (size : Nat) (fwd : List (Option Byte)) : Option Miss :=
  match l with
  | .glob va =>
    if fwd.length = size && fwd.all (·.isSome) then none
    else if !(s.vd (s.vdOf cid)).mapsAll va size then some .page
    else if s.poisoned (s.vdOf cid) va size then some .poison else none
  | .win _ off =>
    (match s.locGroup cid l with
     | some gk => if !(fwd.length = size && fwd.all (·.isSome)) && s.winBad gk off size then some .poison else none
     | none => none)
  | _ => none

/-- The value of an element at its home. -/
def State.homeElem (s : State) (cid : Nat) (l : Loc) (size : Nat) : Nat :=
  match l with
  | .glob va => leNat (s.peekVA (s.vdOf cid) va size)
  | .win _ off => (match s.locGroup cid l with
    | some gk => leNat (s.peekWinN gk off size)
    | none => 0)
  | _ => 0

/-- Write an element at its home as an immediate write. -/
def State.homeWrite (s : State) (cid : Nat) (l : Loc) (size x : Nat) : State :=
  match l with
  | .glob va => s.pokeVA (s.vdOf cid) (some cid) 4 va (leBytes size x)
  | .win _ off => (match s.locGroup cid l with
    | some gk => s.pokeWinL gk off (leBytes size x)
    | none => s)
  | _ => s

/-- A byte that a plain load reads at a bank: in a shadowed launch a re-run of the interval repeats what the run before it has read
(07 R214). -/
def State.winRead (s : State) (cid gk off key : Nat) : Byte × State :=
  if !s.shadowed cid then (s.peekWin gk off, s)
  else
    let c := s.course cid
    let old := tgetD c.wins key []
    let n := tgetD c.winsAt key 0
    let b := old.getD n (s.peekWin gk off)
    (b, s.setCourse cid { c with wins := if n < old.length then c.wins else tset c.wins key (old ++ [b]), winsAt := tset c.winsAt key (n + 1) })

/-- One byte as a plain load at `pc` reads it: the course's own buffered byte, otherwise its view, or the bank (R287, R303). -/
def State.viewByte (s : State) (cid : Nat) (pc : Word) (l : Loc) (fwd : Option Byte) (k : Nat) : Byte × State :=
  match fwd with
  | some b => (b, s)
  | none =>
    match l with
    | .glob va => (match (s.vd (s.vdOf cid)).phys va with
      | some pa => s.viewRead cid pa k
      | none => (0, s))
    | .win _ off => (match s.locGroup cid l with
      | some gk => s.winRead cid gk off (pc.toNat * 256 + k % 256)
      | none => (0, s))
    | _ => (0, s)

/-- An element as a plain load reads it. -/
def State.viewElem (s : State) (cid : Nat) (pc : Word) (it : AccItem) : Nat → State × List Byte
  | 0 => (s, [])
  | n + 1 =>
    let r := s.viewElem cid pc it n
    let l := it.loc.add n
    let fwd := match it.loc with
      | .win _ _ => bufGet (s.course cid).buf l
      | _ => it.fwd.getD n none
    let b := r.1.viewByte cid pc l fwd (2 ^ 24 + it.lane * 8 + n)
    (b.2, r.2 ++ [b.1])

/-! ## Atomic operations (17 R475, R476) -/

/-- The new value at the home; old, b and c are patterns of TYPE. -/
def atomNew (env : FEnv) (op t old b c : Nat) : Nat :=
  let w := 2 ^ typeWidth t
  match op with
  | 0 => old
  | 1 | 2 => b % w
  | 3 => if old = c % w then b % w else old
  | 4 => (old + b) % w
  | 5 => old &&& (b % w)
  | 6 => old ||| (b % w)
  | 7 => old ^^^ (b % w)
  | 8 => if intVal t b < intVal t old then b % w else old
  | 9 => if intVal t old < intVal t b then b % w else old
  | _ => (fadd env t 0 old (b % w)).x

/-! ## Performing what has issued -/

/-- Replace a pending instruction. -/
def State.setPend (s : State) (cid : Nat) (p : Pend) : State :=
  let c := s.course cid
  s.setCourse cid { c with pends := c.pends.map (fun q => if q.id = p.id then p else q) }

/-- An instruction that is not done is looked at again later. [DESIGN CHOICE, log 96] -/
def State.again (s : State) (cid n : Nat) : State := s.postOnce (s.now + 1) .instructionComplete (.course cid n 0 0)

/-- A result is known and on its way to its registers: until the flag is released, a reader may meet the old value or the new one in
each lane (08 R234). -/
def State.landSoon (s : State) (cid : Nat) (p : Pend) (ws : List RegWrite) : State :=
  (s.setPend cid { p with act := .none, writes := p.writes ++ ws }).again cid p.id

/-- An access with the results of the lanes that it has performed taken out, which go to their registers. -/
def Pend.emptied (p : Pend) : Pend :=
  match p.act with
  | .access a => if a.looked then p else { p with writes := [], act := .access { a with got := [] } }
  | _ => p

/-- The results of the lanes that an access has performed. -/
def Pend.performed (p : Pend) : List RegWrite :=
  match p.act with
  | .access a => if a.looked then [] else p.writes ++ a.landed
  | _ => []

/-- A late fault is met: the lanes that have been performed have their results, and the course stops at its next boundary (06 R161, R162). -/
def State.meetLate (s : State) (cid : Nat) (p : Pend) (f : LateFault) : State :=
  let s := s.setCourse cid ((s.course cid).landAll p.performed)
  let s := s.setPend cid { p.emptied with late := some { f with tick := s.now }, due := none }
  (s.setCourse cid { s.course cid with stopping := true }).post s.now .lateFault (.course cid p.id 0 0)

/-- A late fault is met where a split stands, with nothing to perform again. -/
def State.lateHere (s : State) (cid w : Nat) (f : LateFault) : State :=
  let n := s.nextKey
  let c := s.course cid
  let p : Pend := { id := n, pc := (tgetD c.splits w {}).pc, split := w }
  ({ s with nextKey := n + 1 }.setCourse cid { c with pends := c.pends ++ [p] }).meetLate cid p f

/-- Uncorrectable data is consumed by a course: a shadowed group rolls back, otherwise ECC_UE (12 R352). -/
def State.meetPoison (s : State) (cid : Nat) (p : Pend) (addr : Word) (mask : LaneMask) : State :=
  let g := (s.course cid).group
  let s := if s.rollsBack g addr then s.again cid p.id else s
  s.consumeUE g (.course cid) addr (fun s => s.meetLate cid p { cause := 3, addr, mask })

/-- The address of a location as ADDR holds it. -/
def Loc.addr (l : Loc) : Word :=
  match l with
  | .glob va => BitVec.ofNat 64 va
  | .win g off => BitVec.ofNat 64 (2 ^ 31 + g * 2 ^ 21 + off)
  | .cell _ _ off => BitVec.ofNat 64 off
  | .far _ _ _ a => BitVec.ofNat 64 a

/-- The environment of float events of a course's instruction. -/
def State.fenv (s : State) (cid : Nat) (pc : Word) : FEnv := { evm := (s.task (s.taskOf cid)).hdr.evm, pc }

/-- The cell of a course reports an uncorrectable error that one of its instructions has met (07 R216). -/
def State.countAt (s : State) (cid : Nat) : State :=
  let g := s.group (s.course cid).group
  s.countError g.bench g.cell

/-- Does a load of a type turn uncorrectable elements into the POISON event: a float, in event mode, in a group without SHADOW (12 R352)? -/
def State.nanLoads (s : State) (cid type : Nat) : Bool :=
  let h := (s.task (s.taskOf cid)).hdr
  h.evm && floatType type && !h.shadow

/-- Does an instruction trap the POISON event, by the trap mask of its issue (12 R353)? -/
def Pend.trapsPoison (p : Pend) : Bool := p.trapmask.getLsbD 7

/-- The late fault of a load whose lanes trap POISON (12 R353). [DEDUCED, log 105] -/
def poisonTrap (mask : LaneMask) : LateFault := { cause := 4, event := 7, mask }

/-- The lanes that remain have all missed: the lowest fixes the cause (06 R162). MASK holds the lanes of that cause, or k0 at issue
for what is performed once per issue (22 R535). -/
def State.missLate (s : State) (cid : Nat) (p : Pend) (ms : List (AccItem × Miss)) : State :=
  match ms with
  | [] => s
  | (it, m) :: _ =>
    let mask := if p.mask ≠ 0 then p.mask else maskOf ((ms.filter (fun x => x.2 = m)).map (·.1.lane))
    match m with
    | .page => s.meetLate cid p { cause := 1, addr := it.loc.addr, mask }
    | .poison =>
      match p.act with
      | .access a => if a.op = .load && s.nanLoads cid a.type then s.meetLate cid p (poisonTrap mask) else s.meetPoison cid p it.loc.addr mask
      | _ => s.meetPoison cid p it.loc.addr mask

/-- Every lane is performed: the destination is written, .ACQ refreshes the view, the flag is released (R288, 08 R231). -/
def State.landAccess (s : State) (cid : Nat) (p : Pend) (a : Access) : State :=
  let c := (s.course cid).landAll (p.writes ++ a.landed)
  let c := match a.acq with
    | some sc => c.refresh sc
    | none => c
  s.setCourse cid { c with pends := c.pends.filter (fun q => q.id ≠ p.id) }

/-- Land an access that has no item left, otherwise look again. -/
def State.stepAccess (s : State) (cid : Nat) (p : Pend) (a : Access) : State :=
  let p := { p with act := .access a }
  if a.items.isEmpty then s.landAccess cid p a else (s.setPend cid p).again cid p.id

/-- Perform the lanes of a plain load that can be performed, at this instant; the rest have missed. [DESIGN CHOICE, log 70] -/
def State.loadNow (s : State) (cid : Nat) (p : Pend) (a : Access) : State × Access × List (AccItem × Miss) :=
  let env := s.fenv cid p.pc
  a.items.foldl (fun (r : State × Access × List (AccItem × Miss)) it =>
    let keep := (r.1, { r.2.1 with items := r.2.1.items ++ [it] })
    let fwd := match it.loc with
      | .win _ _ => bufFwd (r.1.course cid).buf it.loc a.size
      | _ => it.fwd
    match r.1.elemMiss cid it.loc a.size fwd with
    | some .page => (keep.1, keep.2, r.2.2 ++ [(it, Miss.page)])
    | some .poison =>
      if r.1.nanLoads cid a.type && !p.trapsPoison then
        (r.1.countAt cid, { r.2.1 with got := r.2.1.got ++ [(it.lane, BitVec.ofNat 64 (newNaN a.type 7 env.pc))] }, r.2.2)
      else (keep.1, keep.2, r.2.2 ++ [(it, Miss.poison)])
    | none =>
      let s := match it.loc with
        | .glob va => let g := r.1.group (r.1.course cid).group; r.1.l1Load g.bench g.cell (r.1.vdOf cid) va
        | _ => r.1
      let v := s.viewElem cid p.pc it a.size
      (v.1, { r.2.1 with got := r.2.1.got ++ [(it.lane, BitVec.ofNat 64 (leNat v.2))] }, r.2.2)) (s, { a with items := [] }, [])

/-- A plain load may be performed: its turn has come, and no granule of it is engine-owned. -/
def State.loadReady (s : State) (cid : Nat) (p : Pend) (a : Access) : Bool :=
  (s.course cid).turnOf p && a.items.all (fun it => s.winReady cid it.loc)

/-- Is this a plain load still to be performed? -/
def Pend.plainLoad (p : Pend) : Option Access :=
  match p.act with
  | .access a => if a.op = .load && !a.imm && !a.items.isEmpty then some a else none
  | _ => none

/-- Perform a course's plain loads that can be, before its own stores leave the buffer: a load reads what came before it
in program order (R287). [DESIGN CHOICE, log 70] -/
def State.loadsFirst (s : State) (cid : Nat) : State :=
  (s.course cid).pends.foldl (fun s p => match p.plainLoad with
    | some a =>
      if s.loadReady cid p a then
        let r := s.loadNow cid p a
        r.1.setPend cid { p with act := .access r.2.1 }
      else s
    | none => s) s

/-- FENCE.PUB and .REL of a course: earlier loads have read, then the buffer is performed (R295). -/
def State.release (s : State) (cid scope : Nat) : State :=
  ((s.loadsFirst cid).publish cid scope).escape (s.course cid).group 4 0

/-- The words of a FIFO that an element takes: wider elements are consecutive words, low word first (09 R271). -/
def fifoWords (size : Nat) : Nat := (size + 3) / 4

/-- The FIFO bank a window location lies in: its cell's key and the bank. -/
def State.fifoAt (s : State) (cid : Nat) (l : Loc) : Option (Nat × Nat) :=
  match l with
  | .win _ off =>
    (match s.locGroup cid l with
     | some gk =>
       let g := s.group gk
       (match g.place off with
        | some o => if (s.bankOf g.bench g.cell (o / 131072)).mode = BankMode.fifo then some (cellKey g.bench g.cell, o / 131072) else none
        | none => none)
     | none => none)
  | _ => none

/-- Does a pending instruction push to or pop from a FIFO? -/
def State.movesFifo (s : State) (cid : Nat) (p : Pend) : Bool :=
  match p.act with
  | .access a => a.items.any (fun it => (s.fifoAt cid it.loc).isSome)
  | _ => false

/-- Change a FIFO's contents. -/
def State.setFifo (s : State) (b : Nat × Nat) (q : List Half) : State :=
  let c := s.cell b.1
  s.setCell b.1 { c with banks := tset c.banks b.2 { tgetD c.banks b.2 {} with fifo := q } }

/-- Words leave a FIFO at its head. -/
def State.popFifo (s : State) (b : Nat × Nat) (n : Nat) : State :=
  let c := s.cell b.1
  let k := tgetD c.banks b.2 {}
  s.setCell b.1 { c with banks := tset c.banks b.2 { k with fifo := k.fifo.drop n, head := (k.head + n) % 32768 } }

/-- Do n words of a FIFO, from the i-th after its head on, hold uncorrectable data (09 R267)? -/
def State.fifoBad (s : State) (b : Nat × Nat) (i n : Nat) : Bool :=
  (List.range n).any (fun j =>
    let at_ := b.1 * sramBytes + b.2 * 131072 + 4 * (((tgetD (s.cell b.1).banks b.2 {}).head + i + j) % 32768)
    s.sramPoison.any (fun w => w < at_ + 4 && at_ < w + 8))

/-- Push or pop the lanes of an access that reach one FIFO, whole or not at all (09 R271); the list holds the lanes whose words are
uncorrectable data (09 R267), of which no value is read. -/
def State.fifoMove (s : State) (cid : Nat) (a : Access) (b : Nat × Nat) : Option (State × Access × List AccItem) :=
  let mine := a.items.filter (fun it => s.fifoAt cid it.loc = some b)
  let n := fifoWords a.size
  let q := (tgetD (s.cell b.1).banks b.2 {}).fifo
  let rest := { a with items := a.items.filter (fun it => !(s.fifoAt cid it.loc = some b)) }
  if a.op = .store then
    if 32768 < q.length + n * mine.length then none
    else some (s.setFifo b (q ++ mine.flatMap (fun it => (List.range n).map (fun i => BitVec.ofNat 32 (it.b.toNat % 2 ^ (8 * a.size) / 2 ^ (32 * i))))), rest, [])
  else
    if q.length < n * mine.length then none
    else
      let vals := mine.mapIdx (fun j it =>
        (it, s.fifoBad b (j * n) n, BitVec.ofNat 64 ((List.range n).foldl (fun x i => x + (q.getD (j * n + i) 0).toNat * 2 ^ (32 * i)) 0)))
      some (s.popFifo b (n * mine.length),
        { rest with got := rest.got ++ (vals.filter (fun v => !v.2.1)).map (fun v => (v.1.lane, v.2.2)) }, (vals.filter (·.2.1)).map (·.1))

/-- Does an operation read the word it acts on? -/
def AccOp.reads (o : AccOp) : Bool :=
  match o with
  | .store | .atom 1 | .tag 1 | .tag 2 | .tag 3 | .tag 4 => false
  | _ => true

/-- Does a location lie on a face that is not ready? -/
def State.locDown (s : State) (cid : Nat) (l : Loc) (size : Nat) : Bool :=
  match l with
  | .glob va => s.faceDown (s.vdOf cid) va size
  | _ => false

/-- What keeps an item from being performed at its home: uncorrectable data that it reads, or a face that has failed (01 R32). -/
def State.itemMiss (s : State) (cid : Nat) (o : AccOp) (it : AccItem) (size : Nat) : Option Miss :=
  match s.elemMiss cid it.loc size [] with
  | some .poison => if o.reads || s.locDown cid it.loc size then some .poison else none
  | r => r

/-- The lanes of a scratchpad store enter the buffer of their course. -/
def State.bufferSpad (s : State) (cid : Nat) (a : Access) : State :=
  let c := s.course cid
  let lw := (s.task (s.taskOf cid)).hdr.lw16
  s.setCourse cid { c with buf := a.items.foldl (fun b it => bufElem lw b a.seq a.half it.lane it.loc (it.bytes a.size)) c.buf }

/-- May a scratchpad store enter the buffer ahead of the crossbar's order: no earlier access of its course to one of its bytes is still to
be performed, and no .ACQ is outstanding? -/
def Course.mayAbsorb (c : Course) (p : Pend) (a : Access) : Bool :=
  (c.before p.id).all (fun q => !q.acquires && (match q.act with
    | .access b => b.items.all (fun j => a.items.all (fun i => !locMeets i.loc a.size j.loc b.size))
    | _ => true))

/-- The scratchpad stores that a course has issued enter its buffer before that is committed or published, whoever owns their granules:
neither waits for an engine (10 R293, R295). The answer says whether the nodes that they overlap are forced (11 R318). [DEDUCED, log 114] -/
def State.absorb (s : State) (cid : Nat) : State × Bool :=
  (s.course cid).pends.foldl (fun r p => match p.act with
    | .access a =>
      if a.op = AccOp.store && p.xbar && p.late.isNone && !a.items.isEmpty && !r.1.movesFifo cid p && (r.1.course cid).mayAbsorb p a then
        let f := r.1.forceItems cid a.items a.size p.pc p.id
        if f.2 then ((f.1.bufferSpad cid a).setPend cid { p with act := .access { a with items := [] } }, r.2) else (f.1, false)
      else r
    | _ => r) (s, true)

/-- Are the requests by route literal that the course issued before for the same window bytes performed (10 R294)? -/
def State.routedTurn (s : State) (cid : Nat) (p : Pend) : Bool :=
  ((s.course cid).before p.id).all (fun q => match q.act with
    | .remote _ _ _ _ _ => (s.pendRanges cid q).all (fun x => !(s.pendRanges cid p).any x.meets)
    | _ => true)

/-- Perform a load or store of the crossbar: FIFO lanes bank by bank, then the others together (17 R473). -/
def State.spadAccess (s : State) (cid : Nat) (p : Pend) (a : Access) : State :=
  match (a.items.filterMap (fun it => s.fifoAt cid it.loc)).head? with
  | some b =>
    (match s.fifoMove cid a b with
     | some (s, a, []) => s.stepAccess cid p a
     | some (s, a, bad) =>
       if s.nanLoads cid a.type && !p.trapsPoison then
         (s.countAt cid).stepAccess cid p { a with got := a.got ++ bad.map (fun it => (it.lane, BitVec.ofNat 64 (newNaN a.type 7 p.pc))) }
       else
         let p := { p with act := .access { a with items := bad ++ a.items } }
         (s.setPend cid p).missLate cid p (bad.map (fun it => (it, Miss.poison)))
     | none => s.again cid p.id)
  | none =>
    if !a.items.all (fun it => s.winReady cid it.loc) || (a.imm && !s.routedTurn cid p) then s.again cid p.id
    else if a.op = .store then
      let f := s.forceItems cid a.items a.size p.pc p.id
      if !f.2 then f.1.again cid p.id
      else (f.1.bufferSpad cid a).landAccess cid p { a with items := [] }
    else if a.imm then
      let bad := a.items.filterMap (fun it => (s.itemMiss cid a.op it a.size).map (fun m => (it, m)))
      let isBad := fun (it : AccItem) => bad.any (fun x => x.1 = it)
      let stops := !bad.isEmpty && (!s.nanLoads cid a.type || p.trapsPoison)
      let s := if !bad.isEmpty && !stops then s.countAt cid else s
      let vals := (a.items.filter (fun it => !stops || !isBad it)).map (fun it => (it.lane, BitVec.ofNat 64 (
        if isBad it then newNaN a.type 7 p.pc else s.homeElem cid it.loc a.size)))
      if stops then
        let p := { p with act := .access { a with items := a.items.filter isBad, got := a.got ++ vals } }
        (s.setPend cid p).missLate cid p bad
      else s.landAccess cid p { a with items := [], got := a.got ++ vals }
    else
      let r := s.loadNow cid p a
      let p := { p with act := .access r.2.1 }
      if r.2.2.isEmpty then r.1.landSoon cid p r.2.1.landed else (r.1.setPend cid p).missLate cid p r.2.2

/-- May a tag operation go on (17 R480)? -/
def State.tagReady (s : State) (cid : Nat) (o : AccOp) (l : Loc) : Bool :=
  match o, l with
  | .tag 0, .glob va => s.tagFull (s.vdOf cid) va
  | .tag 1, .glob va => !s.tagFull (s.vdOf cid) va
  | _, _ => true

/-- Does a FELD or FEST wait for its course: the lanes of a parked course wait again when it goes on (17 R481). -/
def State.tagSleeps (s : State) (cid : Nat) (o : AccOp) : Bool :=
  match o, (s.course cid).st with
  | .tag n, .parked _ _ => decide (n < 2)
  | _, _ => false

/-- The first item of an immediate access that can be performed now: one lane's wait holds back only later lanes of the
same word. [DESIGN CHOICE, log 71] -/
def State.nextItem (s : State) (cid : Nat) (p : Pend) (a : Access) : Option AccItem :=
  if !(s.course cid).turnOf p || !s.routedTurn cid p then none
  else
    (List.range a.items.length).findSome? (fun n => match a.items[n]? with
      | some it =>
        if (a.items.take n).all (fun j => j.loc ≠ it.loc) && (s.course cid).itemTurn p it a.size && (s.itemMiss cid a.op it a.size).isNone
            && s.winReady cid it.loc && s.tagReady cid a.op it.loc && !s.tagSleeps cid a.op then some it else none
      | none => none)

/-- Tags change with their word; a tag that becomes full sends its notice to the dispatchers that watch it (R479). -/
def State.changeTag (s : State) (vdn va : Nat) (f : Bool) : State :=
  let was := s.tagFull vdn va
  let s := s.setTag vdn va f
  if f && !was then s.post s.now .waitTagNotice (.nat vdn va s.now) else s

/-- Perform one item at its home, indivisibly (R294). -/
def State.performItem (s : State) (cid : Nat) (p : Pend) (a : Access) (it : AccItem) : State × Access :=
  let old := s.homeElem cid it.loc a.size
  let g := (s.course cid).group
  let vdn := s.vdOf cid
  let va := match it.loc with
    | .glob va => va
    | _ => 0
  let rest := { a with items := a.items.filter (fun j => j ≠ it) }
  let got := fun (v : Nat) => { rest with got := rest.got ++ [(it.lane, BitVec.ofNat 64 v)] }
  match a.op with
  | .atom n =>
    let s := s.homeWrite cid it.loc a.size (atomNew (s.fenv cid p.pc) n a.type old it.b.toNat it.c.toNat)
    let s := match it.loc with
      | .win h off => if h = (s.group g).g then s else s.escape g 0 (2 ^ 31 + h * 2 ^ 21 + off)
      | _ => s.escape g 0 va
    (s, got old)
  | .tag 0 => ((s.changeTag vdn va false).escape g 1 va, got old)
  | .tag 1 | .tag 2 => (((s.homeWrite cid it.loc 8 it.b.toNat).changeTag vdn va true).escape g 1 va, rest)
  | .tag 3 => ((s.changeTag vdn va false).escape g 1 va, rest)
  | .tag _ => (s, got (if s.tagFull vdn va then 1 else 0))
  | _ => (s, got old)

/-- Is a write that this operation performs one that forces nodes? -/
def AccOp.writes (o : AccOp) : Bool :=
  match o with
  | .atom 0 | .tag 0 | .tag 3 | .tag 4 | .load | .waita _ _ => false
  | _ => true

/-- One instant of an immediate access: one of its lanes is performed, or it waits, or the lanes left have missed; the lanes of a FELD or
FEST that sleep do not keep those that cannot be performed from parking (01 R32). [DESIGN CHOICE, log 71] -/
def State.immStep (s : State) (cid : Nat) (p : Pend) (a : Access) : State :=
  match s.nextItem cid p a with
  | some it =>
    let f := if a.op.writes then s.forceFor cid it.loc a.size p.pc p.id else (s, true)
    if !f.2 then f.1.again cid p.id
    else
      let r := f.1.performItem cid p a it
      r.1.stepAccess cid p r.2
  | none =>
    let ms := a.items.filterMap (fun it => (s.itemMiss cid a.op it a.size).map (fun m => (it, m)))
    let poisonLoad := fun (x : AccItem × Miss) => a.op = .load && x.2 = .poison && s.nanLoads cid a.type && !p.trapsPoison
    if !(s.course cid).turnOf p then s.again cid p.id
    else if ms.any poisonLoad then
      let now := (ms.filter poisonLoad).map (·.1)
      let nans := now.map (fun i => (i.lane, BitVec.ofNat 64 (newNaN a.type 7 p.pc)))
      (s.countAt cid).stepAccess cid p { a with items := a.items.filter (fun i => !now.contains i), got := a.got ++ nans }
    else if ms.length = a.items.length then s.missLate cid p ms
    else
      match a.op with
      | .tag _ =>
        if a.items.all (fun it => (s.course cid).itemTurn p it a.size) then (if ms.isEmpty then s else s.missLate cid p ms)
        else s.again cid p.id
      | _ => s.again cid p.id

/-- A plain load or a store to global memory: what can be performed is, and the lanes that do not translate park late. -/
def State.globAccess (s : State) (cid : Nat) (p : Pend) (a : Access) : State :=
  if a.op = .store && !(s.course cid).turnOf p then s.again cid p.id
  else if a.op = .store then
    let vdn := s.vdOf cid
    let ok := a.items.filter (fun it => (s.elemMiss cid it.loc a.size [] ≠ some .page))
    let f := s.forceItems cid ok a.size p.pc p.id
    if !f.2 then f.1.again cid p.id
    else
      let r := f.1.bufferItems cid a.seq a.half a.size ok
      let gone := a.items.filter (fun it => match it.loc with
        | .glob va => !(f.1.vd vdn).mapsAll va a.size
        | _ => false)
      let a := { a with items := r.2 ++ gone }
      let p := { p with act := .access a }
      match r.2, gone with
      | [], [] => r.1.landAccess cid p a
      | it :: _, _ => (r.1.setPend cid p).postOnce r.1.now .bufferedSectorEvict (.course cid p.id it.lane it.loc.addr)
      | [], _ => (r.1.setPend cid p).missLate cid p (gone.map (fun it => (it, Miss.page)))
  else if !s.loadReady cid p a then s.again cid p.id
  else
    let r := s.loadNow cid p a
    let p := { p with act := .access r.2.1 }
    if r.2.2.isEmpty then r.1.landSoon cid p r.2.1.landed else (r.1.setPend cid p).missLate cid p r.2.2

/-- WAITA: the value that satisfied COND, read at its home (17 R482). [DEDUCED, log 77] -/
def State.waitaNow (s : State) (cid : Nat) (a : Access) (cond : Nat) : Option Nat :=
  match a.items with
  | it :: _ =>
    if (s.elemMiss cid it.loc a.size []).isSome then none
    else
      let v := s.homeElem cid it.loc a.size
      if condWait cond a.type v it.b.toNat then some v else none
  | [] => none

/-- One look of a WAITA at its word: it ends when COND holds, or at its timeout. [DEDUCED, log 77] -/
def State.waitaStep (s : State) (cid : Nat) (p : Pend) (a : Access) (cond : Nat) (timeout : Bool) : State :=
  match a.items with
  | [] => s.landAccess cid p a
  | it :: _ =>
    if !(s.course cid).turnOf p || !(s.course cid).itemTurn p it a.size then
      s.postOnce (s.now + 1) (if timeout then .waitaTimeout else .waitaRecheck) (.course cid p.id 0 0)
    else
      match s.elemMiss cid it.loc a.size [] with
      | some m => s.missLate cid p [(it, m)]
      | none =>
        let v := s.homeElem cid it.loc a.size
        if condWait cond a.type v it.b.toNat || timeout then
          s.landAccess cid p { a with items := [], got := [(0, BitVec.ofNat 64 v)] }
        else s.setPend cid { p with act := .access { a with got := [(0, BitVec.ofNat 64 v)] } }

/-- INSTRUCTION_COMPLETE of an access. -/
def State.accessStep (s : State) (cid : Nat) (p : Pend) (a : Access) : State :=
  if a.items.isEmpty then s.landAccess cid p a
  else
    match a.op with
    | .waita cond _ => s.waitaStep cid p a cond false
    | .load | .store =>
      if p.xbar then (if (s.course cid).turnOf p then s.spadAccess cid p a else s.again cid p.id)
      else if a.imm then s.immStep cid p a
      else s.globAccess cid p a
    | _ => s.immStep cid p a

end Sys2Proof.Machine
end

