-- ==== Sys2Proof/Machine/Memory.lean ====
section
/-! DEFINITION. Loads and stores of global memory, prefetch, code and cache maintenance (17 R471, R472, R489 to R491). -/
namespace Sys2Proof.Machine

/-! ## Shared by the loads and the stores -/

/-- The scope of .ACQ, where it is given in the layout of majors 0x28 to 0x2c (R467). -/
def Ctx.acqScope (k : Ctx) : Option Nat := if k.x.ext.getLsbD 5 then some (k.x.ext.extractLsb' 6 3).toNat else none

/-- The destination of a vector load. -/
def Ctx.loadDest (k : Ctx) : Dest := .v k.x.vd.toNat (k.x.nwb ≠ 0)

/-- The zeroes that KZ writes into the lanes of k0 outside active. -/
def Ctx.loadZeros (k : Ctx) : List RegWrite := k.writeV k.x.type.toNat []

/-- Issue a load: what the course's own buffer holds is forwarded, the rest is read later (R287, R471). [DESIGN CHOICE, log 70] -/
def Ctx.issueLoad (k : Ctx) (as_ : List (Nat × Nat)) (dest : Dest) (zeros : List RegWrite) (mask : LaneMask := 0) : State :=
  let t := k.x.type.toNat
  let size := typeSize t
  let acq := k.acqScope
  let items := as_.map (fun p =>
    ({ lane := p.1, loc := .glob p.2, fwd := if acq.isSome then [] else bufFwd (k.s.bufAhead k.cid) (.glob p.2) size } : AccItem))
  (k.issueAt k.next zeros (.access { op := .load, type := t, size, acq, imm := acq.isSome, items, dest, since := k.s.now }) false mask).1

/-- A vector load of given lane addresses. -/
def Ctx.load (k : Ctx) (addr : Nat → Nat) : Out :=
  let as_ := k.lanes.map (fun l => (l, addr l))
  k.withGlob 1 (typeSize k.x.type.toNat) as_ false (fun k => k.issueLoad as_ k.loadDest k.loadZeros)

/-- Issue a buffered store: nodes it overlaps are forced, mapped lanes enter the buffer, the others follow at the face
controller (R471, 11 R318); behind an outstanding .ACQ all of them follow (10 R296). -/
def Ctx.issueStore (k : Ctx) (its : List AccItem) (mask : LaneMask := 0) : State :=
  let t := k.x.type.toNat
  let size := typeSize t
  let f := k.s.forceItems k.cid its size k.pc k.s.nextKey
  if !f.2 then { k with s := f.1 }.blocked
  else
    let mapped := fun (it : AccItem) => k.mayLeave && (match it.loc with
      | .glob va => (f.1.vd k.vdn).mapsAll va size
      | _ => true)
    let q := (f.1.course k.cid).takeSeq k.half
    let r := (f.1.setCourse k.cid q.2).bufferItems k.cid q.1 k.half size (its.filter mapped)
    let k := { k with s := r.1 }
    (k.issueAt k.next [] (.access { op := .store, type := t, size, items := r.2 ++ its.filter (fun it => !mapped it), seq := q.1, half := k.half }) false mask).1

/-- A vector store of given lane addresses and data. -/
def Ctx.store (k : Ctx) (addr data : Nat → Nat) : Out :=
  let as_ := k.lanes.map (fun l => (l, addr l))
  k.withGlob 2 (typeSize k.x.type.toNat) as_ false (fun k =>
    k.issueStore (as_.map (fun p => { lane := p.1, loc := .glob p.2, b := BitVec.ofNat 64 (data p.1) })))

/-! ## Vector loads and stores -/

/-- VLD, X form (R471). -/
def execVldX (x : XFields) (s : State) : Out :=
  withIssue (.vldX x) s (fun k => k.load (k.gaddr (typeSize x.type.toNat) 0))
/-- VLD, XL form: the literal is a byte offset (R469). -/
def execVldXl (x : XFields) (lit : Word) (s : State) : Out :=
  withIssue (.vldXl x lit) s (fun k => k.load (k.gaddr (typeSize x.type.toNat) lit))
/-- VST, X form (R471). -/
def execVstX (x : XFields) (s : State) : Out :=
  withIssue (.vstX x) s (fun k => k.store (k.gaddr (typeSize x.type.toNat) 0) (k.srcT x.type.toNat x.sb))
/-- VST, XL form. -/
def execVstXl (x : XFields) (lit : Word) (s : State) : Out :=
  withIssue (.vstXl x lit) s (fun k => k.store (k.gaddr (typeSize x.type.toNat) lit) (k.srcT x.type.toNat x.sb))
/-- VLDX: the address is SA plus a scaled index (R469, R471). -/
def execVldx (x : XFields) (s : State) : Out := withIssue (.vldx x) s (fun k => k.load k.xaddr)
/-- VSTX. -/
def execVstx (x : XFields) (s : State) : Out := withIssue (.vstx x) s (fun k => k.store k.xaddr (k.srcT x.type.toNat x.sc))

/-! ## Scalar loads and stores -/

/-- The address of SLD and SST. -/
def Ctx.saddr (k : Ctx) (lit : Word) : Nat := (k.srcS k.x.sa + lit).toNat

/-- SLD: once per issue; sd extended as R471 says. -/
def Ctx.sld (k : Ctx) (lit : Word) : Out :=
  k.withGlob 1 (typeSize k.x.type.toNat) [(0, k.saddr lit)] true (fun k =>
    k.issueLoad [(0, k.saddr lit)] (if k.x.nwb ≠ 0 then .none else .s (k.skey k.x.vd.toNat)) [] k.k0)

/-- SST: once per issue. -/
def Ctx.sst (k : Ctx) (lit : Word) : Out :=
  k.withGlob 2 (typeSize k.x.type.toNat) [(0, k.saddr lit)] true (fun k =>
    k.issueStore [{ lane := 0, loc := .glob (k.saddr lit), b := k.srcS k.x.sb }] k.k0)

/-- SLD, X form. -/
def execSldX (x : XFields) (s : State) : Out := withIssue (.sldX x) s (fun k => k.sld 0)
/-- SLD, XL form. -/
def execSldXl (x : XFields) (lit : Word) (s : State) : Out := withIssue (.sldXl x lit) s (fun k => k.sld lit)
/-- SST, X form. -/
def execSstX (x : XFields) (s : State) : Out := withIssue (.sstX x) s (fun k => k.sst 0)
/-- SST, XL form. -/
def execSstXl (x : XFields) (lit : Word) (s : State) : Out := withIssue (.sstXl x lit) s (fun k => k.sst lit)

/-! ## Prefetch, caches and code -/

/-- PREF, X form: no value changes and it never faults; its flag is released in the next cycle (R472). [DESIGN CHOICE, log 95] -/
def execPrefX (x : XFields) (s : State) : Out := regInstr (.prefX x) s (fun _ => [])
/-- PREF, XL form. -/
def execPrefXl (x : XFields) (lit : Word) (s : State) : Out := regInstr (.prefXl x lit) s (fun _ => [])
/-- CFLUSH: writes back lines; no value that a program can observe changes (R491). [DESIGN CHOICE, log 95] -/
def execCflush (x : XFields) (s : State) : Out := regInstr (.cflush x) s (fun _ => [])
/-- CINV: discards clean sectors; no value that a program can observe changes (R491). [DESIGN CHOICE, log 95] -/
def execCinv (x : XFields) (s : State) : Out := regInstr (.cinv x) s (fun _ => [])

/-- IFENCE: the issuing course fetches afresh from now on (R489). [DEDUCED, log 75] -/
def execIfence (x : XFields) (s : State) : Out :=
  withIssue (.ifence x) s (fun k =>
    let s := k.issue []
    .next (s.setCourse k.cid { s.course k.cid with staleI := [], loop := 0, loopI := [] }))

/-- Is a course within a scope's reach of the issuing one, by the place of its core (R490: cell, bench, face, quarry)? -/
def State.coreInScope (s : State) (a b scope : Nat) : Bool :=
  let g := s.group (s.course a).group
  let h := s.group (s.course b).group
  match scope with
  | 0 => g.bench = h.bench && g.cell = h.cell
  | 1 => g.bench = h.bench
  | 2 => g.bench / 2 = h.bench / 2
  | _ => true

/-- The instruction caches of the cores that run some courses are invalid and their loop buffers stale: a course may be running from one,
which is left open, and may then issue up to 64 more instructions from it (R490, 07 R203). [DEDUCED, log 75] -/
def State.staleLoops (s : State) (mine : Nat → Bool) : State :=
  { s with courses := s.courses.map (fun p =>
      if !mine p.1 then p
      else
        let c := p.2
        let inLoop := s.freeNat (2 ^ 27 + p.1) % 2 = 1
        (p.1, { c with staleI := [], loop := if 0 < c.loop then c.loop else if inLoop then 64 else 0
                       loopVar := if 0 < c.loop then c.loopVar else (s.bench (s.group c.group).bench).variant
                       loopI := if 0 < c.loop then c.loopI else c.staleI })) }

/-- ICINV: the instruction caches of every core at the scope are invalid for the issuing virtual device (R490). [DEDUCED, log 75] -/
def execIcinv (x : XFields) (s : State) : Out :=
  withIssue (.icinv x) s (fun k =>
    let s := k.issue []
    let sc := (x.ext.extractLsb' 0 3).toNat
    .next (s.staleLoops (fun c => s.vdOf c = k.vdn && s.coreInScope k.cid c sc)))

end Sys2Proof.Machine
end

