-- ==== Sys2Proof/Machine/Scratch.lean ====
section
/-! DEFINITION. Scratchpad accesses and the switch of a bank's mode (17 R473, R474, R492, 09 R268 to R271). -/
namespace Sys2Proof.Machine

/-- PLD: a plain load, with .ACQ an immediate one, of window or cluster addresses (R473). -/
def execPld (x : XFields) (s : State) : Out :=
  withIssue (.pld x) s (fun k =>
    let t := x.type.toNat
    let size := typeSize t
    let as_ := k.lanes.map (fun l => (l, k.paddr size l))
    k.withSpad true size as_ (fun k =>
      let items := as_.map (fun p => ({ lane := p.1, loc := k.spadLoc size p.2 } : AccItem))
      (k.issueAt k.next k.loadZeros (.access { op := .load, type := t, size, acq := k.acqScope, imm := k.acqScope.isSome, items
                                               dest := k.loadDest }) false 0 true).1))

/-- PST: its bytes enter the course's buffer in the crossbar's order, or are pushed into a FIFO (R473, 09 R271, R279). -/
def execPst (x : XFields) (s : State) : Out :=
  withIssue (.pst x) s (fun k =>
    let t := x.type.toNat
    let size := typeSize t
    let as_ := k.lanes.map (fun l => (l, k.paddr size l))
    k.withSpad true size as_ (fun k =>
      let items := as_.map (fun p => ({ lane := p.1, loc := k.spadLoc size p.2, b := BitVec.ofNat 64 (k.srcT t x.sb p.1) } : AccItem))
      let q := (k.s.course k.cid).takeSeq k.half
      let k := { k with s := k.s.setCourse k.cid q.2 }
      (k.issueAt k.next [] (.access { op := .store, type := t, size, items, seq := q.1, half := k.half }) false 0 true).1))

/-! ## Cells by route literal (R474) -/

/-- The first cause of a routed scratchpad address; a retired cell of this module is dead at issue (07 R218). -/
def Ctx.routedCause (k : Ctx) (route : Word) (size a : Nat) : Option Nat :=
  let retired := routeKind route = 0 && (k.s.bench (routeBench route)).failed.getLsbD (routeCell route)
  if 1572864 ≤ a then some 0x0f else if a % size ≠ 0 then some 0x0e else if k.s.routeDead route || retired then some 0x15 else none

/-- Issue a request by route literal: it leaves by its port, unless an earlier .ACQ holds it back (10 R296), or this module performs it. -/
def Ctx.issueRemote (k : Ctx) (route : Word) (op : FabOp) (dest : Dest) (acq : Option Nat) (ws : List RegWrite) : State :=
  let far := routeKind route = 1 && k.mayLeave
  let r := k.issueAt k.next ws (.remote route op dest k.x.type.toNat acq) far k.k0
  if far then r.1.request (dieOf k.g.bench) route k.vdn op none false (fun o => { o with course := some (k.cid, r.2) }) else r.1

/-- PLDR: each lane reads the target bank (R474). -/
def execPldr (x : XFields) (route : Word) (s : State) : Out :=
  withIssue (.pldr x route) s (fun k =>
    let size := typeSize x.type.toNat
    let as_ := k.lanes.map (fun l => (l, k.paddr size l))
    match k.laneFault (as_.map (fun p => (p.1, p.2, k.routedCause route size p.2))) with
    | some s => .next s
    | none =>
      if as_.isEmpty then .next (k.issueAt k.next k.loadZeros .none).1
      else .next (k.issueRemote route (.bankLoad (routeBench route) (routeCell route) size as_) k.loadDest none k.loadZeros))

/-- PSTR: each lane writes the target bank, in ascending lane order (R474); on another module it escapes as it leaves (06 R182). -/
def execPstr (x : XFields) (route : Word) (s : State) : Out :=
  withIssue (.pstr x route) s (fun k =>
    let size := typeSize x.type.toNat
    let as_ := k.lanes.map (fun l => (l, k.paddr size l))
    match k.laneFault (as_.map (fun p => (p.1, p.2, k.routedCause route size p.2))) with
    | some s => .next s
    | none =>
      if as_.isEmpty then .next (k.issueAt k.next [] .none).1
      else
        let vals := as_.map (fun p => (p.1, p.2, BitVec.ofNat 64 (k.srcT x.type.toNat x.sb p.1)))
        let s := if routeKind route = 1 then as_.foldl (fun s p => s.escape k.c.group 5 p.2) k.s else k.s
        .next ({ k with s }.issueRemote route (.bankStore k.pc (routeBench route) (routeCell route) size vals) .none none []))

/-! ## Bank modes (R492, 09 R269) -/

/-- The mode of a code of R268. -/
def bankMode (n : Nat) : BankMode :=
  match n with
  | 0 => .cache
  | 1 => .spad
  | 2 => .fifo
  | _ => .spill

/-- Does a COPY or COPYM reach a part of a group's window, from an offset below another? -/
def Copy.reaches (c : Copy) (gk lo hi off n : Nat) : Bool :=
  (if c.recv.isEmpty then [c.group] else c.recv).contains gk && !(c.out && c.fill.isSome) && decide (off < hi) && decide (lo < off + n)

/-- Does an instruction issued before still have to reach a bank of a group's window: an access, an array instruction, or a copy that waits
for its granules or has segments left (R270)? -/
def State.bankBusy (s : State) (gk bank : Nat) : Bool :=
  let lo := bank * 131072
  let hi := lo + 131072
  s.courses.any (fun p => p.2.pends.any (fun q =>
    (s.pendRanges p.1 q).any (fun x => x.meets { win := true, id := gk, lo, hi }) || (match q.act with
      | .engine (.copy c _ off n) => c.reaches gk lo hi off n
      | _ => false)))
    || s.copies.any (fun p => p.2.batch.isNone && p.2.segs.any (fun x => !x.done && p.2.reaches gk lo hi x.off x.len))

/-- The lowest engine-owned granule of a window bank in scratchpad mode (R269). -/
def State.engineGranule (s : State) (gk bank : Nat) : Option Nat :=
  let g := s.group gk
  if (s.bankOf g.bench g.cell (g.banks.getD bank 0)).mode ≠ .spad then none
  else ((List.range 32).map (· + 32 * bank)).find? (fun n => (s.holder gk n).isSome)

/-- Switch a bank: what it holds leaves it or is discarded, and it starts empty in its new mode (R269). Buffered stores of the group to
a scratchpad bank are contents of its courses' buffers, and stay there. -/
def State.switchBank (s : State) (gk bank : Nat) (m : BankMode) : State :=
  let g := s.group gk
  match g.banks[bank]? with
  | none => s
  | some b =>
    let k := cellKey g.bench g.cell
    let s := s.drainBank g.bench g.cell b
    let c := s.cell k
    (s.setCell k { c with banks := tset c.banks b { tgetD c.banks b {} with mode := m, owner := some gk } }).zeroBank g.bench g.cell b

/-- SBMODE: waits for the accesses that issued before it, then the bank has its new mode (R270, R492). -/
def execSbmode (x : XFields) (s : State) : Out :=
  withIssue (.sbmode x) s (fun k =>
    let m := bankMode (x.ext.extractLsb' 0 2).toNat
    let b := (x.ext.extractLsb' 2 4).toNat
    if k.g.banks.length ≤ b then .next (k.fault 0x0f 0 (BitVec.ofNat 64 b) 0 k.k0)
    else
      match k.s.engineGranule k.c.group b with
      | some n => .next (k.fault 0x0f 0 (BitVec.ofNat 64 (n * 4096)) 0 k.k0)
      | none =>
        if k.s.bankBusy k.c.group b then .next k.blocked
        else .next ((k.issue []).switchBank k.c.group b m))

end Sys2Proof.Machine
end

