-- ==== Sys2Proof/Machine/Atomics.lean ====
section
/-! DEFINITION. Atomics, full/empty tags and WAITA (17 R475 to R482). -/
namespace Sys2Proof.Machine

/-- .ACQ and .REL of majors 0x2d and 0x2e (R467), and their scope. -/
def Ctx.scope (k : Ctx) : Nat := (k.x.ext.extractLsb' 6 3).toNat
def Ctx.acq (k : Ctx) : Option Nat := if k.x.ext.getLsbD 4 then some k.scope else none
def Ctx.rel (k : Ctx) : Bool := k.x.ext.getLsbD 5
/-- OP or COND. -/
def Ctx.opCode (k : Ctx) : Nat := (k.x.ext.extractLsb' 0 4).toNat

/-- The permission an OP needs: read, and write but for .ld (R475). -/
def atomNeed (op : Nat) : Nat := if op = 0 then 1 else 3

/-- Force the nodes that a course's buffered stores overlap: a publish is a write (11 R318). -/
def State.forceBuffer (s : State) (cid : Nat) (pc : Word) : State × Bool :=
  let r := s.absorb cid
  let its := (r.1.course cid).buf.map (fun e => ({ lane := 0, loc := e.loc } : AccItem))
  let f := r.1.forceItems cid its 1 pc r.1.nextKey
  (f.1, r.2 && f.2)

/-- Is a store still on its way to the buffer: to global memory, whose sector has no place yet (09 R272)? -/
def Pend.storing (p : Pend) : Bool :=
  match p.act with
  | .access a => a.op = AccOp.store && !p.xbar && !a.items.isEmpty
  | _ => false

/-- May a course publish: no earlier .ACQ is outstanding, and its stores to global memory are all in its buffer (R295, R296)? No other
party is waited for. -/
def State.canPublish (s : State) (cid : Nat) : Bool :=
  let c := s.course cid
  c.pends.all (fun p => !p.acquires && !p.storing)

/-- .REL: FENCE.PUB at SCOPE comes first; the instruction waits to issue until that can be done (R296). -/
def Ctx.releasedIf (k : Ctx) (rel : Bool) (f : Ctx → State) : State :=
  if !rel then f k
  else
    let r := k.s.forceBuffer k.cid k.pc
    let k := { k with s := r.1 }
    if !r.2 || !r.1.canPublish k.cid then k.blocked
    else
      let s := r.1.release k.cid k.scope
      f { k with s, c := s.course k.cid }

/-- The same for an instruction of majors 0x2d and 0x2e. -/
def Ctx.released (k : Ctx) (f : Ctx → State) : State := k.releasedIf k.rel f

/-- Items of a per-lane atomic or tag access. -/
def Ctx.items (k : Ctx) (as_ : List (Nat × Loc)) (t : Nat) : List AccItem :=
  as_.map (fun p => { lane := p.1, loc := p.2, b := BitVec.ofNat 64 (k.srcT t k.x.sb p.1), c := BitVec.ofNat 64 (k.srcT t k.x.sc p.1) })

/-- Issue a per-lane atomic. -/
def Ctx.issueAtom (k : Ctx) (as_ : List (Nat × Loc)) (xbar : Bool) : State :=
  k.released (fun k =>
    let t := k.x.type.toNat
    let dest := if k.opCode = 1 then .none else k.loadDest
    (k.issueAt k.next (if k.opCode = 1 then [] else k.loadZeros)
      (.access { op := .atom k.opCode, type := t, size := typeSize t, acq := k.acq, imm := true, items := k.items as_ t, dest }) false 0 xbar).1)

/-- VATOM (R477). -/
def execVatom (x : XFields) (s : State) : Out :=
  withIssue (.vatom x) s (fun k =>
    let as_ := k.lanes.map (fun l => (l, (k.srcP x.sa l).toNat))
    k.withGlob (atomNeed k.opCode) (typeSize x.type.toNat) as_ false (fun k =>
      k.issueAtom (as_.map (fun p => (p.1, .glob p.2))) false))

/-- PATOM (R477): a FIFO-mode bank raises SCRATCH_RANGE. -/
def execPatom (x : XFields) (s : State) : Out :=
  withIssue (.patom x) s (fun k =>
    let size := typeSize x.type.toNat
    let as_ := k.lanes.map (fun l => (l, (k.srcV x.sa l).toNat))
    k.withSpad false size as_ (fun k => k.issueAtom (as_.map (fun p => (p.1, k.spadLoc size p.2))) true))

/-- RATOM, X form: once per issue, at the home on this module (R478). -/
def execRatomX (x : XFields) (s : State) : Out :=
  withIssue (.ratomX x) s (fun k =>
    let t := x.type.toNat
    let a := (k.srcS x.sa).toNat
    k.withGlob (atomNeed k.opCode) (typeSize t) [(0, a)] true (fun k =>
      k.released (fun k =>
        let dest := if k.opCode = 1 || x.nwb ≠ 0 then .none else .s (k.skey x.vd.toNat)
        (k.issueAt k.next []
          (.access { op := .atom k.opCode, type := t, size := typeSize t, acq := k.acq, imm := true
                     items := [{ lane := 0, loc := .glob a, b := k.srcS x.sb, c := k.srcS x.sc }], dest }) false k.k0).1)))

/-- The first cause of a routed global address (R470). -/
def Ctx.farCause (k : Ctx) (route : Word) (size a : Nat) : Option Nat :=
  if 2 ^ 57 ≤ a then some 2 else if a % size ≠ 0 then some 0x0e else if k.s.routeDead route then some 0x15 else none

/-- RATOM, XL form: a tagged request to another module (R478, 02 R60). A route of KIND 0x0 is reserved. -/
def execRatomXl (x : XFields) (route : Word) (s : State) : Out :=
  withIssue (.ratomXl x route) s (fun k =>
    let t := x.type.toNat
    let a := (k.srcS x.sa).toNat
    match k.laneFault [(0, a, k.farCause route (typeSize t) a)] (some k.k0) with
    | some s => .next s
    | none =>
      .next (k.released (fun k =>
        let dest := if k.opCode = 1 || x.nwb ≠ 0 then .none else .s (k.skey x.vd.toNat)
        let s := k.s.escape k.c.group 0 a
        { k with s }.issueRemote route
          (.ratom k.opCode t k.t.hdr.evm k.pc (BitVec.ofNat 64 a) (k.srcS x.sb) (k.srcS x.sc)) dest k.acq [])))

/-! ## Full/empty tags (R480) -/

/-- Issue a tag instruction: its MIN, its permission, its destination and the writes that KZ asks for. -/
def Ctx.tag (k : Ctx) (n need : Nat) (dest : Dest) (zeros : Ctx → List RegWrite) : Out :=
  let as_ := k.lanes.map (fun l => (l, (k.srcP k.x.sa l).toNat))
  k.withGlob need 8 as_ false (fun k =>
    k.released (fun k =>
      (k.issueAt k.next (zeros k)
        (.access { op := .tag n, type := 7, size := 8, acq := k.acq, imm := true
                   items := as_.map (fun p => { lane := p.1, loc := .glob p.2, b := k.srcP k.x.sb p.1 }), dest })).1))

/-- FELD: waits for a full tag, reads the word and empties it. -/
def execFeld (x : XFields) (s : State) : Out :=
  withIssue (.feld x) s (fun k => k.tag 0 1 (.v x.vd.toNat false) (fun k => k.writeV 7 []))
/-- FEST: waits for an empty tag, writes the word and fills it. -/
def execFest (x : XFields) (s : State) : Out := withIssue (.fest x) s (fun k => k.tag 1 2 .none (fun _ => []))
/-- FEFILL: writes the word and fills the tag. -/
def execFefill (x : XFields) (s : State) : Out := withIssue (.fefill x) s (fun k => k.tag 2 2 .none (fun _ => []))
/-- FECLR: empties the tag. -/
def execFeclr (x : XFields) (s : State) : Out := withIssue (.feclr x) s (fun k => k.tag 3 2 .none (fun _ => []))
/-- FEQRY: reads the tags into a mask. -/
def execFeqry (x : XFields) (s : State) : Out :=
  withIssue (.feqry x) s (fun k => k.tag 4 1 (.k x.vd.toNat) (fun k => k.writeK []))

/-! ## WAITA (R482) -/

/-- WAITA: waits until COND holds of the word at its home, or until its timeout. -/
def execWaita (x : XFields) (s : State) : Out :=
  withIssue (.waita x) s (fun k =>
    let t := x.type.toNat
    let a := (k.srcS x.sa).toNat
    k.withGlob 1 (typeSize t) [(0, a)] true (fun k =>
      let lim := (k.srcS x.sc).toNat
      let r := k.issueAt k.next []
        (.access { op := .waita k.opCode (if lim = 0 then none else some lim), type := t, size := typeSize t, acq := k.acq, imm := true
                   items := [{ lane := 0, loc := .glob a, b := k.srcS x.sb }], dest := .s (k.skey x.vd.toNat), since := k.s.now }) false k.k0
      if lim = 0 then r.1 else r.1.post (k.s.now + lim) .waitaTimeout (.course k.cid r.2 0 0)))

end Sys2Proof.Machine
end

