-- ==== Sys2Proof/Machine/Lease.lean ====
section
/-! DEFINITION. Lease tables of a core and reads of the kernel's tables in memory: header, bridge table (05 R147, 13 R391,
R393). -/
namespace Sys2Proof.Machine

/-- Register demand of a kernel for a profile. -/
def KHdr.demand (h : KHdr) (d : Bool) : Nat := if d then h.regsD else h.regsL

/-- Rows that a register demand leases (R147). -/
def rowsFor (n : Nat) : Nat := (n + 7) / 8

/-- Courses that hold a slot and rows on a core: alive, their group not saved. -/
def State.residents (s : State) (bench cell : Nat) (dcore : Bool) : List (Nat × Course) :=
  s.courses.filter (fun p => p.2.alive && p.2.dcore = dcore &&
    (let g := s.group p.2.group
     g.bench = bench && g.cell = cell && !g.saved))

/-- Register demand a course leases: of the profile that its core kind names (R254). -/
def State.courseDemand (s : State) (c : Course) : Nat := (s.task (s.group c.group).task).hdr.demand c.dcore

/-- Rows and slots of a core kind (R226). -/
def coreRows (dcore : Bool) : Nat := if dcore then 512 else 128
def coreSlots (dcore : Bool) : Nat := if dcore then 48 else 4

/-- Rows in use on a core. -/
def State.rowsUsed (s : State) (bench cell : Nat) (dcore : Bool) : Nat :=
  ((s.residents bench cell dcore).map (fun p => rowsFor (s.courseDemand p.2))).foldl (· + ·) 0

/-- The free slots of a core in ascending order. -/
def State.freeSlots (s : State) (bench cell : Nat) (dcore : Bool) : List Nat :=
  (List.range (coreSlots dcore)).filter (fun n => !(s.residents bench cell dcore).any (fun p => p.2.slot = n))

/-- Does a core have a free slot and rows for a demand? -/
def State.coreFits (s : State) (bench cell : Nat) (dcore : Bool) (n : Nat) : Bool :=
  !(s.freeSlots bench cell dcore).isEmpty && s.rowsUsed bench cell dcore + rowsFor n ≤ coreRows dcore

/-- Words of a byte string. -/
def wordsLE : Nat → List Byte → List Half
  | 0, _ => []
  | n + 1, l => BitVec.ofNat 32 (fieldB l 0 4) :: wordsLE n (l.drop 4)

/-- A kernel header from its 256 bytes (R391); reserved bytes are ignored. -/
def hdrOf (l : List Byte) : KHdr :=
  let m := fieldB l 6 2
  { magic := fieldB l 0 4, ver := fieldB l 4 1, isa := fieldB l 5 1, lw16 := m.testBit 0, interlock := m.testBit 1
    evm := m.testBit 2, shadow := m.testBit 3, idem := m.testBit 4, trapmask := BitVec.ofNat 16 (fieldB l 8 2 &&& 0x01fe)
    regsL := fieldB l 10 2, regsD := fieldB l 12 2, prof := (fieldB l 14 1).testBit 0, scratch := fieldB l 16 4
    brcount := fieldB l 20 2, broff := sext 64 (fieldB l 24 8), other := sext 64 (fieldB l 32 8)
    rvstride := fieldB l 40 4, rvcount := fieldB l 44 2, schedL := wordsLE 16 (sliceB l 64 64)
    schedD := wordsLE 16 (sliceB l 128 64) }

/-- A 64-bit address moved by a signed offset. -/
def addOff (a : Nat) (o : Int) : Nat := wrapTo 64 ((a : Int) + o)

/-- Scratchpad banks of a demand (05 R147). -/
def banksFor (n : Nat) : Nat := (n + 131071) / 131072

/-- The schedule table of a profile, as the kernel header holds it now; where the header can no longer be read, as the dispatch read it
(R387). [DESIGN CHOICE, log 112] -/
def State.tableOf (s : State) (tk : Nat) (prof : Bool) : List Half :=
  let t := s.task tk
  let a := addOff t.trec.entry.toNat (-256) + (if prof then 128 else 64)
  if (s.vd t.vd).mapsAll a 64 && !s.poisoned t.vd a 64 then wordsLE 16 (s.peekVA t.vd a 64)
  else if prof then t.hdr.schedD else t.hdr.schedL

/-- The count and the stride of a kernel's route variants, as the header holds them now (R400). [DEDUCED, log 45] -/
def State.readVariants (s : State) (tk : Nat) : State :=
  let t := s.task tk
  let a := addOff t.trec.entry.toNat (-256) + 40
  let l := s.peekVA t.vd a 6
  if (s.vd t.vd).mapsAll a 6 && !s.poisoned t.vd a 6 then
    s.setTask tk { t with hdr := { t.hdr with rvstride := fieldB l 0 4, rvcount := fieldB l 4 2 } }
  else s

/-- A bridge-table entry (R393). -/
structure Bridge where
  id : Nat
  kind : Nat
  mapn : Nat
  pcl : Word
  pcd : Word
  mapAt : Nat
  deriving DecidableEq, Repr

/-- Entry n of a bridge table at an address. -/
def State.bridgeEntry (s : State) (vdn tbl n : Nat) : Bridge :=
  let l := s.peekVA vdn (tbl + 32 * n) 32
  { id := fieldB l 0 2, kind := fieldB l 2 1, mapn := fieldB l 4 4, pcl := BitVec.ofNat 64 (fieldB l 8 8)
    pcd := BitVec.ofNat 64 (fieldB l 16 8), mapAt := tbl + fieldB l 24 8 }

/-- Where a task's bridge table lies. -/
def Task.bridgeAt (t : Task) : Nat := addOff (t.trec.entry.toNat - 256) t.hdr.broff

/-- The bridge point with an id (R249). -/
def State.findBridge (s : State) (t : Task) (id : Nat) : Option Bridge :=
  ((List.range t.hdr.brcount).map (s.bridgeEntry t.vd t.bridgeAt)).find? (fun b => b.kind = 0 && b.id = id)

/-- The node site at an appending PC (11 R315): its PC in the other profile, 0 when there is none. -/
def State.nodeSite (s : State) (t : Task) (prof : Bool) (pc : Word) : Word :=
  match ((List.range t.hdr.brcount).map (s.bridgeEntry t.vd t.bridgeAt)).find?
      (fun b => b.kind = 1 && (if prof then b.pcd else b.pcl) = pc) with
  | some b => if prof then b.pcl else b.pcd
  | none => 0

/-- The register map of a bridge point: number in L, number in D, pair (R393). -/
def State.bridgeMap (s : State) (vdn : Nat) (b : Bridge) : List (Nat × Nat × Bool) :=
  (List.range b.mapn).map (fun i =>
    let w := leNat (s.peekVA vdn (b.mapAt + 4 * i) 4)
    (bits w 7 0, bits w 15 8, w.testBit 16))

end Sys2Proof.Machine
end

