-- ==== Sys2Proof/Machine/Control.lean ====
section
/-! DEFINITION. Waits, branches, splits and reconvergence, exit, tail, migration points, traps and the dispatcher
instructions (08 R236 to R250, R539, 15 R431 to R440). -/
namespace Sys2Proof.Machine

/-! ## Splits and held lanes -/

/-- A pending instruction whose results to latches are lost. -/
def Pend.noLatch (p : Pend) : Pend := { p with writes := p.writes.filter (fun w => match w with
  | .b _ _ _ => false
  | _ => true) }

/-- Latches read zero outside interlocked mode, and results on their way to them are lost (R235). -/
def Course.clearLatches (c : Course) (il : Bool) : Course := if il then c else { c with b := [], pends := c.pends.map Pend.noLatch }

/-- The split numbers of a half: all four, or two of each half under LW16 (R255). -/
def splitNumbers (lw : Bool) (half : Nat) : List Nat := if lw then [2 * half, 2 * half + 1] else [0, 1, 2, 3]

/-- The half of a split number. -/
def halfOfSplit (lw : Bool) (w : Nat) : Nat := if lw && 2 ≤ w then 1 else 0

/-- The lowest free split number of a half. -/
def Course.freeSplit (c : Course) (lw : Bool) (half : Nat) : Option Nat :=
  (splitNumbers lw half).find? (fun n => (tget c.splits n).isNone)

/-- Give split n the flag counts of split w (R237, R238, R539). -/
def Course.copyFlags (c : Course) (w n : Nat) : Course :=
  { c with pends := c.pends.map (fun p => if p.splits.getLsbD w then { p with splits := p.splits ||| splitBit n } else p) }

/-- The `excess` of the split that some splits merge into: its counter is the sum of theirs, each instruction counted once, and 63 at
most (R238). -/
def Course.mergedExcess (c : Course) (ws : List Nat) (m : BitVec 4) : FMap Nat :=
  (List.range 12).foldl (fun o f =>
    let n := c.pends.countP (fun p => p.flag = some f && p.splits &&& m ≠ 0)
    let less := ws.foldl (fun a w => a + min (tgetD (tgetD c.splits w {}).excess f 0) (c.counted w f)) 0
    tput 0 o f (n - min 63 (n - less))) []

/-- Splits `ws` merge into split n, one of them: their counts are its, and so are the groups that they hold (R238, R539). -/
def Course.mergeFlags (c : Course) (ws : List Nat) (n : Nat) : Course :=
  let m := ws.foldl (fun m w => m ||| splitBit w) (0 : BitVec 4)
  let excess := c.mergedExcess ws m
  { c with pends := c.pends.map (fun p => if p.splits &&& m = 0 then p
                                          else { p with splits := (p.splits &&& ~~~m) ||| splitBit n })
           splits := tmod (ws.foldl (fun t w => if w = n then t else tdel t w) c.splits) n (fun sp => { sp with excess })
           held := c.held.map (fun h => if h.counts.isNone && ws.contains h.split then { h with split := n } else h) }

/-- A split ends: its number is free, and its counts stay with the groups that it holds (R243, R539). -/
def Course.endSplit (c : Course) (w : Nat) : Course :=
  let mine := (c.pends.filter (fun p => p.splits.getLsbD w)).map (·.id)
  { c with splits := tdel c.splits w, pends := c.pends.map (fun p => { p with splits := p.splits &&& ~~~splitBit w })
           held := c.held.map (fun h => if h.counts.isNone && h.split = w then { h with counts := some (mine, (tgetD c.splits w {}).excess) } else h) }

/-- The instruction after a REJOIN, PHASE or BAR, all X forms of 12 bytes. -/
def afterX (pc : Word) : Word := pc + 12

/-- Split n starts with the lanes of a group of held lanes and the flags of its holding split (R539). -/
def Course.startGroup (c : Course) (n : Nat) (h : Held) : Course :=
  let mine := fun (x : Held) => x.ended && x.split = h.split && x.pc = h.pc && x.counts = h.counts
  let c : Course := { c with
                    splits := tset c.splits n { pc := afterX h.pc, mask := ((c.held.filter mine).map (·.mask)).foldl (· ||| ·) 0
                                                excess := (h.counts.map (·.2)).getD (tgetD c.splits h.split {}).excess }
                    held := c.held.filter (fun x => !mine x) }
  match h.counts with
  | some x => { c with pends := c.pends.map (fun p => if x.1.contains p.id then { p with splits := p.splits ||| splitBit n } else p) }
  | none => c.copyFlags h.split n

/-- Groups of held lanes whose wait has ended, each the lanes of one holding split at one PC, take the lowest free numbers, in ascending
order of their holding split and then of PC (R539); a group that finds none stays held. -/
def Course.startHeld (lw : Bool) (c : Course) : Course :=
  let order := sortBy (fun (a b : Held) => a.split < b.split || (a.split = b.split && a.pc.toNat ≤ b.pc.toNat)) (c.held.filter (·.ended))
  order.foldl (fun c h =>
    if !c.held.contains h then c
    else
      match c.freeSplit lw (halfOfSplit lw h.split) with
      | none => c
      | some n => c.startGroup n h) c

/-- A split goes on at a stack entry: back to a branch target, it has left a stale loop buffer (07 R203). -/
def Course.popTo (c : Course) (pc target : Word) : Course := if target.toNat ≤ pc.toNat then c.leaveLoop else c

/-- A split all of whose lanes wait, with a stack entry left, holds them and continues at the entry (R239, R539). -/
def Course.popWaiting (il : Bool) (w : Nat) (c : Course) : Course :=
  match tget c.splits w with
  | none => c
  | some sp =>
    match sp.wait, sp.stack with
    | .run, _ => c
    | wt, (pc, m) :: st =>
      { ((c.clearLatches il).popTo sp.pc pc) with
          splits := tset c.splits w { sp with pc, mask := m, stack := st, wait := .run }
          held := c.held ++ [{ split := w, pc := sp.pc, mask := sp.mask, wait := wt }] }
    | _, [] => c

/-- A split left without lanes pops its stack, or ends (R243). -/
def Course.popEmpty (il : Bool) (w : Nat) (c : Course) : Course :=
  match tget c.splits w with
  | none => c
  | some sp =>
    if sp.mask ≠ 0 then c
    else
      match sp.stack with
      | (pc, m) :: st => { ((c.clearLatches il).popTo sp.pc pc) with splits := tset c.splits w { sp with pc, mask := m, stack := st, wait := .run } }
      | [] => c.endSplit w

/-- The waiting sets of REJOIN: places and masks (R241). -/
def Course.rejoinSets (c : Course) : List (Word × LaneMask) :=
  ((c.splits.filterMap (fun p => match p.2.wait with
    | .rejoin k => some (p.2.pc, k)
    | _ => none)) ++
   (c.held.filterMap (fun h => if h.ended then none else match h.wait with
    | .rejoin k => some (h.pc, k)
    | _ => none))).eraseDups

/-- Lanes of one waiting set. -/
def Course.setSplits (c : Course) (pc : Word) (k : LaneMask) : List (Nat × Split) :=
  c.splits.filter (fun p => p.2.wait = .rejoin k && p.2.pc = pc)
def Course.setHeld (c : Course) (pc : Word) (k : LaneMask) : List Held :=
  c.held.filter (fun h => !h.ended && h.wait = .rejoin k && h.pc = pc)

/-- Complete one waiting set if its lanes are k and the live lanes of its half (R241, R255, R539). -/
def Course.completeSet (il lw : Bool) (c : Course) (pc : Word) (k : LaneMask) : Course :=
  let sp := c.setSplits pc k
  let hs := c.setHeld pc k
  let half := match sp, hs with
    | p :: _, _ => halfOfSplit lw p.1
    | _, h :: _ => halfOfSplit lw h.split
    | _, _ => 0
  let lanes := (sp.map (·.2.mask) ++ hs.map (·.mask)).foldl (· ||| ·) (0 : LaneMask)
  let live := if lw then c.live &&& halfMask half else c.live
  if lanes = 0 || lanes ≠ k &&& live then c
  else
    match sp with
    | (n, s0) :: rest =>
      let c : Course := { c with held := c.held.filter (fun h => !hs.contains h) }
      let c := c.mergeFlags (n :: rest.map (·.1)) n
      let s0 := tgetD c.splits n s0
      { (if rest.isEmpty && hs.isEmpty then c else c.clearLatches il) with
          splits := tset c.splits n { s0 with pc := afterX pc, mask := lanes, wait := .run } }
    | [] => { c with held := c.held.map (fun h => if hs.contains h then { h with ended := true } else h) }.startHeld lw

/-- Pop what can pop, complete every waiting set that can complete, and start what waits for a number (R239, R241, R539). -/
def Course.rejoinAll (il lw : Bool) (c : Course) : Course :=
  let c := c.splits.foldl (fun c p => c.popWaiting il p.1) c
  let c := c.rejoinSets.foldl (fun c p => c.completeSet il lw p.1 p.2) c
  c.startHeld lw

/-- No waiting set can complete, every split waits at a REJOIN, every stack is empty, no held lane can continue: those whose wait has
ended find no free number (R242); per half under LW16. -/
def Course.deadlocked (lw : Bool) (half : Nat) (c : Course) : Bool :=
  let sp := c.splits.filter (fun p => halfOfSplit lw p.1 = half)
  !sp.isEmpty && sp.all (fun p => p.2.stack.isEmpty && (match p.2.wait with
    | .rejoin _ => true
    | _ => false)) &&
  (c.held.filter (fun h => halfOfSplit lw h.split = half)).all (fun h => if h.ended then (c.freeSplit lw half).isNone else (match h.wait with
    | .copying _ _ => false
    | _ => true))

/-- Bring a course's splits to rest after a change, and post what follows: the detection of R242, retirement (R243). -/
def State.settleSplits (s : State) (cid : Nat) : State :=
  let c := s.course cid
  let t := s.task (s.taskOf cid)
  let c := (c.rejoinAll t.interlock t.hdr.lw16).rejoinAll t.interlock t.hdr.lw16
  let s := s.setCourse cid c
  let s := if (c.deadlocked t.hdr.lw16 0 || (t.hdr.lw16 && c.deadlocked true 1)) && c.st = .running
    then s.post (s.now + 1) .rejoinDeadlockDetect (.nat cid 0 0) else s
  if c.live = 0 && c.alive then s.post (s.now + 1) .courseRetire (.nat cid 0 0) else s

/-! ## Stack spills (R240, 09 R276) -/

/-- The window offset of spilled entry i of a course or half: below 0 when the reserve does not fit. -/
def Ctx.reserveAt (k : Ctx) (i : Nat) : Int :=
  let c := if k.lw then 2 * k.c.c + k.half else k.c.c
  (k.t.hdr.scratch : Int) - 4096 * ((c : Int) + 1) + 16 * (i : Int)

/-- Can the split push one more entry? -/
def Ctx.canPush (k : Ctx) : Bool :=
  let n := k.sp.stack.length
  if n < 16 then true
  else
    let i := n - 16
    let off := k.reserveAt i
    i < 256 && 0 ≤ k.reserveAt 0 &&
    (match k.g.place off.toNat with
     | some o => decide ((k.s.bankOf k.g.bench k.g.cell (o / 131072)).mode = BankMode.spad)
     | none => false)

/-! ## Waits -/

/-- NOP, S form (14 R412). -/
def execNopS (sch : BitVec 4) (z : BitVec 20) (s : State) : Out := regInstr (.nopS sch z) s (fun _ => [])
/-- NOP, X form (14 R412). -/
def execNopX (x : XFields) (s : State) : Out := regInstr (.nopX x) s (fun _ => [])

/-- Does every flag that a WAITF names read THR or less in a split (R431)? -/
def waitfMet (c : Course) (w : Nat) (x : XFields) : Bool :=
  let fm := x.w1.extractLsb' 0 12
  let thr := (x.w1.extractLsb' 12 6).toNat
  (List.range 12).all (fun f => !fm.getLsbD f || c.flag w f ≤ thr)

/-- WAITF: issues only when every flag named reads THR or less (R431). -/
def execWaitf (x : XFields) (s : State) : Out :=
  withIssue (.waitf x) s (fun k => if waitfMet k.c k.w x then .next (k.issue []) else .next k.blocked)

/-- DELAY: the split issues nothing for N cycles (R432). -/
def execDelay (x : XFields) (s : State) : Out :=
  withIssue (.delay x) s (fun k =>
    let s := k.issue []
    let sp := tgetD (s.course k.cid).splits k.w {}
    .next (s.setSplit k.cid k.w { sp with hold := s.now + (x.w1.extractLsb' 0 16).toNat + 1 }))

/-! ## Branches (R433 to R435) -/

/-- Continue at a target after its checks: MISALIGN, then PROT for bits [63:57]. -/
def Ctx.jump (k : Ctx) (target : Word) (ws : List RegWrite := []) : State :=
  if target.toNat % 4 ≠ 0 then k.fault 0x0e 0 target 0 k.k0
  else if 2 ^ 57 ≤ target.toNat then k.fault 0x02 0 target 0 k.k0
  else k.taken target (k.issueAt target ws .none).1

/-- Target of an S form: PC + 4 × offset. -/
def Ctx.target (k : Ctx) (off : BitVec 16) : Word := k.pc + (off.signExtend 64) * 4

/-- BRC: taken when kK and k0 share a lane, inverted by NEG (R434). -/
def Ctx.brc (k : Ctx) (n : Nat) (neg : Bool) (target : Word) : State :=
  if ((k.kreg n &&& k.k0) ≠ 0) != neg then k.jump target else k.issue []

/-- BRV: lanes part (08 R237, 15 R434). -/
def Ctx.brv (k : Ctx) (n : Nat) (neg : Bool) (target : Word) : State :=
  let km := if n = 0 then k.k0 else k.kreg n
  let t := (if neg && n ≠ 0 then ~~~km else if neg then 0 else km) &&& k.k0
  let f := k.k0 &&& ~~~t
  if t = 0 then k.issue []
  else if target.toNat % 4 ≠ 0 then k.fault 0x0e 0 target 0 k.k0
  else if 2 ^ 57 ≤ target.toNat then k.fault 0x02 0 target 0 k.k0
  else if f = 0 then k.taken target (k.issueAt target [] .none).1
  else
    match k.c.freeSplit k.lw k.half with
    | some m =>
      let s := k.issue []
      let c := (s.course k.cid).copyFlags k.w m
      let sp := tgetD c.splits k.w {}
      k.taken target (s.setCourse k.cid { (c.clearLatches k.il) with
        splits := tset (tset c.splits k.w { sp with mask := f }) m { pc := target, mask := t, excess := sp.excess } })
    | none =>
      if k.canPush then
        let s := k.issue []
        let sp := tgetD (s.course k.cid).splits k.w {}
        k.taken target (s.setSplit k.cid k.w { sp with mask := f, stack := (target, t) :: sp.stack })
      else k.fault 0x0c 0 0 0 k.k0

/-- BRA, S form. -/
def execBraS (x : SBranch) (s : State) : Out := withIssue (.braS x) s (fun k => .next (k.jump (k.target x.off)))
/-- BRA, XL form. -/
def execBraXl (x : XFields) (lit : Word) (s : State) : Out := withIssue (.braXl x lit) s (fun k => .next (k.jump (k.pc + lit)))
/-- BRC, S form. -/
def execBrcS (x : SBranch) (s : State) : Out :=
  withIssue (.brcS x) s (fun k => .next (k.brc x.k.toNat (x.neg ≠ 0) (k.target x.off)))
/-- BRC, XL form: NEG in EXT [19]. -/
def execBrcXl (x : XFields) (lit : Word) (s : State) : Out :=
  withIssue (.brcXl x lit) s (fun k => .next (k.brc x.sa.toNat (x.ext.getLsbD 0) (k.pc + lit)))
/-- BRV, S form. -/
def execBrvS (x : SBranch) (s : State) : Out :=
  withIssue (.brvS x) s (fun k => .next (k.brv x.k.toNat (x.neg ≠ 0) (k.target x.off)))
/-- BRV, XL form. -/
def execBrvXl (x : XFields) (lit : Word) (s : State) : Out :=
  withIssue (.brvXl x lit) s (fun k => .next (k.brv x.sa.toNat (x.ext.getLsbD 0) (k.pc + lit)))
/-- CALL, S form: s63 := PC + 4. -/
def execCallS (x : SBranch) (s : State) : Out :=
  withIssue (.callS x) s (fun k => .next (k.jump (k.target x.off) [.s (k.skey 63) (k.pc + 4)]))
/-- CALL, XL form: s63 := PC + 20. -/
def execCallXl (x : XFields) (lit : Word) (s : State) : Out :=
  withIssue (.callXl x lit) s (fun k => .next (k.jump (k.pc + lit) [.s (k.skey 63) (k.pc + 20)]))
/-- JMPI. -/
def execJmpi (x : XFields) (s : State) : Out := withIssue (.jmpi x) s (fun k => .next (k.jump (k.srcS x.sa)))
/-- RET. -/
def execRet (x : XFields) (s : State) : Out := withIssue (.ret x) s (fun k => .next (k.jump (k.srcS x.sa)))

/-! ## Rejoin, exit, tail, migration (R241 to R244, R250, R251, 15 R437) -/

/-- REJOIN: waits when the split's mask lies within k, else acts as NOP; a lone split whose mask is k's live lanes passes (R241). -/
def execRejoin (x : XFields) (s : State) : Out :=
  withIssue (.rejoin x) s (fun k =>
    let m := k.kreg x.sa.toNat &&& k.halfLanes
    if k.k0 &&& ~~~m ≠ 0 || x.sa = 0 || k.k0 = m &&& k.c.live then .next (k.issue [])
    else
      let s := (k.issueAt k.pc [] .none).1
      let sp := tgetD (s.course k.cid).splits k.w {}
      .next ((s.setSplit k.cid k.w { sp with wait := .rejoin m }).settleSplits k.cid))

/-- The issuing split's active lanes exit (R243). -/
def State.exitLanes (s : State) (cid w : Nat) (pc : Word) (m : LaneMask) (il : Bool) : State :=
  let c := s.course cid
  let sp := tgetD c.splits w {}
  let c := { c with live := c.live &&& ~~~m, exitPc := pc, splits := tset c.splits w { sp with mask := sp.mask &&& ~~~m } }
  (s.setCourse cid (c.popEmpty il w)).settleSplits cid

/-- EXIT (R243). -/
def execExit (x : XFields) (s : State) : Out :=
  withIssue (.exit x) s (fun k =>
    if k.active = 0 then .next (k.issue [])
    else .next ((k.issue []).exitLanes k.cid k.w k.pc k.active k.il))

/-- A course retires, which debug sessions trace (03 R88): it counts as arrived from now on, and its rows and slot are free (R243, R245). What it still has
pending goes on under the tracker (R244). -/
def State.retire (s : State) (cid : Nat) : State :=
  let c := s.course cid
  let s := s.trace (s.vdOf cid) .retire 0 c.exitPc 0
  let s := s.setCourse cid { c with st := .retired, splits := [], held := [], stale := [], staleI := [], migReq := false }
  let s := s.leaveBow c.group c.c
  s.endGroup c.group

/-- Does an operation of a course go on when the course retires by TAIL (R244)? Results to registers do not: a retired course takes none. -/
def Pend.outlives (p : Pend) : Bool :=
  match p.act with
  | .none | .boundary | .twait _ _ | .qstat _ _ _ => false
  | .access a => a.op ≠ .load
  | _ => true

/-- TAIL: as EXIT; when it retires the course, the course retires at once and its operations go on under the cell's
retirement tracker, which it waits for while the tracker is full (R244). -/
def execTail (x : XFields) (s : State) : Out :=
  withIssue (.tail x) s (fun k =>
    if k.active = 0 then .next (k.issue [])
    else if k.c.live &&& ~~~k.active ≠ 0 then .next ((k.issue []).exitLanes k.cid k.w k.pc k.active k.il)
    else
      let key := cellKey k.g.bench k.g.cell
      let cell := k.s.cell key
      if 8 ≤ cell.tracker.length then .next k.blocked
      else
        let s := k.issue []
        let out := ((s.course k.cid).pends.filter Pend.outlives)
        let s := if out.isEmpty then s else
          (s.setCell key { cell with tracker := cell.tracker ++ [{ course := k.cid, task := k.g.task }] }).post
            (s.now + 1) .trackerEntryFree (.nat key k.cid 0)
        let c := s.course k.cid
        .next ((s.setCourse k.cid { c with live := 0, pends := out, exitPc := k.pc }).retire k.cid))

/-- MIGR: passes bridge point id; migrates when a request is posted and R251 holds, otherwise acts as NOP. -/
def execMigr (x : XFields) (s : State) : Out :=
  withIssue (.migr x) s (fun k =>
    let id := (x.w1.extractLsb' 0 16).toNat
    let b := k.s.findBridge k.t id
    let here := fun (b : Bridge) => if k.c.prof then b.pcd = k.pc else b.pcl = k.pc
    let other := fun (b : Bridge) => if k.c.prof then b.pcl else b.pcd
    let at_ : Option Bridge := match b with
      | some e => if here e then some e else none
      | none => none
    let s := k.issue []
    let c := { s.course k.cid with bridge := some ((at_.map other).getD 0, id) }
    let s := s.setCourse k.cid c
    let go := c.migReq && !k.il && !k.lw && at_.isSome && c.splits.length = 1 && c.held.isEmpty && k.sp.stack.isEmpty
      && s.coreFits k.g.bench k.g.cell (!c.dcore) (k.t.hdr.demand (!c.dcore)) && k.t.hdr.demand (!c.dcore) ≠ 0
    if go then
      .next ((s.setCourse k.cid { c with st := .migrating id }).post (s.now + 1) .migrationComplete (.nat k.cid 0 0))
    else .next s)

/-! ## Traps and the dispatcher (15 R438 to R440) -/

/-- TRAP, X form: the 16-bit immediate. -/
def execTrapX (x : XFields) (s : State) : Out :=
  withIssue (.trapX x) s (fun k =>
    if k.active = 0 then .next (k.issue [])
    else .next (k.fault 0x13 0 0 ((x.w1.extractLsb' 0 16).setWidth 64) k.active))

/-- TRAP, XL form: the 64-bit immediate. -/
def execTrapXl (x : XFields) (lit : Word) (s : State) : Out :=
  withIssue (.trapXl x lit) s (fun k =>
    if k.active = 0 then .next (k.issue []) else .next (k.fault 0x13 0 0 lit k.active))

/-- BRK: halts the course for an Invasive session of its virtual device, otherwise parks it with BREAK. [DEDUCED, log 63] -/
def execBrk (x : XFields) (s : State) : Out :=
  withIssue (.brk x) s (fun k =>
    if k.active = 0 then .next (k.issue [])
    else if (k.s.vd k.vdn).dbg = 2 then
      let s := k.issue []
      .next (s.setCourse k.cid { s.course k.cid with st := .halted })
    else .next (k.fault 0x14 0 0 0 k.active))

/-- YIELD: the split steps behind the others for at most 64 cycles. [DEDUCED, log 76] -/
def execYield (x : XFields) (s : State) : Out :=
  withIssue (.yield x) s (fun k =>
    let s := k.issue []
    let sp := tgetD (s.course k.cid).splits k.w {}
    .next (s.setSplit k.cid k.w { sp with yield := s.now + 64 }))

/-- PRIO: the task's level rises in number for decisions from 1,024 cycles on. -/
def execPrio (x : XFields) (s : State) : Out :=
  withIssue (.prio x) s (fun k =>
    let s := k.issue []
    let t := s.task k.g.task
    .next (s.setTask k.g.task { t with prioTo := t.prioTo ++ [(s.now + 1024, (x.w1.extractLsb' 0 3).toNat)] }))

/-- UDF: ILLEGAL_ENCODING, always (14 R413). -/
def execUdf (len : BitVec 2) (sch : BitVec 4) (n : BitVec 20) (s : State) : Out :=
  withIssue (.udf len sch n) s (fun k => .next (k.fault 0x07 0 0 0 k.k0))

end Sys2Proof.Machine
end

