-- ==== Sys2Proof/Machine/Sync.lean ====
section
/-! DEFINITION. Phase boundaries, barriers and fences (10 R289 to R296, 17 R483 to R488, 07 R212). -/
namespace Sys2Proof.Machine

/-! ## Participants and arrival (10 R285, R289) -/

/-- The groups of the issuer's collective at a scope: cell, bench, face, and the launch for quarry and sys. -/
def State.participants (s : State) (gk scope : Nat) : List Nat :=
  let g := s.group gk
  (s.groups.filter (fun p =>
    if scope = 0 then p.1 = gk
    else p.2.task = g.task && (3 ≤ scope || p.2.f = g.f) && (2 ≤ scope || p.2.b = g.b))).map (·.1)

/-- Has a wait a boundary of this scope? -/
def Wait.isAt (w : Wait) (scope : Nat) : Bool :=
  match w with
  | .boundary sc _ _ => sc = scope
  | _ => false

/-- Has its boundary of this scope committed, and does it wait for the shadow copy? -/
def Wait.isCopying (w : Wait) (scope : Nat) : Bool :=
  match w with
  | .copying sc _ => sc = scope
  | _ => false

/-- The pending number of a wait. -/
def Wait.pend (w : Wait) : List Nat :=
  match w with
  | .boundary _ _ n | .copying _ n => [n]
  | _ => []

/-- Did a wait at a boundary come from a BAR? -/
def Wait.isBar (w : Wait) (scope : Nat) : Bool :=
  match w with
  | .boundary sc b _ => sc = scope && b
  | _ => false

/-- A course has arrived when every live lane waits at a boundary of the scope; one that has ended counts as arrived. -/
def Course.arrived (c : Course) (scope : Nat) : Bool :=
  !c.alive || (c.splits.all (fun p => p.2.wait.isAt scope && p.2.stack.isEmpty) && c.held.all (fun h => !h.ended && h.wait.isAt scope))

/-- Does some lane of a course wait at the boundary? -/
def Course.waitsAt (c : Course) (scope : Nat) : Bool :=
  c.splits.any (fun p => p.2.wait.isAt scope) || c.held.any (fun h => !h.ended && h.wait.isAt scope)

/-- The courses of groups. -/
def State.coursesOfAll (s : State) (gs : List Nat) : List Nat := gs.flatMap s.coursesOf

/-- Have all courses arrived, every group of the collective being placed? -/
def State.allArrived (s : State) (gk scope : Nat) : Bool :=
  let gs := s.participants gk scope
  let t := s.task (s.group gk).task
  (scope < 3 || extFX t.trec.extents < t.nextFace) && (s.coursesOfAll gs).all (fun c => (s.course c).arrived scope)

/-- Does a boundary wait on the pending-byte counters: some participant arrived by BAR (R486)? -/
def State.byBar (s : State) (gs : List Nat) (scope : Nat) : Bool :=
  (s.coursesOfAll gs).any (fun c => (s.course c).splits.any (fun p => p.2.wait.isBar scope)
    || (s.course c).held.any (fun h => h.wait.isBar scope))

/-! ## The commit (10 R290, R291) -/

/-- Where a buffered byte goes: its key tells apart the windows of different groups. -/
def State.target (s : State) (cid : Nat) (l : Loc) : Nat × Loc :=
  match l with
  | .win _ _ => (((s.locGroup cid l).map (· + 1)).getD 0, l)
  | _ => (0, l)

/-- Does a boundary of this scope commit a buffered store (R303)? -/
def State.commits (s : State) (cid scope : Nat) (e : BufStore) : Bool :=
  match e.loc with
  | .win g _ => scope ≠ 0 || g = (s.group (s.course cid).group).g
  | _ => true

/-- For each byte, the store of the greatest rank: courses in ascending rank, the later one standing (R291). -/
def State.winners (s : State) (scope : Nat) (cs : List Nat) : List (Nat × BufStore) :=
  let all := (sortBy (fun a b => s.rank a ≤ s.rank b) cs).flatMap (fun c =>
    ((s.course c).buf.filter (s.commits c scope)).map (fun e => (c, e)))
  all.foldl (fun m p =>
    let k := s.target p.1 p.2.loc
    m.filter (fun q => s.target q.1 q.2.loc ≠ k) ++ [p]) []

/-- The PC of the last participant's PHASE or BAR: pending instructions are numbered as they issue (11 R327). -/
def State.lastArrival (s : State) (cs : List Nat) (scope : Nat) : Word :=
  let ps := cs.flatMap (fun c =>
    let co := s.course c
    let ns := (co.splits.map (·.2.wait) ++ co.held.map (·.wait)).flatMap (fun w => if w.isAt scope then w.pend else [])
    co.pends.filter (fun p => ns.contains p.id))
  (ps.foldl (fun (m : Nat × Word) p => if m.1 ≤ p.id then (p.id, p.pc) else m) (0, 0)).2

/-- Force the pending nodes of the participants, saved groups among them, that have a global-memory source (11 R320), and every node that a
committed store overlaps (R318). -/
def State.forceBoundary (s : State) (gs : List Nat) (cs : List Nat) (pc : Word) : State × Bool :=
  let own := gs.flatMap (fun gk => if (s.group gk).ended then [] else (s.groupNodes gk).filter (fun n => n.n.sources.any (fun t => !t.spad)))
  let r := s.forceAll own { pc }
  cs.foldl (fun (p : State × Bool) c =>
    let q := p.1.forceBuffer c pc
    (q.1, p.2 && q.2)) r

/-- Release every wait of a course at the boundary: its splits and held lanes continue, its flags are released (17 R488,
08 R539). -/
def Course.passBoundary (c : Course) (lw : Bool) (scope : Nat) (ends : Wait → Bool) : Course :=
  let done := (c.splits.map (·.2.wait) ++ c.held.map (·.wait)).flatMap (fun w => if ends w then w.pend else [])
  let at_ := c.splits.filter (fun p => ends p.2.wait)
  let joins := fun (h : Held) => !h.ended && ends h.wait && at_.any (fun p => p.2.pc = h.pc && halfOfSplit lw p.1 = halfOfSplit lw h.split)
  let splits := c.splits.map (fun p =>
    if ends p.2.wait then
      let first := (at_.find? (fun q => q.2.pc = p.2.pc && halfOfSplit lw q.1 = halfOfSplit lw p.1)).map (·.1) = some p.1
      let more := if first then (c.held.filter (fun h => joins h && h.pc = p.2.pc && halfOfSplit lw h.split = halfOfSplit lw p.1)).map (·.mask) else []
      (p.1, { p.2 with pc := afterX p.2.pc, mask := more.foldl (· ||| ·) p.2.mask, wait := .run })
    else p)
  let held := (c.held.filter (fun h => !joins h)).map (fun h => if ends h.wait then { h with ended := true } else h)
  { c with splits, held, pends := c.pends.filter (fun p => !done.contains p.id), phases := (c.phases + 1) % 2 ^ 48, lastScope := scope + 1 }.startHeld lw

/-- Are the courses' stores to global memory in their buffers? An engine that owns a granule is not waited for (R293). -/
def State.storesIn (s : State) (cs : List Nat) : Bool := cs.all (fun c => (s.course c).pends.all (fun p => !p.storing))

/-- Commit the buffered stores of courses that a scope commits (R290, R291): the nodes that they overlap and those of the
groups with a global source are forced, lost stores are reported, each byte takes its store of greatest rank, and the
buffers empty. The answer says whether the forcing is done; until then nothing commits. -/
def State.commitCourses (s : State) (gs cs : List Nat) (scope vdn : Nat) : State × Bool :=
  let s := cs.foldl (fun s c => s.loadsFirst c) s
  let f := s.forceBoundary gs cs (s.lastArrival cs scope)
  if !f.2 then f
  else
    let s := f.1
    let s := cs.foldl (fun s c => s.reportLost vdn ((s.course c).buf.filter (s.commits c scope))) s
    let s := (s.winners scope cs).foldl (fun s p => s.perform p.1 scope p.2) s
    (cs.foldl (fun s c =>
      let co := s.course c
      let co := { co with buf := co.buf.filter (fun e => !s.commits c scope e) }
      s.setCourse c (if co.alive then co.refresh scope else co)) s, true)

/-- A boundary completes (R290): buffered stores commit by rank, buffers empty, views refresh. In a launch
with SHADOW every boundary is followed by the shadow copy, and its waits end with that (R212, R307); in any other a group counts the BAR
here (R197). -/
def State.completeBoundary (s : State) (gk scope : Nat) : State :=
  let gs := s.participants gk scope
  let cs := s.coursesOfAll gs
  let f := s.commitCourses gs cs scope (s.task (s.group gk).task).vd
  if !f.2 then f.1
  else
    let s := f.1
    let t := s.task (s.group gk).task
    let s := gs.foldl (fun s g => s.setGroup g { s.group g with wide := (s.group g).wide + (if scope = 0 then 0 else 1) }) s
    if t.hdr.shadow then
      let s := { s with courses := s.courses.map (fun p => if cs.contains p.1 && p.2.alive && p.2.waitsAt scope then
        (p.1, { p.2 with splits := p.2.splits.map (fun q => if q.2.wait.isAt scope then (q.1, { q.2 with wait := .copying scope (q.2.wait.pend.headD 0) }) else q)
                         held := p.2.held.map (fun h => if h.wait.isAt scope then { h with wait := .copying scope (h.wait.pend.headD 0) } else h) }) else p) }
      (gs.filter (fun g => !(s.group g).ended)).foldl (fun s g => s.post (s.now + 1) .shadowCopyDone (.nat g scope 0)) s
    else
      let s := gs.foldl (fun s g => if s.byBar [g] scope then s.setGroup g { s.group g with interval := ((s.group g).interval + 1) % 2 ^ 48 } else s) s
      cs.foldl (fun s c =>
        let co := s.course c
        if co.alive && co.waitsAt scope then s.setCourse c (co.passBoundary t.hdr.lw16 scope (fun w => w.isAt scope)) else s) s

/-- Complete the boundary of a collective when everything it waits for holds (R289, R486). -/
def State.settleScope (s : State) (gk scope : Nat) : State :=
  let gs := s.participants gk scope
  let cs := s.coursesOfAll gs
  if cs.any (fun c => (s.course c).alive && (s.course c).waitsAt scope) && s.allArrived gk scope && s.storesIn cs
      && (!s.byBar gs scope || gs.all (fun g => (s.group g).ended || (s.group g).p = 0))
  then s.completeBoundary gk scope else s

/-- Complete every boundary that can complete. -/
def State.settleBoundaries (s : State) : State :=
  s.groups.foldl (fun s p => if (s.group p.1).ended then s else
    (List.range 5).foldl (fun s sc =>
      if (s.coursesOf p.1).any (fun c => (s.course c).waitsAt sc) then s.settleScope p.1 sc else s) s) s

/-! ## The instructions (17 R483 to R487) -/

/-- Arrive at a boundary: the issuing split waits, what can pop its stack does, and a boundary that this completes is
completed (R289, R290). -/
def Ctx.arrive (k : Ctx) (bar : Bool) : State :=
  let scope := (k.x.ext.extractLsb' 0 3).toNat
  if k.k0 = 0 then k.issue []
  else
    let r := k.issueAt k.pc [] .boundary true
    let sp := tgetD (r.1.course k.cid).splits k.w {}
    ((r.1.setSplit k.cid k.w { sp with wait := .boundary scope bar r.2 }).settleSplits k.cid).settleBoundaries

/-- PHASE (R483). -/
def execPhase (x : XFields) (s : State) : Out := withIssue (.phase x) s (fun k => .next (k.arrive false))
/-- BAR (R486). -/
def execBar (x : XFields) (s : State) : Out := withIssue (.bar x) s (fun k => .next (k.arrive true))

/-- BARX: P := (P + s[SA]) mod 2^56, and sd reads the new P, sign-extended (R485). -/
def execBarx (x : XFields) (s : State) : Out :=
  withIssue (.barx x) s (fun k =>
    let p := k.g.p + (k.srcS x.sa).setWidth 56
    let s := k.issue [.s (k.skey x.vd.toNat) (p.signExtend 64)]
    .next ((s.setGroup k.c.group { s.group k.c.group with p }).settleBoundaries))

/-- FENCE: PUB performs the buffer at once, RFR refreshes the view after the earlier immediate accesses (R487, 10 R295). -/
def execFence (x : XFields) (s : State) : Out :=
  withIssue (.fence x) s (fun k =>
    let scope := (x.ext.extractLsb' 0 3).toNat
    let act : Action := if x.ext.getLsbD 4 then .refresh scope else .none
    if x.ext.getLsbD 3 then
      let r := k.s.forceBuffer k.cid k.pc
      let k := { k with s := r.1 }
      if !r.2 || !r.1.canPublish k.cid then .next k.blocked
      else
        let s := r.1.release k.cid scope
        .next ({ k with s }.issueAt k.next [] act).1
    else .next (k.issueAt k.next [] act).1)

/-- FENCE.RFR completes once every earlier immediate access is performed, pushes and pops of a FIFO among them (10 R284, R295). -/
def State.refreshStep (s : State) (cid : Nat) (p : Pend) (scope : Nat) : State :=
  let c := s.course cid
  if (c.before p.id).all (fun q => !q.immediate && !q.acquires && !s.movesFifo cid q) then
    s.setCourse cid { (c.refresh scope) with pends := c.pends.filter (fun q => q.id ≠ p.id) }
  else s.again cid p.id

end Sys2Proof.Machine
end

