-- ==== Sys2Proof/Machine/TileOps.lean ====
section
/-! DEFINITION. Tensor identifiers, the append of tile nodes, and demands (11 R309 to R330, 18 R498 to R507). -/
namespace Sys2Proof.Machine

/-! ## Shared -/

/-- The number of an identifier field. -/
def idNum (f : BitVec 8) : Nat := f.toNat % 64

/-- An identifier of the issuing group. -/
def Ctx.tensor (k : Ctx) (f : BitVec 8) : Tensor := tgetD k.g.tensors (idNum f) {}

/-- SCRATCH_RANGE with ADDR the number of an identifier (R499, R501). -/
def Ctx.badId (k : Ctx) (n : Nat) : State := k.fault 0x0f 0 (BitVec.ofNat 64 n) 0 k.k0

/-- Does a pending instruction still have to take effect at the cell? -/
def Pend.atCell (p : Pend) : Bool :=
  match p.act with
  | .array _ | .engine _ => true
  | _ => false

/-- Must a later instruction wait with its effect at the cell for this one? One that still has to take effect there (R497), or an
outstanding .ACQ, which every later access of the course follows (10 R296). -/
def Pend.holdsCell (p : Pend) : Bool := p.atCell || p.acquires

/-- Are instructions of the course still to take effect at the cell: the engine majors do so in issue order (R497)? [DEDUCED, log 88] -/
def Ctx.arrayBusy (k : Ctx) : Bool := k.c.pends.any Pend.holdsCell

/-- Issue an instruction that takes effect at the cell: at once, or when it can and the earlier ones of the course have (R497). [DEDUCED, log 88] -/
def Ctx.engine (k : Ctx) (op : EngineOp) (now : Nat → State → State × Bool) : State :=
  if k.arrayBusy then (k.issueAt k.next [] (.engine op)).1
  else
    let r := k.issueAt k.next [] (.engine op) true
    let q := now r.2 r.1
    if q.2 then q.1 else q.1.postOnce (q.1.now + 1) .instructionComplete (.course k.cid r.2 0 0)

/-- A pending instruction is done: its flag is released. -/
def State.endPend (s : State) (cid n : Nat) : State :=
  let c := s.course cid
  s.setCourse cid { c with pends := c.pends.filter (fun q => q.id ≠ n) }

/-- Issue an instruction that meets a late fault at its completion. [DEDUCED, log 65] -/
def Ctx.issueLate (k : Ctx) (f : LateFault) : State := (k.issueAt k.next [] .none false 0 false (some f)).1

/-- Issue with a scalar result of scalar-class latency beside an action of its own (R504). -/
def Ctx.issueBeside (k : Ctx) (sd : Nat) (v : Word) (act : Action) (own : Bool) : State × Nat :=
  let r := k.issueAt k.next [] act own
  let n := r.1.nextKey
  let p : Pend := { id := n, pc := k.pc, split := k.w, splits := splitBit k.w, due := some (k.s.now + latency .scalar k.c.dcore)
                    writes := [.s sd v] }
  let c := r.1.course k.cid
  ({ r.1 with nextKey := n + 1 }.setCourse k.cid { c with pends := c.pends ++ [p] }, r.2)

/-! ## Reading operands from memory as a plain load does (R498, R520) -/

/-- What a read of n bytes as a plain load gives: the fault at issue, a wait, a late fault, or the bytes. -/
inductive Operand where
  | fault (s : State)
  | late (f : LateFault)
  | bytes (s : State) (l : List Byte)
  deriving Repr

/-- n bytes of a location, from the buffer or the view. -/
def State.readPlain (s : State) (cid : Nat) (pc : Word) (l : Loc) : Nat → State × List Byte
  | 0 => (s, [])
  | n + 1 =>
    let r := s.readPlain cid pc l n
    let b := r.1.viewByte cid pc (l.add n) (bufGet (r.1.course cid).buf (l.add n)) (2 ^ 25 + n)
    (b.2, r.2 ++ [b.1])

/-- Read n bytes at a global (or scratchpad) address that must be a multiple of 8, with the checks of R470. -/
def Ctx.readOperand (k : Ctx) (spad : Bool) (a : Word) (n : Nat) : Operand :=
  if spad then
    let a := a.toNat % 2 ^ 32
    match k.spad n a, k.spadCause false 8 (a + n - 8) with
    | none, _ => .fault (k.fault 0x0f 0 (BitVec.ofNat 64 a) 0 k.k0)
    | some (_, gi, off), c =>
      if k.inFifo n a || c = some 0x0f then .fault (k.fault 0x0f 0 (BitVec.ofNat 64 a) 0 k.k0)
      else if a % 8 ≠ 0 then .fault (k.fault 0x0e 0 (BitVec.ofNat 64 a) 0 k.k0)
      else
        let l : Loc := .win gi off
        if !(k.s.winReady k.cid l && k.s.winReady k.cid (l.add (n - 1))) || (k.c.pends.any (·.xbar)) then .fault k.blocked
        else
          match (List.range n).find? (fun i => (bufGet k.c.buf (l.add i)).isNone && (k.s.elemMiss k.cid (l.add i) 1 []).isSome) with
          | some i => .late { cause := 3, addr := BitVec.ofNat 64 (a + i), mask := k.k0 }
          | none =>
            let r := k.s.readPlain k.cid k.pc l n
            .bytes r.1 r.2
  else
    let a := a.toNat
    let last := a + n - 1
    let as_ := if a / 65536 = last / 65536 then [a] else [a, last / 65536 * 65536]
    match k.atlbWait as_ with
    | some s => .fault s
    | none =>
      match k.laneFault (as_.map (fun x => (0, x, k.globCause 1 8 x))) (some k.k0) with
      | some s => .fault s
      | none =>
        let k := k.atlbTouch as_
        let fwd := bufFwd (k.s.bufAhead k.cid) (.glob a) n
        let gone := (List.range n).filter (fun i => (fwd.getD i none).isNone)
        match gone.find? (fun i => !(k.s.vd k.vdn).mapsAll (a + i) 1), gone.find? (fun i => k.s.poisoned k.vdn (a + i) 1) with
        | some i, _ => .late { cause := 1, addr := BitVec.ofNat 64 (a + i), mask := k.k0 }
        | none, some i => .late { cause := 3, addr := BitVec.ofNat 64 (a + i), mask := k.k0 }
        | none, none =>
          let r := k.s.readPlain k.cid k.pc (.glob a) n
          .bytes r.1 r.2

/-! ## Identifiers (R309, R312, R499) -/

/-- Four 32-bit fields, unsigned and signed. -/
def fourU (l : List Byte) (off : Nat) : List Nat := (List.range 4).map (fun i => fieldB l (off + 4 * i) 4)
def fourS (l : List Byte) (off : Nat) : List Int := (List.range 4).map (fun i => sext 32 (fieldB l (off + 4 * i) 4))

/-- A descriptor of 128 bytes; none when a reserved bit is set or FMT is no type code. [DEDUCED, log 91] -/
def descriptor (l : List Byte) : Option Tensor :=
  let b := fun n => fieldB l n 1
  let spad := (b 2).testBit 0
  let t : Tensor := { fmt := b 0 % 16, rank := b 1 % 8, spad, bcast := BitVec.ofNat 4 (b 3), perm := BitVec.ofNat 8 (b 4)
                      base := BitVec.ofNat 64 (fieldB l 8 8), scaleq := BitVec.ofNat 64 (fieldB l 16 8)
                      scales := BitVec.ofNat 64 (fieldB l 24 8), ext := fourU l 32, str := fourS l 48, vext := fourU l 64, off := fourS l 80 }
  let lim := if spad then 2 ^ 32 else 2 ^ 57
  if 16 ≤ b 0 || 8 ≤ b 1 || 2 ≤ b 2 || 16 ≤ b 3 || fieldB l 5 3 ≠ 0 || fieldB l 96 32 ≠ 0 || lim ≤ fieldB l 8 8
      || 12 < t.fmt then none else some t

/-- The least and the greatest linear offset of the storage box. -/
def Tensor.span (t : Tensor) : Int × Int :=
  (List.range t.rank).foldl (fun a d =>
    let x := ((t.extOf d : Int) - 1) * t.strOf d
    (a.1 + min 0 x, a.2 + max 0 x)) (0, 0)

/-- Is a range inside a window of W bytes? -/
def inWindow (w : Nat) (lo hi : Int) : Bool := decide (0 ≤ lo) && decide (hi ≤ w)

/-- The checks of R312, for an identifier of a group whose window has W bytes. [DEDUCED, log 91] -/
def Tensor.good (t : Tensor) (w : Nat) : Bool :=
  1 ≤ t.rank && t.rank ≤ 4
    && (t.fmt = 12 || t.scaleq = 0) && (t.fmt = 12 || t.fmt = 0 || t.scales = 0)
    && (List.range t.rank).all (fun d => t.permOf d < t.rank && (List.range t.rank).any (fun e => t.permOf e = d))
    && (List.range 4).all (fun d => t.extOf d ≠ 0 && t.vext.getD d 1 ≠ 0 && (d < t.rank || (t.extOf d = 1 && t.vext.getD d 1 = 1)))
    && (t.fmt ≠ 12 || (t.strOf 0 = 1 && t.extOf 0 % 64 = 0))
    && (!t.spad || (inWindow w (t.addrOf t.span.1) (t.addrOf t.span.2 + elemBytes t.fmt)
        && (t.scaleBytes true 0).all (fun r => inWindow w r.lo r.hi)))

/-- Set an identifier of a group. -/
def State.setTensor (s : State) (gk n : Nat) (t : Tensor) : State :=
  let g := s.group gk
  s.setGroup gk { g with tensors := if t.isEmpty then tdel g.tensors n else tset g.tensors n t }

/-- GDEF: reads a descriptor and writes gd (R499). -/
def execGdef (x : XFields) (s : State) : Out :=
  withIssue (.gdef x) s (fun k =>
    let a := k.srcS x.sa
    match k.readOperand (x.ext.getLsbD 0) a 128 with
    | .fault s => .next s
    | .late f => .next (k.issueLate f)
    | .bytes s l =>
      let k := { k with s }
      match descriptor l with
      | some t =>
        if t.good k.g.win then .next ((k.issueAt k.next [] .none).1.setTensor k.c.group (idNum x.vd) t)
        else .next (k.fault 0x0f 0 a 0 k.k0)
      | none => .next (k.fault 0x0f 0 a 0 k.k0))

/-- The view that an operand of 40 bytes makes of an identifier; none when a check fails (R499). -/
def viewOf (gs : Tensor) (l : List Byte) : Option Tensor :=
  let p := fieldB l 1 1
  let permE := fun e => bits p (2 * e + 1) (2 * e)
  let opOff := fourS l 24
  let offs := (List.range 4).map (fun d => if d < gs.rank then gs.offOf d + opOff.getD (gs.permOf d) 0 else gs.offOf d)
  let perm := (List.range 4).foldl (fun a d => a + (if d < gs.rank then permE (gs.permOf d) else gs.permOf d) * 4 ^ d) 0
  if 16 ≤ fieldB l 0 1 || fieldB l 2 6 ≠ 0 || offs.any (fun o => decide (o < -(2 ^ 31)) || decide ((2 ^ 31 : Int) ≤ o)) then none
  else some { gs with bcast := BitVec.ofNat 4 (fieldB l 0 1), perm := BitVec.ofNat 8 perm, vext := fourU l 8, off := offs }

/-- GVIEW: derives gd from gs (R499). -/
def execGview (x : XFields) (s : State) : Out :=
  withIssue (.gview x) s (fun k =>
    let gs := k.tensor x.sa
    if gs.isEmpty then .next (k.badId (idNum x.vd))
    else
      match k.readOperand (x.ext.getLsbD 0) (k.srcS x.sb) 40 with
      | .fault s => .next s
      | .late f => .next (k.issueLate f)
      | .bytes s l =>
        let k := { k with s }
        match viewOf gs l with
        | some t =>
          if t.good k.g.win then .next ((k.issueAt k.next [] .none).1.setTensor k.c.group (idNum x.vd) t)
          else .next (k.badId (idNum x.vd))
        | none => .next (k.badId (idNum x.vd)))

/-- GREL: empties gd; pending nodes keep their copies (R313, R499). -/
def execGrel (x : XFields) (s : State) : Out :=
  withIssue (.grel x) s (fun k => .next ((k.issue []).setTensor k.c.group (idNum x.vd) {}))

/-! ## Tile nodes (R500 to R503) -/

/-- Does an OP of TEW have a row for a format (R502)? -/
def tewAllows (op fmt : Nat) : Bool :=
  fmt ≠ 12 && (match op with
    | 7 | 8 | 9 => !floatType fmt
    | 10 | 11 => fmt = 8 || fmt = 9 || fmt = 10
    | 12 | 13 | 14 | 15 => floatType fmt
    | _ => true)

/-- Equal view extents. -/
def sameView (a b : Tensor) : Bool := (List.range 4).all (fun n => a.vext.getD n 1 = b.vext.getD n 1)

/-- Which field is first in the first failing check of formats, then of shapes: 0 VD, 1 SA, 2 SB (R501, R316). TLOAD wants one
format, CB4 with CB4 (18 R501), though 12 R358 names it among the decodes: TCVT is the node that decodes. [DEDUCED, log 115] -/
def nodeBad (op sub : Nat) (d a b : Tensor) : Option Nat :=
  let v := fun (t : Tensor) n => t.vext.getD n 1
  match op with
  | 0 => if d.fmt ≠ a.fmt || !sameView d a then some 0 else none
  | 1 =>
    if 11 < d.fmt then some 0
    else if !((a.fmt = b.fmt && (a.fmt = 0 || floatType a.fmt)) || (a.fmt = 0 && b.fmt = 12)) then some 1
    else if v d 2 ≠ 1 || v d 3 ≠ 1 || v d 1 ≠ v a 1 || v d 0 ≠ v b 1 then some 0
    else if v a 2 ≠ 1 || v a 3 ≠ 1 || v a 0 ≠ v b 0 then some 1
    else if v b 2 ≠ 1 || v b 3 ≠ 1 then some 2 else none
  | 2 =>
    let two := decide (sub ∈ [1, 2, 3, 4, 5, 7, 8, 9, 14])
    let fits := fun (t : Tensor) => (List.range 4).all (fun n => v t n = v d n || v t n = 1)
    if d.fmt ≠ a.fmt || (two && d.fmt ≠ b.fmt) || !tewAllows sub d.fmt || !fits a || (two && !fits b) then some 0 else none
  | 3 =>
    if d.fmt ≠ a.fmt || d.fmt = 12 then some 0
    else if (List.range 4).any (fun n => v d n ≠ (if n = sub then 1 else v a n)) then some 0
    else if a.rank ≤ sub then some 1 else none
  | _ => if !sameView d a then some 0 else none

/-- Do a destination and a source of a node overlap, as the ranges of R318 do, otherwise than R316 allows? -/
def overlapBad (gk vd op : Nat) (d a : Tensor) : Bool :=
  let r : NodeRef := { gk, idx := 0, vd, n := {} }
  (r.ranges d).any (fun x => (r.ranges a).any x.meets) && !((op = 0 || op = 2 || (op = 4 && d.fmt ≠ 12)) && d = a)

/-- CAM entries in use in a cell. -/
def State.camUsed (s : State) (bench cell : Nat) : Nat := ((s.cellNodes bench cell).map (·.n.camEntries)).foldl (· + ·) 0

/-- The lowest free node index of a group's 64. -/
def Group.freeNode (g : Group) : Option Nat := tfree g.nodes 0 64

/-- Force the oldest pending nodes of the cell until n CAM entries are free (R323); says whether they are. -/
def State.makeCam : Nat → State → Nat → Nat → Asker → State × Bool
  | 0, s, _, _, _ => (s, false)
  | fuel + 1, s, gk, n, a =>
    let g := s.group gk
    if s.camUsed g.bench g.cell + n ≤ 64 then (s, true)
    else
      match (sortBy (fun a b => a.n.seq ≤ b.n.seq) ((s.cellNodes g.bench g.cell).filter (fun r => r.n.st = .pending))).head? with
      | none => (s, false)
      | some r =>
        let was := (s.cellNodes g.bench g.cell).length
        let f := s.forceNode r.gk r.idx a
        let now := (f.1.cellNodes g.bench g.cell).length
        let s := f.1.setGroup gk { f.1.group gk with camForce := (f.1.group gk).camForce + (was - now) }
        if f.2 then s.makeCam fuel gk n a else (s, false)

/-- An append that waits in the order of issue remembers the age of the node that it has forced. -/
def State.setForced (s : State) (cid pend seq : Nat) : State :=
  let c := s.course cid
  s.setCourse cid { c with pends := c.pends.map (fun p => if p.id ≠ pend then p else match p.act with
    | .engine (.append n) => { p with act := .engine (.append { n with forced := some seq }) }
    | _ => p) }

/-- Have a node of the group free for a course's append: the oldest pending one is forced, which the overflow counter counts; one that parks
is waited for (R328). It says whether a node is free. -/
def State.makeNode (s : State) (cid pend : Nat) (n : Node) (a : Asker) : State × Bool :=
  let gk := (s.course cid).group
  let g := s.group gk
  if g.freeNode.isSome then (s, true)
  else
    match n.forced.bind (fun q => g.nodes.find? (fun p => p.2.seq = q)) with
    | some p => if p.2.st = .pending then s.forceNode gk p.1 a else (s, false)
    | none =>
      match (sortBy (fun (a b : Nat × Node) => a.2.seq ≤ b.2.seq) (g.nodes.filter (fun p => p.2.st = .pending))).head? with
      | none => (s, false)
      | some p => ((s.setGroup gk { g with overflow := g.overflow + 1 }).setForced cid pend p.2.seq).forceNode gk p.1 a

/-- The append of a node by a course's pending instruction: the forcings for its destination, then a free node and CAM entries
(R315, R318, R503). It says whether the node is there; until then the instruction waits. -/
def State.appendNode (s : State) (cid pend : Nat) (n : Node) : State × Bool :=
  let gk := (s.course cid).group
  let g := s.group gk
  let r : NodeRef := { gk, idx := 0, vd := s.vdOf cid, n }
  let a : Asker := { pc := n.pc, course := some cid, issued := some pend }
  let f1 := s.forceRanges g.bench g.cell (r.ranges n.d) a
  let f2 := if f1.2 then f1.1.makeNode cid pend n a else f1
  let f3 := if f2.2 then f2.1.makeCam 65 gk n.camEntries a else f2
  if !f3.2 then f3
  else
    let g := f3.1.group gk
    match g.freeNode with
    | none => (f3.1, false)
    | some i =>
      let s := f3.1.setGroup gk
        { g with nodes := tset g.nodes i { n with seq := f3.1.nextKey, batch := g.nextBatch, forced := none }
                 dead := g.dead.filter (fun p => !(r.ranges p.1).any (fun x => (r.ranges n.d).any x.meets)) }
      ({ s with nextKey := s.nextKey + 1 }.endPend cid pend, true)

/-- Append a node: its checks (R501), then its effect. -/
def Ctx.append (k : Ctx) (op sub : Nat) (s2 : Bool) (acc : Bool) : State :=
  let d := k.tensor k.x.vd
  let a := k.tensor k.x.sa
  let b := k.tensor k.x.sb
  let num := fun n => if n = 0 then idNum k.x.vd else if n = 1 then idNum k.x.sa else idNum k.x.sb
  if d.isEmpty then k.badId (num 0)
  else if a.isEmpty then k.badId (num 1)
  else if s2 && b.isEmpty then k.badId (num 2)
  else
    match nodeBad op sub d a (if s2 then b else {}) with
    | some n => k.badId (num n)
    | none =>
      if overlapBad k.c.group k.vdn op d a || (s2 && overlapBad k.c.group k.vdn op d b) then k.badId (num 0)
      else
        let n : Node := { op, sub, sat := k.x.sat ≠ 0, acc, d, s1 := some a, s2 := if s2 then some b else none, course := k.cid
                          batch := k.g.nextBatch, pc := k.pc, pcOther := k.s.nodeSite k.t k.c.prof k.pc, prof := k.c.prof
                          trapmask := k.c.trapmask }
        k.engine (.append n) (fun id s => s.appendNode k.cid id n)

/-- TLOAD. -/
def execTload (x : XFields) (s : State) : Out := withIssue (.tload x) s (fun k => .next (k.append 0 0 false false))
/-- TMMA: with ACC it starts from gd's prior elements. -/
def execTmma (x : XFields) (s : State) : Out :=
  withIssue (.tmma x) s (fun k => .next (k.append 1 0 true (x.ext.getLsbD 0)))
/-- TEW. -/
def execTew (x : XFields) (s : State) : Out :=
  withIssue (.tew x) s (fun k =>
    let op := (x.ext.extractLsb' 0 6).toNat
    .next (k.append 2 op (decide (op ∈ [1, 2, 3, 4, 5, 7, 8, 9, 14])) false))
/-- TRED. -/
def execTred (x : XFields) (s : State) : Out :=
  withIssue (.tred x) s (fun k => .next (k.append 3 (x.ext.extractLsb' 0 2).toNat false false))
/-- TCVT. -/
def execTcvt (x : XFields) (s : State) : Out := withIssue (.tcvt x) s (fun k => .next (k.append 4 0 false false))

/-! ## Demands (R504 to R507) -/

/-- The box of a demand: four scalar registers from a base, or the whole view (R505). -/
def Ctx.box (k : Ctx) (f : BitVec 8) (t : Tensor) : TBox :=
  if f = 244 then t.whole
  else t.clip ((List.range 4).map (fun d =>
    let v := (k.c.readS k.il k.free (k.skey (f.toNat + d))).toNat
    (sext 32 v, bits v 63 32)))

/-- Batch numbers in order, modulo 2^32 (R324). -/
def batchBefore (a b : Nat) : Bool := a ≠ b && (b + 2 ^ 32 - a) % 2 ^ 32 < 2 ^ 31

/-- Close the open batch: its number, and the group with the next one open. -/
def Group.closeBatch (g : Group) : Nat × Group :=
  let n := (g.nextBatch + 1) % 2 ^ 32
  (g.nextBatch, { g with nextBatch := if n = 0 then 1 else n, wrapped := g.wrapped || n = 0 })

/-- Was a batch ever closed? -/
def Group.wasClosed (g : Group) (n : Nat) : Bool :=
  n ≠ 0 && n < 2 ^ 32 && (if g.wrapped then batchBefore n g.nextBatch else decide (n < g.nextBatch))

/-- Does a demand of a box reach a node of a failed batch, or what a killed node should have written (06 R181)? [DEDUCED, log 68] -/
def State.demandFails (s : State) (gk : Nat) (g : Tensor) (box : TBox) : Option Nat :=
  let gr := s.group gk
  let vd := (s.task gr.task).vd
  let all := s.cellNodes gr.bench gr.cell
  let reached := all.filter (fun r => ({ batch := 0, course := 0, g, box } : Demand).reaches all gk vd r.gk r.idx)
  let r : NodeRef := { gk, idx := 0, vd, n := {} }
  match reached.findSome? (fun m => (s.group m.gk).failed.find? (fun p => p.1 = m.n.batch)) with
  | some p => some p.2
  | none => (gr.dead.find? (fun p => (g.bytes g.spad (if g.spad then gk else vd) box).any (fun x => (r.ranges p.1).any x.meets))).map (·.2)

/-- Issue a demand: the open batch closes, its number goes to sd, and the evaluation is asked for. -/
def Ctx.demand (k : Ctx) (g : Tensor) (box : TBox) (store : Option (Tensor × Nat)) : State :=
  if k.arrayBusy then k.blocked
  else
    match k.s.demandFails k.c.group g box with
    | some st => k.s.killCourse k.cid st
    | none =>
      let b := k.g.closeBatch
      let sd := k.skey k.x.vd.toNat
      let scope := (k.x.ext.extractLsb' 6 3).toNat
      if boxEmpty box then
        let r := k.issueBeside sd (BitVec.ofNat 64 b.1) .none false
        r.1.setGroup k.c.group { b.2 with }
      else
        let r := k.issueBeside sd (BitVec.ofNat 64 b.1) (.batch b.1) true
        let d : Demand := { batch := b.1, course := k.cid, g, box, pc := k.pc, store, scope, issued := r.2 }
        (r.1.setGroup k.c.group { b.2 with demands := b.2.demands ++ [d] }).postOnce (k.s.now + 1) .nodeEvaluate (.nat k.c.group 0 0)

/-- TFORCE. -/
def execTforce (x : XFields) (s : State) : Out :=
  withIssue (.tforce x) s (fun k =>
    let g := k.tensor x.sa
    if g.isEmpty then .next (k.badId (idNum x.sa)) else .next (k.demand g (k.box x.sb g) none))

/-- TSTORE: gs and gd of one FMT that is not CB4, with equal view extents (R506). -/
def execTstore (x : XFields) (s : State) : Out :=
  withIssue (.tstore x) s (fun k =>
    let gd := k.tensor x.sa
    let gs := k.tensor x.sb
    if gd.isEmpty then .next (k.badId (idNum x.sa))
    else if gs.isEmpty then .next (k.badId (idNum x.sb))
    else if gd.fmt ≠ gs.fmt || gd.fmt = 12 || !sameView gd gs then .next (k.badId (idNum x.sa))
    else .next (k.demand gs (k.box x.sc gs) (some (gd, (x.ext.extractLsb' 6 3).toNat))))

/-- What TWAIT finds of a batch: done, to be waited for, or failed. -/
def Group.batchState (g : Group) (n : Nat) : Option Nat × Bool :=
  ((g.failed.find? (fun p => p.1 = n)).map (·.2), g.demands.any (fun d => d.batch = n))

/-- TWAIT: waits for a batch; one never closed answers 1 at once (R325, R507). -/
def execTwait (x : XFields) (s : State) : Out :=
  withIssue (.twait x) s (fun k =>
    let n := (k.srcS x.sa).toNat
    if !k.g.wasClosed n then .next (k.issueAt k.next [.s (k.skey x.vd.toNat) 1] .none).1
    else .next (k.issueAt k.next [] (.twait n (k.skey x.vd.toNat))).1)

/-- One look of a TWAIT at its batch. [DEDUCED, log 93] -/
def State.twaitStep (s : State) (cid : Nat) (p : Pend) (n sd : Nat) : State :=
  let gk := (s.course cid).group
  match (s.group gk).batchState n with
  | (some st, _) => s.killCourse cid st
  | (none, true) => s.again cid p.id
  | (none, false) =>
    let c := (s.course cid).landAll [.s sd 0]
    s.setCourse cid { c with pends := c.pends.filter (fun q => q.id ≠ p.id) }

/-- The nodes of the cell that TDROP frees: pending, not begun, overlapping g, and no other pending node depends on them; until none
qualifies (R329). -/
def State.dropNodes : Nat → State → Nat → Tensor → State
  | 0, s, _, _ => s
  | fuel + 1, s, gk, g =>
    let gr := s.group gk
    let vd := (s.task gr.task).vd
    let all := s.cellNodes gr.bench gr.cell
    let me : NodeRef := { gk, idx := 0, vd, n := {} }
    match all.find? (fun m => m.n.st = .pending && m.n.done.isNone && m.n.redo.isNone && (me.uses g g.whole m).isSome
        && all.all (fun r => (r.gk = m.gk && r.idx = m.idx) || (r.deps all r.n.d.whole).all (fun p => !(p.1.gk = m.gk && p.1.idx = m.idx)))) with
    | none => s
    | some m => (s.setGroup m.gk { s.group m.gk with nodes := tdel (s.group m.gk).nodes m.idx }).dropNodes fuel gk g

/-- TDROP. -/
def execTdrop (x : XFields) (s : State) : Out :=
  withIssue (.tdrop x) s (fun k =>
    let g := k.tensor x.sa
    if g.isEmpty then .next (k.badId (idNum x.sa))
    else .next (k.engine (.drop g) (fun id s => ((s.dropNodes 64 k.c.group g).endPend k.cid id, true))))

/-- The word of TQRY (R330). -/
def State.tqryWord (s : State) (gk sel : Nat) : Word :=
  let g := s.group gk
  let prev := fun n => if n = 1 then (if g.wrapped then 2 ^ 32 - 1 else 0) else n - 1
  match sel with
  | 0 =>
    let done := prev ((g.demands.head?.map (·.batch)).getD g.nextBatch)
    let parked := (g.nodes.filter (fun p => match p.2.st with
      | .parked _ _ => true
      | _ => false)).length
    BitVec.ofNat 64 (done * 2 ^ 32 + (64 - s.camUsed g.bench g.cell) * 2 ^ 16 + parked * 2 ^ 8 + (g.nodes.length - parked))
  | 1 => BitVec.ofNat 64 g.nextBatch
  | 2 => BitVec.ofNat 64 g.overflow
  | _ => BitVec.ofNat 64 g.camForce

/-- TQRY. -/
def execTqry (x : XFields) (s : State) : Out :=
  withIssue (.tqry x) s (fun k =>
    .next (k.issueAt k.next [.s (k.skey x.vd.toNat) (k.s.tqryWord k.c.group (x.ext.extractLsb' 0 4).toNat)] .none).1)

end Sys2Proof.Machine
end

