-- ==== Sys2Proof/Machine/Array.lean ====
section
/-! DEFINITION. The matrix array and the bow (11 R331 to R336, 18 R508 to R512). -/
namespace Sys2Proof.Machine

/-! ## Geometry (R331) -/

/-- Does an activation type fit a plane (R510)? A plane that no LSTAT has loaded is one of INT8 zeros. [DESIGN CHOICE, log 110] -/
def fitsPlane (type : Nat) (fmt : Option Nat) : Bool :=
  let f := fmt.getD 0
  if type = 0 then f = 0 || f = 12 else f = type

/-! ## The bow (R333, R334) -/

/-- A course begins to wait for the bow. -/
def State.wantBow (s : State) (cid : Nat) : State :=
  let co := s.course cid
  let g := s.group co.group
  let k := cellKey g.bench g.cell
  let c := s.cell k
  let e := (co.group, co.c)
  if g.holder = some co.c then s
  else
    let s := if c.bowQueue.contains e then s else s.setCell k { c with bowQueue := c.bowQueue ++ [e] }
    s.askBow co.group

/-- The array as a group finds it: what its image or its shadow copy had; otherwise its contents stand unless another group held it since
(R334, 07 R199). What a save or a rollback has kept for another group of the cell is lost with that. -/
def State.enterArray (s : State) (gk : Nat) : State :=
  let g := s.group gk
  let k := cellKey g.bench g.cell
  let c := s.cell k
  let s : State := { s with groups := s.groups.map (fun p => if cellKey p.2.bench p.2.cell = k && !p.2.saved then (p.1, { p.2 with matrix := none }) else p) }
  match g.matrix with
  | some (p, q, a) => s.setCell k { c with plane := p, shadow := q, accum := a, arrayGroup := some gk }
  | none =>
    if c.arrayGroup = some gk then s
    else s.setCell k { c with arrayGroup := some gk, plane := { fmt := g.fmtPlane }, shadow := { fmt := g.fmtShadow }, accum := [] }

/-- May a waiting course take the bow of its group: its turn has come, or it has left and only what it left under way still needs the
array? -/
def State.bowTurn (s : State) (e : Nat × Nat) : Bool :=
  !(s.group e.1).saved && ((s.group e.1).turn = e.2 || ((s.courseAt e.1 e.2).map (fun cid => !(s.course cid).alive)).getD false)

/-- BOW_GRANT: while no group of the cell holds its bow, the first waiting course whose turn it is becomes holder. -/
def State.grantBow (s : State) (k : Nat) : State :=
  let c := s.cell k
  let held := s.groups.any (fun p => cellKey p.2.bench p.2.cell = k && !p.2.saved && p.2.holder.isSome)
  if held then s
  else
    match c.bowQueue.find? (fun e => decide (s.bowTurn e)) with
    | none => s
    | some e =>
      let s := s.setCell k { c with bowQueue := c.bowQueue.filter (· ≠ e) }
      (s.setGroup e.1 { s.group e.1 with holder := some e.2 }).enterArray e.1

/-- BOW_GRANT (.nat cell 0 0). -/
def execBowGrant (s : State) : Out :=
  match s.arg with
  | .nat k _ _ => .next (s.grantBow k)
  | _ => .next s

/-! ## Operands in scratchpad (R508, R509) -/

/-- A range of n bytes at a window or cluster address, every bank of it in scratchpad mode: group, index and offset. -/
def Ctx.spadRange (k : Ctx) (n : Nat) (a : Nat) : Option (Nat × Nat × Nat) :=
  match k.spad (max n 1) a with
  | none => none
  | some (gk, gi, off) =>
    if (List.range ((off + max n 1 - 1) / 131072 + 1 - off / 131072)).all (fun i =>
        k.s.winMode gk ((off / 131072 + i) * 131072) = some .spad) then some (gk, gi, off) else none

/-- SCRATCH_RANGE of an array operand of n bytes. -/
def Ctx.rangeOnly (k : Ctx) (n : Nat) (a : Word) : Option State :=
  let a := a.toNat % 2 ^ 32
  if (k.spadRange n a).isNone then some (k.fault 0x0f 0 (BitVec.ofNat 64 a) 0 k.k0) else none

/-- MISALIGN of an array operand to its unit. -/
def Ctx.alignOnly (k : Ctx) (unit : Nat) (a : Word) : Option State :=
  let a := a.toNat % 2 ^ 32
  if a % unit ≠ 0 then some (k.fault 0x0e 0 (BitVec.ofNat 64 a) 0 k.k0) else none

/-- The fault of an array operand: SCRATCH_RANGE, then MISALIGN to its unit. [DEDUCED, log 106] -/
def Ctx.rangeFault (k : Ctx) (n unit : Nat) (a : Word) : Option State := (k.rangeOnly n a).or (k.alignOnly unit a)

/-- Are the granules course-owned, with every course access to them that issued before performed? -/
def State.granulesIdle (s : State) (gk off n : Nat) (before : Option Nat) : Bool :=
  !(s.group gk).saved && (granulesAt off n).all (fun i => (s.holder gk i).isNone && s.granuleQuiet gk i before)

/-- Read n bytes of a window as an engine does: the group's buffered stores to the granules are applied first (R299, R511). -/
def State.engineRead (s : State) (gk off n : Nat) : State × List Byte :=
  let s := (granulesAt off n).foldl (fun s i => s.applyGranule gk i) s
  (s, s.peekWinN gk off n)

/-- The uncorrectable elements among n bytes of elements of a format that an array instruction consumes: in event mode those of a float
format poison what they feed, otherwise the first one stops the instruction, and its offset is the error (12 R352). [DEDUCED, log 105] -/
def State.arrayClean (s : State) (gk : Nat) (evm : Bool) (fmt off len : Nat) : Except Nat (List Nat) :=
  let n := elemBytes fmt
  let bad := (List.range (len / n)).filter (fun i => s.winBad gk (off + i * n) n)
  match bad with
  | [] => .ok []
  | i :: _ => if evm && floatType fmt && !(s.task (s.group gk).task).hdr.shadow then .ok bad else .error (off + i * n)

/-- Element i of a byte string in a format; CB4 nibbles, low first. -/
def elemAt (fmt : Nat) (l : List Byte) (i : Nat) : Nat :=
  if fmt = 12 then fieldB l (i / 2) 1 / 16 ^ (i % 2) % 16 else fieldB l (i * elemBytes fmt) (elemBytes fmt)

/-- A table of the nonzero values of a list, by position. -/
def tableOf {α : Type} [DecidableEq α] (z : α) (l : List α) : FMap α :=
  (l.mapIdx (fun i x => (i, x))).filter (fun p => p.2 ≠ z)

/-! ## What the array instructions do (R332, R364, R365) -/

/-- LSTAT: the shadow plane from scratchpad. -/
def planeOf (fmt : Nat) (l sc : List Byte) (bad : List Nat) : Plane :=
  { fmt := some fmt, bad, w := tableOf 0 ((List.range (planeK fmt * planeK fmt)).map (fun i => BitVec.ofNat 64 (elemAt fmt l i)))
    q := if fmt = 12 then tableOf 0 ((List.range 256).map (fun i => sc.getD i 0)) else []
    sc := if fmt = 12 then tableOf 0 ((List.range 128).map (fun n => BitVec.ofNat 32 (fieldB sc (256 + 4 * n) 4))) else [] }

/-- One accumulator of a stream: the activations of its row against a column. -/
def streamElem (env : FEnv) (p : Plane) (type acc n : Nat) (as_ : List Nat) (sa : Nat) : Nat × List Nat :=
  let fmt := p.fmt.getD 0
  let kk := planeK fmt
  let w := fun k => (tgetD p.w (k + kk * n) 0).toNat
  if fmt = 12 then
    let f := cbFactor env (tgetD p.sc n 0).toNat sa
    (List.range 2).foldl (fun r h =>
      let s : Int := ((List.range 64).map (fun j => cbLevel (w (64 * h + j)) * intVal 0 (as_.getD (64 * h + j) 0))).foldl (· + ·) 0
      let x := cbAccumulate env r.1 (s * (tgetD p.q (2 * n + h) 0).toNat) f.x
      (x.1, r.2 ++ f.ev :: x.2)) (acc, [])
  else if fmt = 0 then
    (int64Of (((List.range kk).map (fun k => intVal 0 (as_.getD k 0) * intVal 0 (w k))).foldl (· + ·) (sext 64 acc)), [])
  else
    (List.range kk).foldl (fun r k =>
      let x := fmaAccumulate env type r.1 (as_.getD k 0) (w k)
      (x.1, r.2 ++ x.2)) (acc, [])

/-- MSTRM: the new accumulator memory and the events met. An accumulator that a poisoned element feeds becomes POISON (12 R352). [DEDUCED, log 105] -/
def streamAll (env : FEnv) (p : Plane) (accum : FMap Word) (type : Nat) (z : Bool) (r0 rows c0 : Nat) (act sc : List Byte) (bad : List Nat) :
    FMap Word × List Nat :=
  let kk := planeK (p.fmt.getD 0)
  (List.range rows).foldl (fun m r =>
    let as_ := (List.range kk).map (fun k => elemAt type act (k + kk * r))
    let sa := if p.fmt = some 12 then fieldB sc (4 * r) 4 else 0x3f800000
    let rowBad := bad.any (fun i => i / kk = r)
    (List.range kk).foldl (fun m n =>
      let key := (r0 + r) * 128 + (c0 + n)
      let x := if rowBad || p.bad.any (fun i => i / kk = n) then ((env.poison 11).x, [(env.poison 11).ev])
        else streamElem env p type (if z then 0 else (tgetD m.1 key 0).toNat) n as_ sa
      (tput 0 m.1 key (BitVec.ofNat 64 x.1), m.2 ++ x.2)) m) (accum, [])

/-- MDRAIN: the elements in the order of their addresses, and the events met. -/
def drainAll (env : FEnv) (accum : FMap Word) (type rm : Nat) (sat ak : Bool) (r0 rows c0 cols : Nat) : List Byte × List Nat :=
  let rs := (List.range rows).flatMap (fun r => (List.range cols).map (fun c =>
    convert env type (if ak then 6 else 11) rm sat (tgetD accum ((r0 + r) * 128 + (c0 + c)) 0).toNat))
  (rs.flatMap (fun x => leBytes (typeSize type) x.x), rs.map (·.ev))

/-! ## Performing (R332, R333, R353) -/

/-- A trapped event of a list: the first in the order of R345 (0 for none). -/
def trappedOf (trapmask : BitVec 16) (evs : List Nat) : Nat :=
  (([7, 1, 2, 3, 4, 8, 6, 5] : List Nat).find? (fun v => trapmask.getLsbD v && evs.contains v)).getD 0

/-- What keeps an array instruction from completing: a trapped event, or uncorrectable data at a window offset. -/
inductive ArrayStop where
  | event (e : Nat)
  | poison (off : Nat)
  deriving DecidableEq, Repr

/-- An array instruction meets what stops it: a late ARITH fault, or ECC_UE and the rollback of a shadowed group (12 R352, R353). -/
def State.arrayStop (s : State) (cid : Nat) (p : Pend) (x : ArrayStop) : State :=
  match x with
  | .event e => s.meetLate cid p { cause := 4, event := e, mask := 0xffffffff }
  | .poison off => s.meetPoison cid p (BitVec.ofNat 64 off) 0xffffffff

/-- Stream into the accumulators: the answer is what stops it, with the new state. -/
def State.stream (s : State) (cid : Nat) (pc : Word) (trapmask : BitVec 16) (type : Nat) (z : Bool) (sa r0 rows c0 : Nat) (sc : Option Nat) : State × Option ArrayStop :=
  let g := s.group (s.course cid).group
  let k := cellKey g.bench g.cell
  let p := (s.cell k).plane
  let kk := planeK (p.fmt.getD 0)
  let wa := s.arrayWin cid sa
  let ra := s.engineRead wa.1 wa.2 (rows * kk * typeSize type)
  let ws := sc.map (ra.1.arrayWin cid)
  let rs : State × List Byte := match ws with
    | some w => ra.1.engineRead w.1 w.2 (4 * rows)
    | none => (ra.1, [])
  let s := rs.1
  let c := s.cell k
  let env := s.fenv cid pc
  match s.arrayClean wa.1 env.evm type wa.2 ra.2.length, s.arrayClean ((ws.map (·.1)).getD 0) false 4 ((ws.map (·.2)).getD 0) rs.2.length with
  | .error off, _ | _, .error off => (s, some (.poison off))
  | .ok bad, .ok _ =>
    let r := streamAll env c.plane c.accum type z r0 rows c0 ra.2 rs.2 bad
    let e := trappedOf trapmask r.2
    if e ≠ 0 then (s, some (.event e)) else (s.setCell k { c with accum := r.1 }, none)

/-- Are the granules of an array operand ready? -/
def State.operandIdle (s : State) (cid a n : Nat) (before : Option Nat) : Bool :=
  let w := s.arrayWin cid a
  s.granulesIdle w.1 w.2 n before

/-- Does an array instruction wait for a granule of its operands that an engine owns? -/
def State.arrayWaits (s : State) (cid : Nat) (op : ArrayOp) : Bool :=
  (s.arrayOperands cid op).any (fun x => let w := s.arrayWin cid x.1; (granulesAt w.2 x.2).any (fun i => (s.holder w.1 i).isSome))

/-- One look at an array instruction: in issue order, the bow first (R333, R334). -/
def State.arrayStep (s : State) (cid : Nat) (p : Pend) (op : ArrayOp) : State :=
  let co := s.course cid
  let first := (co.before p.id).all (fun q => !q.holdsCell)
  let gk := co.group
  let g := s.group gk
  let k := cellKey g.bench g.cell
  if !first then s.again cid p.id
  else
    match op with
    | .pass =>
      if g.holder = some co.c then
        if s.arrayUsed cid then s.again cid p.id
        else (s.passBow gk co.c).endPend cid p.id
      else if g.holder = none && g.turn = co.c then (s.passBow gk co.c).endPend cid p.id
      else s.endPend cid p.id
    | .take => if s.holdsBow cid then s.endPend cid p.id else (s.wantBow cid).again cid p.id
    | .lswap =>
      if !s.holdsBow cid then (s.wantBow cid).again cid p.id
      else
        let c := s.cell k
        ((s.setCell k { c with plane := c.shadow, shadow := c.plane }).setGroup gk
          { g with fmtPlane := g.fmtShadow, fmtShadow := g.fmtPlane }).endPend cid p.id
    | .lstat type sa sb =>
      let n := planeBytes type
      if !s.holdsBow cid then (s.wantBow cid).again cid p.id
      else if !(s.arrayOperands cid op).all (fun x => s.operandIdle cid x.1 x.2 (some p.id)) then s.again cid p.id
      else
        let w := s.arrayWin cid sa
        let r := s.engineRead w.1 w.2 n
        let q : State × List Byte := match sb with
          | some a => let w := r.1.arrayWin cid a; r.1.engineRead w.1 w.2 768
          | none => (r.1, [])
        let c := q.1.cell k
        let ws := (sb.map (q.1.arrayWin cid)).getD (0, 0)
        match q.1.arrayClean w.1 (q.1.fenv cid p.pc).evm type w.2 r.2.length, q.1.arrayClean ws.1 false 4 ws.2 q.2.length with
        | .error off, _ | _, .error off => q.1.arrayStop cid p (.poison off)
        | .ok bad, .ok _ =>
          ((q.1.setCell k { c with shadow := planeOf type r.2 q.2 bad }).setGroup gk
            { q.1.group gk with fmtShadow := some type }).endPend cid p.id
    | .mstrm type z sa r0 rows c0 sc =>
      if !s.holdsBow cid then (s.wantBow cid).again cid p.id
      else if !(s.arrayOperands cid op).all (fun x => s.operandIdle cid x.1 x.2 (some p.id)) then s.again cid p.id
      else
        let r := s.stream cid p.pc p.trapmask type z sa r0 rows c0 sc
        match r.2 with
        | some x => r.1.arrayStop cid p x
        | none => r.1.endPend cid p.id
    | .mdrain type rm sat ak sa r0 rows c0 cols =>
      let n := rows * cols * typeSize type
      let w := s.arrayWin cid sa
      if !s.holdsBow cid then (s.wantBow cid).again cid p.id
      else if !((granulesAt w.2 n).all (fun i => (s.holder w.1 i).isNone)) then s.again cid p.id
      else
        let f := s.forceRanges (s.group w.1).bench (s.group w.1).cell [{ win := true, id := w.1, lo := w.2, hi := (w.2 + n : Nat) }] { pc := p.pc, course := some cid, issued := some p.id }
        if !f.2 then f.1.again cid p.id
        else
          let r := drainAll (f.1.fenv cid p.pc) (f.1.cell k).accum type rm sat ak r0 rows c0 cols
          let e := trappedOf p.trapmask r.2
          if e ≠ 0 then f.1.meetLate cid p { cause := 4, event := e, mask := 0xffffffff }
          else (f.1.pokeWinL w.1 w.2 r.1).endPend cid p.id

/-! ## The instructions (R508, R512) -/

/-- Issue an array instruction. -/
def Ctx.array (k : Ctx) (op : ArrayOp) : State := (k.issueAt k.next [] (.array op)).1

/-- The scale address of a field: 244 for none. -/
def Ctx.scaleAddr (k : Ctx) (f : BitVec 8) : Option Word := if f = 244 then none else some (k.srcS f)

/-- SCRATCH_RANGE for a scale address that is given without a CB4 plane, or missing with one (R509). -/
def Ctx.scaleRange (k : Ctx) (cb : Bool) (sc : Option Word) (n : Nat) : Option State :=
  match cb, sc with
  | true, none => some (k.fault 0x0f 0 0 0 k.k0)
  | false, some a => some (k.fault 0x0f 0 a 0 k.k0)
  | true, some a => k.rangeOnly n a
  | false, none => none

/-- MISALIGN of a scale address. -/
def Ctx.scaleAlign (k : Ctx) (sc : Option Word) : Option State := sc.bind (k.alignOnly 4)

/-- The fault of a scale address: SCRATCH_RANGE, then MISALIGN. -/
def Ctx.scaleFault (k : Ctx) (cb : Bool) (sc : Option Word) (n : Nat) : Option State := (k.scaleRange cb sc n).or (k.scaleAlign sc)

/-- LSTAT: loads the shadow plane. [DEDUCED, log 106] -/
def execLstat (x : XFields) (s : State) : Out :=
  withIssue (.lstat x) s (fun k =>
    let t := x.type.toNat
    let sa := k.srcS x.sa
    let sc := k.scaleAddr x.sb
    match ((k.rangeOnly (planeBytes t) sa).or (k.scaleRange (t = 12) sc 768)).or ((k.alignOnly 64 sa).or (k.scaleAlign sc)) with
    | some s => .next s
    | none => .next (k.array (.lstat t (sa.toNat % 2 ^ 32) (sc.map (fun a => a.toNat % 2 ^ 32)))))

/-- LSWAP: exchanges the planes. -/
def execLswap (x : XFields) (s : State) : Out := withIssue (.lswap x) s (fun k => .next (k.array .lswap))

/-- The SCRATCH_RANGE checks of a stream's parameters and operands, for the stationary plane of the moment (R509, R510). -/
def Ctx.streamRange (k : Ctx) (type : Nat) (sa : Word) (prm : Word) (sc : Option Word) : Option State :=
  let plane := (k.s.cell (cellKey k.g.bench k.g.cell)).plane.fmt
  let p := prm.toNat
  let r0 := bits p 7 0
  let rows := bits p 15 8 + 1
  let c0 := bits p 22 16
  let n := planeK (plane.getD 0)
  if 2 ^ 23 ≤ p || 256 < r0 + rows || !fitsPlane type plane || 128 < c0 + n || c0 % n ≠ 0 then
    some (k.fault 0x0f 0 (BitVec.ofNat 64 r0) 0 k.k0)
  else (k.rangeOnly (rows * n * typeSize type) sa).or (k.scaleRange (plane = some 12) sc (4 * rows))

/-- The checks of a stream: SCRATCH_RANGE comes before MISALIGN, as for OWNSET (R513). [DEDUCED, log 106] -/
def Ctx.streamFault (k : Ctx) (type : Nat) (sa : Word) (prm : Word) (sc : Option Word) : Option State :=
  (k.streamRange type sa prm sc).or ((k.alignOnly 64 sa).or (k.scaleAlign sc))

/-- Wait at issue until the course holds the bow and its earlier array instructions are done: the checks of a stream depend
on the plane they leave (R497, R510). -/
def Ctx.onArray (k : Ctx) (f : Ctx → State) : State :=
  if !k.s.holdsBow k.cid then { k with s := k.s.wantBow k.cid }.blocked else if k.arrayBusy then k.blocked else f k

/-- MSTRM: streams activations into the accumulators. -/
def execMstrm (x : XFields) (s : State) : Out :=
  withIssue (.mstrm x) s (fun k =>
    .next (k.onArray (fun k =>
      let t := x.type.toNat
      let sa := k.srcS x.sa
      let p := (k.srcS x.sb).toNat
      let sc := k.scaleAddr x.sc
      match k.streamFault t sa (k.srcS x.sb) sc with
      | some s => s
      | none => k.array (.mstrm t (x.ext.getLsbD 0) (sa.toNat % 2 ^ 32) (bits p 7 0) (bits p 15 8 + 1) (bits p 22 16)
          (sc.map (fun a => a.toNat % 2 ^ 32))))))

/-- MDRAIN: converts accumulators and writes them to scratchpad. -/
def execMdrain (x : XFields) (s : State) : Out :=
  withIssue (.mdrain x) s (fun k =>
    let t := x.type.toNat
    let sa := k.srcS x.sa
    let p := (k.srcS x.sb).toNat
    let r0 := bits p 7 0
    let rows := bits p 15 8 + 1
    let c0 := bits p 22 16
    let cols := bits p 30 24 + 1
    if 2 ^ 31 ≤ p || p.testBit 23 || 256 < r0 + rows || 128 < c0 + cols then .next (k.fault 0x0f 0 (BitVec.ofNat 64 r0) 0 k.k0)
    else
      match k.rangeFault (rows * cols * typeSize t) 64 sa with
      | some s => .next s
      | none => .next (k.array (.mdrain t x.rm.toNat (x.sat ≠ 0) (x.ext.getLsbD 0) (sa.toNat % 2 ^ 32) r0 rows c0 cols)))

/-- BTAKE: done when the course holds the bow. -/
def execBtake (x : XFields) (s : State) : Out :=
  withIssue (.btake x) s (fun k =>
    let r := k.issueAt k.next [] (.array .take)
    .next (r.1.wantBow k.cid))

/-- BPASS. -/
def execBpass (x : XFields) (s : State) : Out := withIssue (.bpass x) s (fun k => .next (k.array .pass))

/-! ## Owner bits (R513) -/

/-- The first failing check of a window range of OWNSET and OWNQ. -/
def Ctx.ownFault (k : Ctx) (a n : Nat) (query : Bool) : Option State :=
  if 2 ^ 21 ≤ a || (if query then k.g.win ≤ a else k.g.win < a + n) then some (k.fault 0x0f 0 (BitVec.ofNat 64 a) 0 k.k0)
  else if a % 4096 ≠ 0 || n % 4096 ≠ 0 then some (k.fault 0x0e 0 (BitVec.ofNat 64 a) 0 k.k0)
  else none

/-- OWNSET's flips: none until all can be done (R513). -/
def State.ownSet (s : State) (cid pend : Nat) (eng : Bool) (gs : List Nat) : State × Bool :=
  let gk := (s.course cid).group
  let can := gs.all (fun i => match s.holder gk i with
    | none => !eng || s.granuleQuiet gk i (some pend)
    | some .free => true
    | some _ => eng)
  if !can || s.takenAhead gk pend ((EngineOp.own eng gs).takes s gk) then (s, false)
  else
    ((gs.foldl (fun s i =>
      if eng then (if (s.holder gk i).isNone then s.flipToEngine gk i .free else s) else s.flipToCourse gk i) s).endPend cid pend, true)

/-- OWNSET: flips granules. -/
def execOwnset (x : XFields) (s : State) : Out :=
  withIssue (.ownset x) s (fun k =>
    let a := (k.srcS x.sa).toNat % 2 ^ 32
    let n := (k.srcS x.sb).toNat
    let eng := x.ext.getLsbD 0
    match k.ownFault a n false with
    | some s => .next s
    | none => .next (k.engine (.own eng (granulesAt a n)) (fun id s => s.ownSet k.cid id eng (granulesAt a n))))

/-- OWNQ: one bit for each of 64 granules. -/
def execOwnq (x : XFields) (s : State) : Out :=
  withIssue (.ownq x) s (fun k =>
    let a := (k.srcS x.sa).toNat % 2 ^ 32
    match k.ownFault a 0 true with
    | some s => .next s
    | none =>
      let v := (List.range 64).foldl (fun v i => if (k.s.holder k.c.group (a / 4096 + i)).isSome then v + 2 ^ i else v) 0
      .next (k.issueAt k.next [.s (k.skey x.vd.toNat) (BitVec.ofNat 64 v)] .none).1)

end Sys2Proof.Machine
end

