-- ==== Sys2Proof/Machine/Fetch.lean ====
section
/-! DEFINITION. The fetch of an instruction (13 R390, R400, 14 R403), the splits that can issue (08 R228 to R232), and
which events are held back or stand in a lane (01 R17, R21, 02 R53). -/
namespace Sys2Proof.Machine

/-! ## Fetch -/

/-- What the fetch of a split's next instruction gives. -/
inductive Fetched where
  | instr (i : Instr)
  /-- an issue fault of the fetch: its cause and ADDR -/
  | bad (cause : Nat) (addr : Word)
  /-- the core's ATLB has no entry for this granule: issue waits while it is filled (09 R261) -/
  | wait (granule : Nat)
  deriving DecidableEq, Repr

/-- Where the word at an address of variant 0 is fetched from: the route variant of the bench (R400), or that of the stale loop buffer
which the course still runs from (07 R203). [DEDUCED, log 64] -/
def State.variantAddr (s : State) (cid a : Nat) : Nat :=
  let c := s.course cid
  let g := s.group c.group
  let h := (s.task g.task).hdr
  let v := (if 0 < c.loop then c.loopVar else (s.bench g.bench).variant).toNat
  if v < h.rvcount then a + v * (h.rvstride * 65536) else a

/-- The older values of the four bytes of a code word that a fetch may still see, until IFENCE or ICINV, and in a stale loop buffer until
the course leaves it (17 R489, R490). -/
def Course.codeOld (c : Course) (pa : Nat) : List StaleByte :=
  ((if 0 < c.loop then c.loopI else []) ++ c.staleI).filter (fun e => pa ≤ e.addr && e.addr < pa + 4)

/-- A code byte as it stood before the writes of a tick and of later ones; without a tick, as it stands. -/
def State.codeByte (s : State) (old : List StaleByte) (tick : Option Nat) (pa : Nat) : Byte :=
  match tick with
  | none => Memory.read s.dram pa
  | some t => ((old.find? (fun e => e.addr = pa && t ≤ e.tick)).map (·.old)).getD (Memory.read s.dram pa)

/-- A word of code in memory: as it stands, or as it stood at one of the times whose contents a fetch may still see, which is left open; a
word is never made of two (14 R417). [DEDUCED, log 75] -/
def State.codeBits (s : State) (cid pa : Nat) : Half :=
  let old := (s.course cid).codeOld pa
  let ticks := (old.map (·.tick)).eraseDups
  let t := ticks[s.freeNat (2 ^ 22 + pa) % (ticks.length + 1)]?
  s.codeByte old t (pa + 3) ++ s.codeByte old t (pa + 2) ++ s.codeByte old t (pa + 1) ++ s.codeByte old t pa

/-- The word of code at an address, as the device's table translates it; one with uncorrectable data is not delivered (12 R352). -/
def State.codeWord (s : State) (cid a : Nat) : Except Fetched Half :=
  match (s.vd (s.vdOf cid)).phys (s.variantAddr cid a) with
  | none => .error (.bad 1 (BitVec.ofNat 64 (s.variantAddr cid a)))
  | some pa =>
    if s.poisoned (s.vdOf cid) (s.variantAddr cid a) 4 then .error (.bad 3 (BitVec.ofNat 64 (s.variantAddr cid a)))
    else .ok (s.codeBits cid pa)

/-- One word of code as a core fetches it, checked against the ATLB's entry of its granule (R390, 09 R261). [DESIGN CHOICE, log 72] -/
def State.fetchWord (s : State) (cid a : Nat) : Except Fetched Half :=
  let va := s.variantAddr cid a
  if 2 ^ 57 ≤ va then .error (.bad 2 (BitVec.ofNat 64 va))
  else
    match s.atlbEntry (s.coreOf cid) (s.vdOf cid) va with
    | none => .error (.wait (va / 65536))
    | some e => if e.mapped && !e.perm.getLsbD 2 then .error (.bad 2 (BitVec.ofNat 64 va)) else s.codeWord cid a

/-- n words of code from an address on. -/
def readWords (rd : Nat → Except Fetched Half) (a : Nat) : Nat → Except Fetched (List Half)
  | 0 => .ok []
  | n + 1 =>
    match rd a with
    | .error e => .error e
    | .ok w =>
      match readWords rd (a + 4) n with
      | .error e => .error e
      | .ok ws => .ok (w :: ws)

/-- Read and decode at an address: ILLEGAL_ENCODING is decided by word 0 (R403), then the other words are read. -/
def readInstr (rd : Nat → Except Fetched Half) (a : Nat) : Fetched :=
  match rd a with
  | .error e => e
  | .ok w0 =>
    match checkWord0 w0 with
    | .error _ => .bad 7 0
    | .ok n =>
      match readWords rd (a + 4) (n - 1) with
      | .error e => e
      | .ok ws =>
        match decode (w0 :: ws) with
        | .ok i => .instr i
        | .error _ => .bad 7 0

/-- Is word 0 of a tile major, which a group with LW16 refuses before it fetches the other words (14 R403, R405)? -/
def State.refusesAt (s : State) (cid a : Nat) : Bool :=
  (s.task (s.taskOf cid)).hdr.lw16 && (match s.fetchWord cid a with
    | .ok w => 0x30 ≤ (w.extractLsb' 2 6).toNat && (w.extractLsb' 2 6).toNat ≤ 0x34
    | .error _ => false)

/-- Fetch and decode at an address. -/
def State.fetchAt (s : State) (cid a : Nat) : Fetched :=
  match readInstr (s.fetchWord cid) a with
  | .instr i => .instr i
  | r => if s.refusesAt cid a then .bad 7 0 else r

/-- The entries that a fetch of n bytes used stand first in the ATLB. -/
def State.fetchUse (s : State) (cid a n : Nat) : State :=
  [a, a + (n - 4)].foldl (fun s a => s.atlbUse (s.coreOf cid) (s.vdOf cid) (s.variantAddr cid a)) s

/-! ## Which split issues -/

/-- A split that could issue, and what it would issue. -/
structure Cand where
  cid : Nat
  w   : Nat
  got : Fetched
  /-- its last issue, which orders the candidates, its latest attempt, and its distance from its core's slot pointer, which breaks ties
  (R229) -/
  key : Nat
  tried : Nat := 0
  rank : Nat := 0
  core : Nat
  /-- does it issue as a vector instruction (R228)? -/
  vec : Bool := false
  /-- the tick of a YIELD that still holds it back (15 R439) -/
  since : Option Nat
  deriving DecidableEq, Repr

/-- Does a YIELD hold a candidate back: another one of its core has not had its turn since (15 R439)? [DEDUCED, log 76] -/
def Cand.yields (c : Cand) (cs : List Cand) : Bool :=
  match c.since with
  | some t => cs.any (fun o => o.core = c.core && !(o.cid = c.cid && o.w = c.w) && max o.key o.tried < t)
  | none => false

/-- Can a course issue: it runs, is not stopping for a fault of an earlier cycle (06 R162), is active on a D-core, and its group is neither saved, nor being saved, nor going
back to its last barrier? -/
def State.canIssue (s : State) (c : Course) : Bool :=
  let g := s.group c.group
  c.st = .running && (!c.stopping || c.lateNow s.now) && (!c.dcore || c.active) && !g.saved && !g.saving && g.undo.isNone && !g.ended

/-- May instructions issue and tasks be dispatched: in P0 or P1, and not on the way to Retention (01 R17, R21)? -/
def State.works (s : State) : Bool := (s.plat.cur = .p0 || s.plat.cur = .p1) && !(s.plat.busy && s.plat.going = .retention)

/-- Does an event come from the host: a command or a management request, which are performed in the order of arrival? -/
def Ev.fromHost (e : Ev) : Bool :=
  match e.arg with
  | .cmd _ | .frame _ => true
  | _ => false

/-- Does an event go on in Retention: the end of a power transition, what bring-up still awaits, what the host sends, the link layer, and a response for this
module (01 R17, R21)? -/
def Ev.inRetention (e : Ev) : Bool :=
  match e.i, e.arg with
  | .retentionExitDone, _ | .powerTransitionDone, _ | .retentionEntryDone, _ | .readyTimeout, _ | .functionReady, _ | .glAckTimer, _ | .glNakRx, _ | .glRetrain, _ | .glRetrainDone, _ => true
  | .glResponseArrive, .resp _ r => r.turns.isEmpty
  | _, _ => Ev.fromHost e

/-- Does an event wait in Retention? -/
def State.heldBack (s : State) (e : Ev) : Bool := s.plat.cur = .retention && !Ev.inRetention e

/-- Events of one lane are performed in the order in which they stand: what the host sends, and the requests and the responses of one
virtual channel and class of one link (02 R53). -/
def Ev.lane (e : Ev) : Option Nat :=
  match e.arg with
  | .cmd _ | .frame _ => some 0
  | .req p r => if r.waits then none else some (1 + 32 * p + 4 * r.vc + (if r.cls then 2 else 0))
  | .resp p r => some (2 + 32 * p + 4 * r.vc)
  | _ => none

/-- Is what a fetch gave a vector instruction, of the vector classes of 14 R405 (R228)? -/
def Fetched.isVector (f : Fetched) : Bool :=
  match f with
  | .instr i => (match opcodeOf i with
    | some o => 0x10 ≤ o.maj.toNat && o.maj.toNat ≤ 0x23
    | none => false)
  | _ => false

/-- How far the slot of a split lies from the pointer of its core, which advances by one slot every cycle, and then its number (R229). -/
def State.slotRank (s : State) (c : Course) (core w : Nat) : Nat :=
  let n := if c.dcore then 48 else 4
  ((c.slot + n - (Config.slotStart core + s.now) % n) % n) * 4 + w

/-- Had the instruction of a candidate to wait at its latest attempt? -/
def Cand.held (c : Cand) : Bool := c.key < c.tried

/-- Does one candidate come before another: it has gone longer since its last issue, ties by the slot pointer (R229)? -/
def Cand.before (a b : Cand) : Bool := a.key < b.key || (a.key = b.key && a.rank < b.rank)

/-- Does no other candidate of its core fill the same issue position first (R228, R229)? One that had to wait keeps its place, but fills
no position. -/
def Cand.leads (c : Cand) (cs : List Cand) : Bool :=
  cs.all (fun o => (o.cid = c.cid && o.w = c.w) || o.core ≠ c.core || o.vec ≠ c.vec || o.held || !o.before c)

/-- The tick of the last issue of a core. -/
def State.coreLast (s : State) (core : Nat) : Nat :=
  s.courses.foldl (fun m p => if s.coreOf p.1 = core then p.2.splits.foldl (fun m q => max m q.2.last) m else m) 0

/-- May a candidate that had to wait be tried again: its core has issued since, or has nothing else to issue? -/
def State.mayTry (s : State) (c : Cand) (cs : List Cand) : Bool :=
  !c.held || c.tried ≤ s.coreLast c.core || !cs.any (fun o => o.core = c.core && !o.held)

/-- Which position of a core had the last turn? Cores of two kinds take the numbers of a cell in turn. -/
def State.lastVec (s : State) (c : Cand) : Bool :=
  let k := s.group (s.course c.cid).group
  let cell := s.cell (cellKey k.bench k.cell)
  if (s.course c.cid).dcore then cell.vecD else cell.vecL

/-- Is it the turn of a candidate's issue position: of the two positions of a core that have something to issue, each has its turn, so that
neither passes over the other (R229)? -/
def State.itsTurn (s : State) (c : Cand) (cs : List Cand) : Bool :=
  c.vec ≠ s.lastVec c || !cs.any (fun o => o.core = c.core && !o.held && o.vec ≠ c.vec)

/-- A position has its turn. -/
def State.turnTaken (s : State) (c : Cand) : State :=
  if c.held then s
  else
    let g := s.group (s.course c.cid).group
    let k := cellKey g.bench g.cell
    let cell := s.cell k
    s.setCell k (if (s.course c.cid).dcore then { cell with vecD := c.vec } else { cell with vecL := c.vec })

/-- Is the fill of a granule's ATLB entry under way for the core of a course? -/
def State.filling (s : State) (cid g : Nat) : Bool :=
  s.agenda.any (fun d => d.ev = { i := .atlbFillDone, arg := .nat (s.coreOf cid) (s.vdOf cid) g })

/-- The candidates: of each core the vector instruction and the other one that have gone longest, its positions in turn (R228, R229), the longest
first. [DESIGN CHOICE, log 1] -/
def State.cands (s : State) : List Cand :=
  if !s.works then []
  else
    let cs := (s.courses.filter (fun p => s.canIssue p.2)).flatMap (fun p =>
        p.2.splits.filterMap (fun q =>
          if q.2.wait ≠ .run then none
          else
            let got := s.fetchAt p.1 q.2.pc.toNat
            let core := s.coreOf p.1
            let c : Cand := { cid := p.1, w := q.1, got, key := q.2.last, tried := q.2.tried, rank := s.slotRank p.2 core q.1, core, vec := got.isVector
                              since := if s.now < q.2.yield then some (q.2.yield - 64) else none }
            match got with
            | .bad _ _ => if q.2.hold ≤ s.now then some c else none
            | .wait g => if q.2.hold ≤ s.now && !s.filling p.1 g then some c else none
            | .instr i => if s.ready p.1 q.1 i then some c else none))
    let cs := cs.filter (fun c => !c.yields cs)
    let ls := cs.filter (fun c => c.leads cs)
    sortBy (fun (a b : Cand) => !b.before a) (ls.filter (fun c => s.mayTry c ls && s.itsTurn c ls))

/-! ## Time, and a fetch that faults -/

/-- Remove the n-th element of a list. -/
def dropNth {α : Type} : List α → Nat → List α
  | [], _ => []
  | _ :: r, 0 => r
  | x :: r, n + 1 => x :: dropNth r n

/-- Time and the step's number move on; fixed-latency results that are due land (08 R233). [DESIGN CHOICE, log 1] -/
def State.tickOne (s : State) : State :=
  { s with now := s.now + 1, free := s.free + 1
           courses := s.courses.map (fun p => (p.1, if p.2.st.lands then p.2.landDue (s.now + 1) else p.2)) }

/-- Park a split for what its fetch found; uncorrectable data rolls a shadowed group back, or is met late (06 R160, 12 R352). [DEDUCED, log 64] -/
def State.fetchFault (s : State) (cid w cause : Nat) (addr : Word) : State :=
  let sp := tgetD (s.course cid).splits w {}
  if cause = 3 then s.consumeUE (s.course cid).group (.course cid) addr (fun s => s.lateHere cid w { cause, addr, mask := sp.mask })
  else s.parkCourse cid w cause 0 addr 0 sp.mask sp.pc sp.pc none

/-- A split's fetch waits for an ATLB entry, which is filled (09 R261). -/
def State.fetchWait (s : State) (cid w g : Nat) : State :=
  (s.setSplit cid w { tgetD (s.course cid).splits w {} with tried := s.now }).postOnce s.now .atlbFillDone (.nat (s.coreOf cid) (s.vdOf cid) g)

end Sys2Proof.Machine
end

