-- ==== Sys2Proof/Machine/Copy.lean ====
section
/-! DEFINITION. The copy engine: COPY, COPYM, their segments and fills, and the evaluation of demands, whose stores are copy
segments too (11 R325, R335, 18 R506, R514 to R518, 07 R206). -/
namespace Sys2Proof.Machine

/-! ## Segments (R517) -/

/-- Cut n bytes from a window offset at 4 KiB boundaries: offset and length of each piece. -/
def cutGranules : Nat → Nat → Nat → List (Nat × Nat)
  | 0, _, _ => []
  | fuel + 1, off, n =>
    if n = 0 then []
    else
      let m := min n (4096 - off % 4096)
      (off, m) :: cutGranules fuel (off + m) (n - m)

/-- Number the pieces with the cell's segment counter. -/
def State.numberSegs (s : State) (bench cell : Nat) (addr : Nat) (off0 : Nat) (ps : List (Nat × Nat)) : State × List Seg :=
  ps.foldl (fun r p =>
    let q := r.1.nextSeg bench cell
    (q.2, r.2 ++ [{ id := q.1, off := p.1, len := p.2, addr := BitVec.ofNat 64 (addr + (p.1 - off0)) }])) (s, [])

def State.copy (s : State) (n : Nat) : Copy := tgetD s.copies n { course := 0, group := 0 }
def State.setCopy (s : State) (n : Nat) (c : Copy) : State := { s with copies := tset s.copies n c }
def Copy.setSeg (c : Copy) (x : Seg) : Copy := { c with segs := c.segs.map (fun y => if y.id = x.id then x else y) }

/-- Park a segment (06 R159, R168): it alone stops. -/
def State.parkSeg (s : State) (n : Nat) (x : Seg) (cause : Nat) (addr : Word) : State :=
  let c := s.copy n
  let g := s.group c.group
  let r : PRec := { s.recBase g.task with
    kind := 2, cause, late := true, prof := c.prof, addr, pc := c.pc, nextpc := 0
    unit := BitVec.ofNat 64 (x.id * 2 ^ 24 + c.bench * 4096 + c.cell * 256), uA := n, uB := x.id }
  let stop := fun (s : State) (_ : Option Nat) => s.setCopy n ((s.copy n).setSeg { x with parked := true })
  s.parkUnit (dieOf c.bench) r (cause = 3) stop (fun s st => s.killSegment r st)

/-- A segment has met uncorrectable data: a shadowed group rolls back, and the segment is issued again with it; elsewhere it parks. -/
def State.segPoison (s : State) (n : Nat) (x : Seg) : State :=
  let s := s.setCopy n ((s.copy n).setSeg x)
  s.consumeUE (s.copy n).group (.segment n) x.addr (fun s => s.parkSeg n x 3 x.addr)

/-- Bytes land in a receiver's window, or are pushed into its FIFO; BD subtracts them from P (R484, R517). None while a FIFO
has no room. -/
def State.landBytes (s : State) (gk off : Nat) (bd : Bool) (bs : List Byte) : Option State :=
  match s.winBank gk off with
  | none => some s
  | some (ck, b, bank) =>
    let dec := fun (s : State) => if bd then s.setGroup gk { s.group gk with p := (s.group gk).p - BitVec.ofNat 56 bs.length } else s
    if bank.mode = BankMode.fifo then
      let ws := wordsLE (bs.length / 4) bs
      if 32768 < bank.fifo.length + ws.length then none else some (dec (s.setFifo (ck, b) (bank.fifo ++ ws)))
    else some (dec (s.pokeWinL gk off bs))

/-- The fault of a global range for an engine: PROT for bits [63:57], PAGE_MISS, PROT, ECC_UE (R260, R516). -/
def State.engineFault (s : State) (vdn a n bit : Nat) : Option Nat :=
  let v := s.vd vdn
  if 2 ^ 57 < a + n then some 2
  else if !v.mapsAll a n then some 1
  else if !v.allows a n bit then some 2
  else if (bit = 0 && s.poisoned vdn a n) || s.faceDown vdn a n then some 3 else none

/-- End a copy whose segments are all done: its flag is released, or its follow-on issues (R335, R517). -/
def State.finishCopy (s : State) (n : Nat) : State :=
  let c := s.copy n
  if !c.segs.all (·.done) then s
  else if c.killed.isSome then { s with copies := tdel s.copies n }
  else if c.follow.isSome then s.postOnce s.now .copymFollowOn (.nat n 0 0)
  else if c.batch.isSome then s.postOnce s.now .nodeEvaluate (.nat c.group 0 0)
  else { (s.endPend c.course c.pend) with copies := tdel s.copies n }.settleBoundaries

/-- A segment is done: the granule flips back in each receiver once every segment touching it is (R517). -/
def State.segDone (s : State) (n : Nat) (x : Seg) (flip : List Nat) : State :=
  let s := s.setCopy n ((s.copy n).setSeg { x with done := true, data := [], left := [] })
  let s := flip.foldl (fun s gk => if s.holder gk (x.off / 4096) = some (.copy n) then s.flipToCourse gk (x.off / 4096) else s) s
  s.finishCopy n

/-- The bytes of a fill word, repeated. -/
def fillBytes (w : Half) (n : Nat) : List Byte := (List.range n).map (fun i => (leBytes 4 w.toNat).getD (i % 4) 0)

/-- Have the segments before one of its copy moved their bytes at a group's FIFO? A COPY pushes and pops in address order (09 R271). -/
def Copy.fifoTurn (c : Copy) (x : Seg) (gk : Nat) : Bool :=
  (c.segs.takeWhile (fun y => y.id ≠ x.id)).all (fun y => y.done || (c.out && y.sent) || (c.mc && !y.data.isEmpty && !y.left.contains gk))

/-- Must a segment wait for earlier ones of its copy at a group's window? -/
def State.fifoLate (s : State) (c : Copy) (x : Seg) (gk : Nat) : Bool := s.fifoOff gk x.off && !c.fifoTurn x gk

/-- Bytes from memory for a segment land: in the issuer, or on their way to each receiver. -/
def State.landSeg (s : State) (n : Nat) (x : Seg) (bs : List Byte) : State :=
  let c := s.copy n
  if c.mc then
    let rs := if x.own then c.recv.filter (· = c.group) else c.recv
    let s := s.setCopy n (c.setSeg { x with data := bs, left := rs })
    if rs.isEmpty then s.segDone n { x with data := bs } []
    else rs.foldl (fun s gk => s.post s.now .multicastFillLand (.nat n x.id gk)) s
  else
    match if s.fifoLate c x c.group then none else s.landBytes c.group x.off c.bd bs with
    | some s => s.segDone n x [c.group]
    | none => s.postOnce (s.now + 1) .copySegmentComplete (.nat n x.id 0)

/-- The window bytes of an outgoing segment; none while a FIFO holds too few, or an earlier segment has not popped its own. -/
def State.takeSeg (s : State) (c : Copy) (x : Seg) : Option (State × List Byte) :=
  let gk := c.group
  match s.winBank gk x.off with
  | some (ck, b, bank) =>
    if bank.mode = BankMode.fifo then
      let m := x.len / 4
      if bank.fifo.length < m || !c.fifoTurn x gk then none
      else some (s.popFifo (ck, b) m, (bank.fifo.take m).flatMap (fun w => leBytes 4 w.toNat))
    else some (s, s.peekWinN gk x.off x.len)
  | none => some (s, [])

/-- Are the window bytes that an outgoing segment takes now uncorrectable data (09 R267)? -/
def State.segBad (s : State) (c : Copy) (x : Seg) : Bool :=
  match s.winBank c.group x.off with
  | some (ck, b, bank) =>
    if bank.mode = BankMode.fifo then x.len / 4 ≤ bank.fifo.length && c.fifoTurn x c.group && s.fifoBad (ck, b) 0 (x.len / 4)
    else s.winBad c.group x.off x.len
  | none => false

/-- A write of global memory by a copy or a TSTORE escapes, once in each barrier interval in which it writes (06 R182). [DEDUCED, log 104] -/
def State.escapeCopy (s : State) (n : Nat) : State :=
  let c := s.copy n
  let i := (s.group c.group).interval
  if c.escaped = some i then s
  else (s.setCopy n { c with escaped := some i }).escape c.group 3 ((c.segs.head?.map (·.addr.toNat)).getD 0)

/-- Send a segment's request to another module (R516). What an outgoing segment took from its window stays with it: it is sent again
with the same bytes (02 R60). -/
def State.sendSeg (s : State) (n : Nat) (x : Seg) (route : Word) : State :=
  let c := s.copy n
  let vdn := (s.task (s.group c.group).task).vd
  if s.routeDead route then s.parkSeg n x 0x15 x.addr
  else
    let op : Option (State × FabOp) :=
      if !c.out then some (s, .copyRead x.addr x.len)
      else
        match c.fill with
        | some w => some (s, .copyWrite x.addr (fillBytes w x.len) c.scope)
        | none =>
          let took := if x.data.isEmpty then s.takeSeg c x else some (s, x.data)
          took.map (fun r => (r.1, .copyWrite x.addr r.2 c.scope))
    match op with
    | none => s.postOnce (s.now + 1) .copySegmentComplete (.nat n x.id 0)
    | some (s, op) =>
      let data := match op with
        | .copyWrite _ bs _ => bs
        | _ => x.data
      let s := s.setCopy n ((s.copy n).setSeg { x with sent := true, data })
      (if c.out then s.escapeCopy n else s).request (dieOf c.bench) route vdn op none false
        (fun o => { o with seg := some (n, x.id) })

/-- Force the nodes that a copy's writes overlap; says whether the writes may be performed. A node that cannot be evaluated before this
copy gives back a granule was appended after it, and does not hold it up (R318, 09 R277). [DEDUCED, log 104] -/
def State.forceCopy (s : State) (n : Nat) (rs : List MRange) (pc : Word) : State × Bool :=
  let c := s.copy n
  let f := s.forceRanges c.bench c.cell rs { pc, course := some c.course, issued := some c.pend }
  let stuck := fun (r : NodeRef) => (r.granules r.n.d.whole).any (fun i => f.1.holder r.gk i = some (.copy n))
  (f.1, f.2 || ((f.1.cellNodes c.bench c.cell).filter (fun r => r.allRanges.any (fun a => rs.any a.meets))).all stuck)

/-- One segment of a COPY or COPYM is performed (R516, R517). -/
def State.segStep (s : State) (n : Nat) (x : Seg) : State :=
  let c := s.copy n
  let vdn := (s.task (s.group c.group).task).vd
  if c.out && c.fill.isNone && !x.sent && x.data.isEmpty && s.segBad c x then s.segPoison n x
  else
  match c.far with
  | some route => if !x.sent then s.sendSeg n x route else if x.data.isEmpty || c.mc || c.out then s else s.landSeg n x x.data
  | none =>
    if c.out then
      match s.engineFault vdn x.addr.toNat x.len 1 with
      | some f => s.parkSeg n x f x.addr
      | none =>
        let f := s.forceCopy n [{ win := false, id := vdn, lo := x.addr.toNat, hi := (x.addr.toNat + x.len : Nat) }] c.pc
        let src : Option (State × List Byte) := if !f.2 then none else match c.fill with
          | some w => some (f.1, fillBytes w x.len)
          | none => f.1.takeSeg c x
        match src with
        | none => f.1.postOnce (f.1.now + 1) .copySegmentComplete (.nat n x.id 0)
        | some (s, bs) => ((s.pokeVA vdn (some c.course) c.scope x.addr.toNat bs).escapeCopy n).segDone n x [c.group]
    else
      match c.fill with
      | some w => s.landSeg n x (fillBytes w x.len)
      | none =>
        match s.engineFault vdn x.addr.toNat x.len 0 with
        | some f => if f = 3 then s.segPoison n x else s.parkSeg n x f x.addr
        | none => s.landSeg n x (s.peekVA vdn x.addr.toNat x.len)

/-! ## TSTORE's writes (R506) -/

/-- The elements of a demand's box with their destination addresses. -/
def storeElems (gd : Tensor) (box : TBox) : List (List Nat × Int) :=
  (boxElems box).filterMap (fun i => (gd.addr i).map (fun a => (i, a)))

/-- The 4 KiB pages of a destination that a store writes, ascending. -/
def storePages (gd : Tensor) (box : TBox) : List Nat :=
  ((storeElems gd box).map (fun p => p.2.toNat / 4096)).foldl insertNat []

/-- The elements of a store's segment: those of one page. -/
def segElems (gd : Tensor) (box : TBox) (page : Nat) : List (List Nat × Int) :=
  (storeElems gd box).filter (fun p => p.2.toNat / 4096 = page)

/-- The address of a store's segment in global memory: its lowest element's (06 R166). [DEDUCED, log 61] -/
def segBase (gd : Tensor) (box : TBox) (page : Nat) : Nat :=
  (((segElems gd box page).map (fun p => p.2.toNat)).min?).getD (page * 4096)

/-- Begin the writes of a TSTORE whose nodes are evaluated: one segment for each page. -/
def State.beginStore (s : State) (gk : Nat) (d : Demand) (gd : Tensor) (scope : Nat) : State :=
  let g := s.group gk
  let q := s.numberSegs g.bench g.cell 0 0 ((storePages gd d.box).map (fun p => (p * 4096, 4096)))
  let n := q.1.nextKey
  let segs := q.2.map (fun x => { x with addr := BitVec.ofNat 64 (segBase gd d.box (x.off / 4096)) })
  let c : Copy := { course := d.course, group := gk, pc := d.pc, out := true, scope, segs, bench := g.bench, cell := g.cell
                    prof := (s.course d.course).prof, batch := some d.batch, pend := d.issued }
  let s := { q.1 with nextKey := n + 1 }.setCopy n c
  let gr := s.group gk
  let s := s.setGroup gk { gr with demands := gr.demands.map (fun e => if e.batch = d.batch then { e with copy := some n } else e) }
  segs.foldl (fun s x => s.post (s.now + 1) .copySegmentComplete (.nat n x.id 0)) s

/-- One segment of a TSTORE: its elements are read as an engine reads them and written at the instruction's scope; one that REDIRECT
gave another global address writes from there (06 R176). -/
def State.storeStep (s : State) (n : Nat) (x : Seg) (d : Demand) (gd : Tensor) : State :=
  let c := s.copy n
  let gk := c.group
  let es := segElems gd d.box (x.off / 4096)
  let shift : Int := if gd.spad then 0 else (x.addr.toNat : Int) - segBase gd d.box (x.off / 4096)
  let rd : NodeRef := { gk, idx := 0, vd := (s.task (s.group gk).task).vd, n := {} }
  let srcs := granulesOf (if d.g.spad then es.flatMap (fun p => match d.g.addr p.1 with
    | some a => [{ win := true, id := gk, lo := a, hi := a + elemBytes d.g.fmt }]
    | none => []) else [])
  let grans := if gd.spad then insertNat srcs (x.off / 4096) else srcs
  if !grans.all (fun i => s.granuleFree gk i none) || s.takenAhead gk d.issued (grans.map (gk, ·)) then
    s.postOnce (s.now + 1) .copySegmentComplete (.nat n x.id 0)
  else
    let s := grans.foldl (fun s i => s.flipToEngine gk i (.copy n)) s
    let back := fun (s : State) => grans.foldl (fun s i => s.flipToCourse gk i) s
    let vals := mapElems (fun (p : List Nat × Int) => s.tileElem gk { evm := false, pc := c.pc } d.g p.1) es
    match vals with
    | .error f => if f.cause = 3 then (back s).segPoison n x else (back s).parkSeg n x f.cause x.addr
    | .ok vs =>
      let ws : List TWrite := (es.zip vs).map (fun p => { addr := p.1.2 + shift, bs := leBytes (elemBytes gd.fmt) p.2 })
      match s.tileWriteFault gk gd.spad ws with
      | some f => (back s).parkSeg n x f.cause x.addr
      | none =>
        let f := s.forceCopy n (rd.ranges gd) c.pc
        if !f.2 then (back f.1).postOnce (s.now + 1) .copySegmentComplete (.nat n x.id 0)
        else
          let s := back (ws.foldl (fun s w => s.tileWrite gk gd.spad (some c.course) c.scope w) f.1)
          (if gd.spad then s else s.escapeCopy n).segDone n x []

/-- Is a segment under way: it has begun, and is neither done nor parked? -/
def Seg.underWay (x : Seg) : Bool := !x.done && !x.parked && (x.sent || !x.left.isEmpty)

/-- COPY_SEGMENT_COMPLETE (.nat copy segment 0). -/
def execCopySegmentComplete (s : State) : Out :=
  match s.arg with
  | .nat n i _ =>
    match tget s.copies n with
    | none => .next s
    | some c =>
      match c.segs.find? (fun x => x.id = i) with
      | none => .next s
      | some x =>
        if x.done || x.parked || (s.group c.group).saved then .next s
        else if (s.group c.group).undo.isSome && !x.underWay then .next (s.postOnce (s.now + 1) .copySegmentComplete (.nat n i 0))
        else
          match c.batch with
          | none => .next (s.segStep n x)
          | some b =>
            match (s.group c.group).demands.find? (fun d => d.batch = b) with
            | some d => .next (s.storeStep n x d ((d.store.map (·.1)).getD {}))
            | none => .next { s with copies := tdel s.copies n }
  | _ => .next s

/-- MULTICAST_FILL_LAND (.nat copy segment group): the bytes of a segment land in one receiver (07 R206). -/
def execMulticastFillLand (s : State) : Out :=
  match s.arg with
  | .nat n i gk =>
    match tget s.copies n with
    | none => .next s
    | some c =>
      match c.segs.find? (fun x => x.id = i) with
      | none => .next s
      | some x =>
        if x.done || !x.left.contains gk then .next s
        else
          let flip := fun (s : State) => if s.holder gk (x.off / 4096) = some (.copy n) then s.flipToCourse gk (x.off / 4096) else s
          match if s.fifoLate c x gk then none else s.landBytes gk x.off c.bd x.data with
          | none => .next (s.post (s.now + 1) .multicastFillLand (.nat n i gk))
          | some s =>
            let left := x.left.filter (· ≠ gk)
            let s := flip s
            if left.isEmpty then .next (s.segDone n { x with left } [])
            else .next ((s.setCopy n ((s.copy n).setSeg { x with left })).settleBoundaries)
  | _ => .next s

/-! ## COPY and COPYM (R514 to R518) -/

/-- The receivers of an MCAST set; none when it breaks R515. -/
def Ctx.receivers (k : Ctx) (mcast : Nat) : Option (List Nat) :=
  let gs := (List.range 8).filter (fun i => mcast.testBit i)
  if gs.isEmpty || gs.any (fun i => extCX k.t.trec.extents < i || (k.s.peerGroup k.c.group i).isNone) then none
  else some (gs.filterMap (k.s.peerGroup k.c.group))

/-- Is a window range of every receiver inside its window, and in no cache or spill bank? -/
def Ctx.winFits (k : Ctx) (gs : List Nat) (off n : Nat) : Bool :=
  gs.all (fun gk => off + n ≤ (k.s.group gk).win && (List.range ((off + n - 1) / 131072 + 1 - off / 131072)).all (fun i =>
    match k.s.winMode gk ((off / 131072 + i) * 131072) with
    | some m => m = BankMode.spad || m = BankMode.fifo
    | none => n = 0))

/-- Start the copy of a pending instruction: nodes that its destination overlaps are forced, every granule flips to engine, the
segments are numbered and begin (R278, R517, 11 R318). It says whether it has begun; until then the instruction waits. -/
def State.beginCopy (s : State) (cid pend : Nat) (c : Copy) (sa off n : Nat) : State × Bool :=
  let g := s.group c.group
  let gs := if c.recv.isEmpty then [c.group] else c.recv
  let glob : List MRange := if c.far.isSome then [] else [{ win := false, id := s.vdOf cid, lo := sa, hi := (sa + n : Nat) }]
  let a : Asker := { pc := c.pc, course := some cid, issued := some pend }
  let f := if c.out then s.forceRanges g.bench g.cell glob a
    else gs.foldl (fun (p : State × Bool) gk =>
      let r := p.1.forceRanges (s.group gk).bench (s.group gk).cell [{ win := true, id := gk, lo := off, hi := (off + n : Nat) }] a
      (r.1, p.2 && r.2)) (s, true)
  let need := (EngineOp.copy c sa off n).takes f.1 c.group
  if !f.2 || f.1.takenAhead c.group pend need || gs.any (fun gk => (s.group gk).saved) || !need.all (fun p => f.1.granuleFree p.1 p.2 (some pend)) then (f.1, false)
  else
    let q := f.1.numberSegs g.bench g.cell sa off (cutGranules (n / 4096 + 2) off n)
    let key := q.1.nextKey
    let s := { q.1 with nextKey := key + 1 }
    let s := s.setCourse cid { s.course cid with pends := (s.course cid).pends.map (fun p => if p.id = pend then { p with act := .copy key } else p) }
    let s := need.foldl (fun s p => s.flipToEngine p.1 p.2 (.copy key)) s
    let ck := cellKey g.bench g.cell
    let s := if c.mc then s.setCell ck { s.cell ck with fillSeq := ((s.cell ck).fillSeq + 1) % 2 ^ 32 } else s
    let c := { c with segs := q.2, seq := (q.1.cell ck).fillSeq, bench := g.bench, cell := g.cell, pend }
    let s := q.2.foldl (fun s x => s.post (s.now + 1) .copySegmentComplete (.nat key x.id 0)) (s.setCopy key c)
    (s, true)

/-- Issue a copy. -/
def Ctx.startCopy (k : Ctx) (c : Copy) (sa off n : Nat) : State :=
  let c := { c with course := k.cid, group := k.c.group, pc := k.pc, prof := k.c.prof, trapmask := k.c.trapmask }
  k.engine (.copy c sa off n) (fun id s => s.beginCopy k.cid id c sa off n)

/-- COPY, both forms. -/
def Ctx.copy (k : Ctx) (route : Option Word) : State :=
  let e := k.x.ext
  let out := e.getLsbD 0
  let mc := e.getLsbD 1
  let fill := e.getLsbD 3
  let aux := k.srcS k.x.vd
  let sa := (k.srcS k.x.sa).toNat
  let sb := (k.srcS k.x.sb).toNat % 2 ^ 32
  let n := (k.srcS k.x.sc).toNat
  let range := fun (a : Word) => k.fault 0x0f 0 a 0 k.k0
  let noWin := out && fill
  let recv := if mc then k.receivers (aux.toNat % 256) else some []
  let auxBad := if mc then bits aux.toNat 31 8 ≠ 0 || (!fill && bits aux.toNat 63 32 ≠ 0)
    else fill && bits aux.toNat 31 0 ≠ 0
  if (mc || fill) && auxBad then range aux
  else
    match recv with
    | none => range aux
    | some rs =>
      let gs := if rs.isEmpty then [k.c.group] else insertNat rs k.c.group
      if !noWin && (2 ^ 21 ≤ sb || !k.winFits gs sb n) then range (BitVec.ofNat 64 sb)
      else if sa % 4 ≠ 0 then k.fault 0x0e 0 (BitVec.ofNat 64 sa) 0 k.k0
      else if sb % 4 ≠ 0 then k.fault 0x0e 0 (BitVec.ofNat 64 sb) 0 k.k0
      else if n % 4 ≠ 0 then k.fault 0x0e 0 (BitVec.ofNat 64 n) 0 k.k0
      else if (route.map k.s.routeDead).getD false then k.fault 0x15 0 (BitVec.ofNat 64 sa) 0 k.k0
      else if n = 0 then (k.issueAt k.next [] .none).1
      else
        let c : Copy := { course := k.cid, group := k.c.group, out, fill := if fill then some (aux.extractLsb' 32 32) else none
                          bd := e.getLsbD 2, scope := (e.extractLsb' 6 3).toNat, recv := rs, mc, far := route }
        k.startCopy c sa sb n

/-- COPY, X form. -/
def execCopyX (x : XFields) (s : State) : Out := withIssue (.copyX x) s (fun k => .next (k.copy none))
/-- COPY, XL form: the global side lies on another module. -/
def execCopyXl (x : XFields) (route : Word) (s : State) : Out := withIssue (.copyXl x route) s (fun k => .next (k.copy (some route)))

/-- COPYM, both forms: the bow first, every check of its stream at issue (R518, 11 R335). -/
def Ctx.copym (k : Ctx) (route : Option Word) : State :=
  k.onArray (fun k =>
    let t := k.x.type.toNat
    let aux := k.srcS k.x.vd
    let sa := (k.srcS k.x.sa).toNat
    let sbw := k.srcS k.x.sb
    let sb := sbw.toNat % 2 ^ 32
    let n := (k.srcS k.x.sc).toNat
    let plane := (k.s.cell (cellKey k.g.bench k.g.cell)).plane.fmt
    let sc := bits aux.toNat 52 32
    let rows := bits aux.toNat 15 8 + 1
    let range := fun (a : Word) => k.fault 0x0f 0 a 0 k.k0
    if bits aux.toNat 31 24 ≠ 0 || bits aux.toNat 63 53 ≠ 0 || (plane ≠ some 12 && sc ≠ 0) then range aux
    else if 2 ^ 21 ≤ sb || !k.winFits [k.c.group] sb n then range (BitVec.ofNat 64 sb)
    else
      let scale := if plane = some 12 then some (BitVec.ofNat 64 sc) else none
      match k.streamRange t sbw (BitVec.ofNat 64 (bits aux.toNat 22 0)) scale with
      | some s => s
      | none =>
        if n < rows * planeK (plane.getD 0) * typeSize t then range (BitVec.ofNat 64 n)
        else if sa % 4 ≠ 0 then k.fault 0x0e 0 (BitVec.ofNat 64 sa) 0 k.k0
        else
          match (k.alignOnly 64 sbw).or (k.scaleAlign scale) with
          | some s => s
          | none =>
            if n % 4 ≠ 0 then k.fault 0x0e 0 (BitVec.ofNat 64 n) 0 k.k0
            else if (route.map k.s.routeDead).getD false then k.fault 0x15 0 (BitVec.ofNat 64 sa) 0 k.k0
            else k.startCopy { course := k.cid, group := k.c.group, bd := k.x.ext.getLsbD 2, far := route
                               follow := some (t, BitVec.ofNat 64 sb, aux) } sa sb n)

/-- COPYM, X form. -/
def execCopymX (x : XFields) (s : State) : Out := withIssue (.copymX x) s (fun k => .next (k.copym none))
/-- COPYM, XL form. -/
def execCopymXl (x : XFields) (route : Word) (s : State) : Out := withIssue (.copymXl x route) s (fun k => .next (k.copym (some route)))

/-- One look at an instruction that waits for its effect at the cell (R497). [DEDUCED, log 88] -/
def State.engineStep (s : State) (cid : Nat) (p : Pend) (op : EngineOp) : State :=
  if !((s.course cid).before p.id).all (fun q => !q.holdsCell) then s.again cid p.id
  else
    let r := match op with
      | .append n => s.appendNode cid p.id n
      | .drop t => ((s.dropNodes 64 (s.course cid).group t).endPend cid p.id, true)
      | .own eng gs => s.ownSet cid p.id eng gs
      | .copy c sa off n => s.beginCopy cid p.id c sa off n
    if r.2 then r.1 else r.1.again cid p.id

/-- COPYM_FOLLOW_ON (.nat copy 0 0): the stream that the COPYM names, as if its holder issued it now, after the array instructions that
it has issued, a BPASS apart, and while its course holds the bow (11 R332 to R335). -/
def execCopymFollowOn (s : State) : Out :=
  match s.arg with
  | .nat n _ _ =>
    match tget s.copies n with
    | none => .next s
    | some c =>
      match c.follow with
      | none => .next s
      | some (t, sb, aux) =>
        let a := aux.toNat
        let rows := bits a 15 8 + 1
        let k := cellKey c.bench c.cell
        let cb := (s.cell k).plane.fmt = some 12
        let len := rows * planeK ((s.cell k).plane.fmt.getD 0) * typeSize t
        let sc := if cb then some (bits a 52 32) else none
        let earlier := ((s.course c.course).pends.takeWhile (fun p => p.act ≠ .array .pass)).any (fun p => match p.act with
          | .array _ => true
          | _ => false)
        if !c.segs.all (·.done) then .next s
        else if (s.group c.group).saved then .next (s.post (s.now + 1) .copymFollowOn (.nat n 0 0))
        else if !s.holdsBow c.course then .next ((s.wantBow c.course).post (s.now + 1) .copymFollowOn (.nat n 0 0))
        else if earlier || !(s.operandIdle c.course sb.toNat len none && (sc.map (fun a => s.operandIdle c.course a (4 * rows) none)).getD true) then
          .next (s.post (s.now + 1) .copymFollowOn (.nat n 0 0))
        else
          let r := s.stream c.course c.pc c.trapmask t (a.testBit 23) sb.toNat (bits a 7 0) rows (bits a 22 16) sc
          let s := { r.1 with copies := tdel r.1.copies n }
          match r.2, (s.course c.course).pend c.pend with
          | some x, some p => .next (s.arrayStop c.course p x)
          | some _, none => .next s
          | none, _ => .next ((s.endPend c.course c.pend).settleBoundaries)
  | _ => .next s

/-! ## NODE_EVALUATE (11 R325) -/

/-- Serve one demand: its nodes are evaluated, its store's writes begin, or its batch is complete (R325, R326, R334). -/
def State.serve (s : State) (gk : Nat) (d : Demand) : State :=
  let g := s.group gk
  let vdn := (s.task g.task).vd
  let all := s.cellNodes g.bench g.cell
  let need := needed all gk vdn d.g d.box
  let retry := fun (s : State) => s.postOnce (s.now + 1) .nodeEvaluate (.nat gk 0 0)
  let finish := fun (s : State) =>
    let g := s.group gk
    let s := s.setGroup gk { g with demands := g.demands.filter (fun e => e.batch ≠ d.batch) }
    let co := s.course d.course
    let s := s.setCourse d.course { co with pends := co.pends.filter (fun p => match p.act with
      | .batch n => n ≠ d.batch
      | _ => true) }
    s.endGroup gk
  match d.copy with
  | some n =>
    (match tget s.copies n with
     | some c => if c.segs.all (·.done) then finish { s with copies := tdel s.copies n } else s
     | none => finish s)
  | none =>
    if need.any (fun p => usesArray all 65 p.1 p.2) && !s.holdsBow d.course then retry (s.wantBow d.course)
    else
      let r := (sortBy (fun (a b : NodeRef × TBox) => a.1.n.seq ≤ b.1.n.seq) need).foldl (fun (p : State × Bool) q =>
        let e := p.1.evalNode 70 q.1.gk q.1.idx q.2 false { pc := d.pc, scope := d.scope, course := some d.course, issued := some d.issued }
        (e.1, p.2 && e.2)) (s, true)
      if !((r.1.group gk).demands.any (fun e => e.batch = d.batch)) then r.1
      else if !r.2 then retry r.1
      else
        match d.store with
        | none => finish r.1
        | some (gd, scope) => if (storePages gd d.box).isEmpty then finish r.1 else r.1.beginStore gk d gd scope

/-- An evaluation that a fault broke off goes on after RETRY, at the segment that failed, whether or not a demand asks for it (R314). -/
def State.retryNodes (s : State) (gk : Nat) : State :=
  (s.group gk).nodes.foldl (fun s p => match p.2.st, p.2.redo with
    | .pending, some (box, pc, scope) =>
      let e := s.evalNode 70 gk p.1 box false { pc, scope }
      if e.2 then e.1 else e.1.postOnce (e.1.now + 1) .nodeEvaluate (.nat gk 0 0)
    | _, _ => s) s

/-- NODE_EVALUATE (.nat group 0 0). -/
def execNodeEvaluate (s : State) : Out :=
  match s.arg with
  | .nat gk _ _ => .next (if (s.group gk).saved then s else ((s.group gk).demands).foldl (fun s d =>
      if (s.group gk).demands.any (fun e => e.batch = d.batch) then s.serve gk d else s) (s.retryNodes gk))
  | _ => .next s

end Sys2Proof.Machine
end

