-- ==== Sys2Proof/Machine/Queues.lean ====
section
/-! DEFINITION. Queues and the task records that leave them: initialisation, the copy of a record, its validation, held tasks
and their slots, the end of a task, the destruction and the reset of a queue (04 R108 to R117, 05 R128 to R143, R152 to R154). -/
namespace Sys2Proof.Machine

/-! ## Engine reads and writes of the dispatcher (04 R112, R113) -/

/-- Why a read of n bytes by the dispatcher fails: the reason of R113. -/
def State.readFail (s : State) (vdn a n : Nat) : Option Nat :=
  let v := s.vd vdn
  if 2 ^ 57 < a + n || !v.mapsAll a n then some 1
  else if !v.allows a n 0 then some 2
  else if s.poisoned vdn a n then some 3 else none

/-- Why a write of n bytes by the dispatcher fails. -/
def State.writeFail (s : State) (vdn a n : Nat) : Option Nat :=
  let v := s.vd vdn
  if 2 ^ 57 < a + n || !v.mapsAll a n then some 1 else if !v.allows a n 1 then some 2 else none

/-- Initialise a queue: HEAD takes the tail word's value and is written to the head word; pending while either fails (R110),
also by uncorrectable data in the tail word. [DESIGN CHOICE, log 109] -/
def State.initQueue (s : State) (qk : Nat) : State :=
  let q := s.queue qk
  if q.inited || q.kind = 2 then s
  else
    match s.readFail q.vd q.tailva.toNat 8, s.writeFail q.vd q.headva.toNat 8 with
    | none, none =>
      let t := leNat (s.peekVA q.vd q.tailva.toNat 4)
      (s.pokeVA q.vd none 3 q.headva.toNat (leBytes 8 t)).setQueue qk { q with head := t, tail := t, inited := true }
    | _, _ => s

/-- Retry the initialisation of a device's queues, when a MAP completes (R110). -/
def State.initQueues (s : State) (vdn : Nat) : State :=
  s.queues.foldl (fun s p => if p.2.live && p.2.vd = vdn then s.initQueue p.1 else s) s

/-- The dispatcher of an ACTIVE queue that is initialised watches its tail word (R110, R112). [DEDUCED, log 48] -/
def Queue.watched (q : Queue) : Bool := q.live && q.inited && q.kind ≠ 2 && q.st = .active

/-- Records in a dispatcher's buffer: copied and not dispatched. -/
def State.buffered (s : State) (home : Nat) : List Task :=
  (s.tasks.filter (fun p => p.2.home = home && (p.2.st = .held || p.2.st = .ready))).map (·.2)

/-- Has the buffer an entry for a queue: 512, at most 64 of one queue, 64 kept for fault queues (05 R135)? -/
def State.bufferRoom (s : State) (qk : Nat) : Bool :=
  let q := s.queue qk
  let b := s.buffered q.home
  b.length < 512 && (b.filter (fun t => t.queue = qk && t.qgen = q.gen)).length < 64
    && (q.kind = 1 || (b.filter (fun t => (s.queue t.queue).kind ≠ 1)).length < 448)

/-- Notices of the tail words: the home holds the TAIL that it last saw (R112). [DEDUCED, log 48] -/
def State.seeTails (s : State) : State :=
  s.queues.foldl (fun s p =>
    if !p.2.watched || (s.readFail p.2.vd p.2.tailva.toNat 8).isSome then s
    else
      let t := leNat (s.peekVA p.2.vd p.2.tailva.toNat 4)
      if t = p.2.tail then s else s.setQueue p.1 { p.2 with tail := t }) s

/-- Is a ring to be read: it has a record to copy, or a tail word that cannot be read, and an entry is free for it (05 R135)? -/
def State.ringPending (s : State) (qk : Nat) (q : Queue) : Bool :=
  q.watched && (q.tail ≠ q.head || (s.readFail q.vd q.tailva.toNat 8).isSome) && s.bufferRoom qk

/-- The effective level of a queue (05 R145). -/
def Queue.effLevel (q : Queue) : Nat := q.prio - q.step

/-- The ring that a dispatcher reads next: the lowest effective level, and within one level in rotation (05 R135, R145). -/
def State.nextRing (s : State) (home : Nat) : Option Nat :=
  let last := (s.bench home).lastRing
  let key := fun (p : Nat × Queue) => p.2.effLevel * 4096 + (p.1 + 4095 - tgetD last p.2.effLevel 0 % 4096) % 4096
  ((sortBy (fun (a b : Nat × Queue) => key a ≤ key b) (s.queues.filter (fun p => p.2.home = home && s.ringPending p.1 p.2))).map (·.1)).head?

/-- Every dispatcher with a ring to read reads the next one (R112, 05 R135). [DEDUCED, log 48] -/
def State.watchTails (s : State) : State :=
  let s := s.seeTails
  ((s.queues.filter (fun p => s.ringPending p.1 p.2)).map (·.2.home)).eraseDups.foldl (fun s h =>
    let busy := s.agenda.any (fun d => decide (d.ev.i = .ringRecordCopy) && (match d.ev.arg with
      | .nat k _ _ => decide ((s.queue k).home = h) && s.ringPending k (s.queue k)
      | _ => false))
    match s.nextRing h with
    | some k => if busy then s else s.postOnce (s.now + 1) .ringRecordCopy (.nat k 0 0)
    | none => s) s

/-! ## Task records (05 R128 to R133) -/

/-- The fields of a record (R128). -/
def taskRecOf (l : List Byte) : TaskRec :=
  let f := fieldB l 2 2
  { type := fieldB l 0 1 % 16, prio := fieldB l 1 1 % 8, gang := f.testBit 0, core := bits f 2 1, deadline := fieldB l 4 6
    budget := fieldB l 10 5, entry := BitVec.ofNat 64 (fieldB l 16 8), extents := BitVec.ofNat 64 (fieldB l 24 8)
    args := (List.range 8).map (fun i => BitVec.ofNat 64 (fieldB l (32 + 8 * i) 8))
    slots := (List.range 4).map (fun i => BitVec.ofNat 64 (fieldB l (96 + 8 * i) 8)) }

/-- ROLE and ADDR of a slot (R131). -/
def slotRole (x : Word) : Nat := bits x.toNat 63 62
def slotAddr (x : Word) : Nat := bits x.toNat 56 3 * 8

/-- The slots of a role: number and address, ascending. -/
def TaskRec.slotsOf (r : TaskRec) (role : Nat) : List (Nat × Nat) :=
  (List.range r.slots.length).filterMap (fun i => match r.slots[i]? with
    | some x => if slotRole x = role then some (i, slotAddr x) else none
    | none => none)

/-- Does a record pass validation (R133)? -/
def State.validRec (s : State) (q : Queue) (r : TaskRec) : Bool :=
  let v := s.vd q.vd
  let kx := extKX r.extents
  r.type ≤ 2 && !(r.type = 2 && q.kind = 0) && r.core ≤ 1 && r.entry.toNat % 256 = 0 && r.entry.toNat < 2 ^ 57
    && kx ≤ 47 && !(r.core = 1 && 3 < kx) && r.slots.all (fun x => slotRole x ≠ 3)
    && (r.slotsOf 1).all (fun p => v.mapsAll p.2 8 && v.allows p.2 8 0)
    && (r.slotsOf 2).all (fun p => v.mapsAll p.2 8 && v.allows p.2 8 1)

/-! ## Signals and the end of a task (05 R139, R152 to R154, 06 R167, 22 R536) -/

/-- Write a completion word and set its tag; dropped when its address no longer translates (R153). -/
def State.signal (s : State) (vdn home addr status : Nat) : State :=
  if !(s.vd vdn).mapsAll addr 8 then s
  else (s.pokeVA vdn none 3 addr (leBytes 8 (s.clock home * 65536 + status))).changeTag vdn addr true

/-- Signal every signal slot of a task in ascending order. -/
def State.signalAll (s : State) (t : Task) (status : Nat) : State :=
  (t.trec.slotsOf 2).foldl (fun s p => s.signal t.vd t.home p.2 status) s

/-- Mark a record of this module, if its handle is current (R167, R173). -/
def State.markRec (s : State) (h : Word) (f : PRec → PRec) : State :=
  let k := recKey (bits h.toNat 51 50) (bits h.toNat 49 36)
  let r := s.record k
  if bits h.toNat 63 52 = s.fab.modid.toNat && r.used && r.gen = bits h.toNat 31 0 then s.setRecord k (f r) else s

/-- What a dispatch, kill or completion notice does to its record (R167, R173, R536). -/
def State.applyNotice (s : State) (h : Word) (what status : Nat) : State :=
  s.markRec h (fun r =>
    match what with
    | 0 => { r with stage := 3 }
    | 1 => { r with childLost := true }
    | _ => if status = 0 then { r with unres := true } else { r with childLost := true })

/-- Tell the record of a fault task what became of the task: at once on this module, by a notice on another. -/
def State.tellRecord (s : State) (t : Task) (what status : Nat) : State :=
  if t.trec.type ≠ 2 || bits t.record.toNat 63 52 = s.fab.modid.toNat && what = 1 then s
  else if bits t.record.toNat 63 52 = s.fab.modid.toNat then s.applyNotice t.record what status
  else s.notice (dieOf t.home) t.record what status

/-- Take a task away, with the groups and courses that nothing of it needs any more; what retired courses and copies still
have out keeps them listed until it ends. -/
def State.dropTask (s : State) (tk : Nat) : State :=
  let gs := (s.groups.filter (fun p => p.2.task = tk)).map (·.1)
  let out := s.courses.any (fun p => gs.contains p.2.group && !p.2.pends.isEmpty) || s.copies.any (fun p => gs.contains p.2.group)
  if out then s.setTask tk { s.task tk with st := .done }
  else { s with tasks := tdel s.tasks tk, groups := s.groups.filter (fun p => p.2.task ≠ tk)
                courses := s.courses.filter (fun p => !gs.contains p.2.group) }

/-- A task ends with a status: its signals are written, its record is told, and it is gone (R139, R152, R153). -/
def State.endTask (s : State) (tk status : Nat) : State :=
  let t := s.task tk
  ((s.signalAll t status).tellRecord t 2 status).dropTask tk

/-- A held task whose wait or signal address no longer translates is discarded with DEPFAIL (R139). -/
def State.dropUnmapped (s : State) (vdn : Nat) : State :=
  s.tasks.foldl (fun s p =>
    if p.2.st = .held && p.2.vd = vdn && (p.2.trec.slotsOf 1 ++ p.2.trec.slotsOf 2).any
        (fun x => !(s.vd vdn).mapsAll x.2 8) then s.endTask p.1 5 else s) s

/-- A task whose wait slots have all been seen is ready; a NOP completes (R129, R137). -/
def State.settleHeld (s : State) (tk : Nat) : State :=
  let t := s.task tk
  if t.st = .held && (t.trec.slotsOf 1).all (fun p => t.seen.contains p.1) then
    if t.trec.type = 0 then (s.setTask tk { t with st := .completing }).post s.now .taskComplete (.nat tk 0 0)
    else s.setTask tk { t with st := .ready }
  else s

/-! ## RING_RECORD_COPY (04 R112 to R114, 05 R135 to R140) -/

/-- The next HEAD, at the home and in the head word (R112). -/
def State.advanceHead (s : State) (qk : Nat) : State :=
  let q := s.queue qk
  let h := (q.head + 1) % 2 ^ 32
  (s.pokeVA q.vd none 3 q.headva.toNat (leBytes 8 h)).setQueue qk { q with head := h }

/-- Copy record HEAD of a queue into its home dispatcher as a task. -/
def State.takeRecord (s : State) (qk : Nat) (r : TaskRec) : State :=
  let q := s.queue qk
  let b := s.bench q.home
  let tk := s.nextKey
  let dl := if r.deadline = 0 then none else some (s.now + min r.deadline (2 ^ 47 - 1))
  let seen := ((r.slotsOf 1).filter (fun p => s.tagFull q.vd p.2)).map (·.1)
  let a1 := (r.args.getD 1 0).toNat
  let t : Task := { vd := q.vd, queue := qk, qgen := q.gen, idx := q.head, trec := r, home := q.home, arrival := b.arrivals, deadline := dl
                    copied := s.now, seen, budget := if r.budget = 0 then none else some r.budget
                    nest := if r.type = 2 then bits a1 17 16 else 0, record := if r.type = 2 then r.args.getD 0 0 else 0 }
  let s := { s with nextKey := tk + 1 }.setBench q.home { b with arrivals := b.arrivals + 1 }
  let s := s.setTask tk t
  let s := match dl with
    | some d => s.post d .taskLate (.nat tk 0 0)
    | none => s
  (s.advanceHead qk).settleHeld tk

/-- RING_RECORD_COPY (.nat queue 0 0). -/
def execRingRecordCopy (s : State) : Out :=
  match s.arg with
  | .nat qk _ _ =>
    let q := s.queue qk
    if !q.watched || !s.bufferRoom qk then .next s
    else
      let s := s.setBench q.home { s.bench q.home with lastRing := tset (s.bench q.home).lastRing q.effLevel qk }
      match s.readFail q.vd q.tailva.toNat 8 with
      | some r => .next (s.queueError qk r)
      | none =>
        let tail := leNat (s.peekVA q.vd q.tailva.toNat 4)
        let n := (tail + 2 ^ 32 - q.head) % 2 ^ 32
        let s := s.setQueue qk { q with tail }
        if n = 0 then .next s
        else if 2 ^ q.size < n then .next (s.queueError qk 5)
        else
          let at_ := q.base.toNat + 128 * (q.head % 2 ^ q.size)
          match s.readFail q.vd at_ 128 with
          | some r => .next (s.queueError qk r)
          | none =>
            let r := taskRecOf (s.peekVA q.vd at_ 128)
            if !s.validRec q r then .next (s.queueError qk 4)
            else
              match s.writeFail q.vd q.headva.toNat 8 with
              | some e => .next (s.queueError qk e)
              | none =>
                if r.type = 2 && s.expired.contains (r.args.getD 0 0) then
                  .next ({ s with expired := s.expired.filter (· ≠ r.args.getD 0 0) }.advanceHead qk)
                else .next (s.takeRecord qk r)
  | _ => .next s

/-- WAIT_TAG_NOTICE (.nat vd va tick): the latched notice of a tag that became full at a tick; it observes the tag for the tasks
that had been copied by then (R137). -/
def execWaitTagNotice (s : State) : Out :=
  match s.arg with
  | .nat vdn va tick =>
    let hit := s.tasks.filter (fun p => p.2.st = .held && p.2.vd = vdn && p.2.copied ≤ tick && (p.2.trec.slotsOf 1).any (fun x => x.2 = va))
    .next (hit.foldl (fun s p =>
      let t := s.task p.1
      let new := ((t.trec.slotsOf 1).filter (fun x => x.2 = va && !t.seen.contains x.1)).map (·.1)
      (s.setTask p.1 { t with seen := t.seen ++ new }).settleHeld p.1) s)
  | _ => .next s

/-- TASK_LATE (.nat task 0 0): one LATE entry, when the deadline is first observed passed (R142). -/
def execTaskLate (s : State) : Out :=
  match s.arg with
  | .nat tk _ _ =>
    match tget s.tasks tk with
    | none => .next s
    | some t =>
      if t.lateLogged || t.st = .done || !s.isPast t.deadline then .next s
      else
        let s := s.setTask tk { t with passed := true, lateLogged := true }
        .next (if (s.queue t.queue).gen = t.qgen then s.statusEntry t.queue 1 0 t.idx else s)
  | _ => .next s

/-! ## TASK_COMPLETE (05 R152, R153) -/

/-- TASK_COMPLETE (.nat task 0 0): once the stores of its courses are in their buffers, they commit at system scope, and every store of the
task is visible there (10 R306); then the task ends with its first kill reason, or DONE. -/
def execTaskComplete (s : State) : Out :=
  match s.arg with
  | .nat tk _ _ =>
    match tget s.tasks tk with
    | none => .next s
    | some t =>
      if t.st ≠ .completing then .next s
      else
        let gs := (s.groups.filter (fun p => p.2.task = tk)).map (·.1)
        let cs := s.coursesOfAll gs
        let again := fun (s : State) => s.postOnce (s.now + 1) .taskComplete (.nat tk 0 0)
        if !s.storesIn cs then .next (again s)
        else
          let f := s.commitCourses gs cs 4 t.vd
          if !f.2 then .next (again f.1) else .next ((f.1.showStores tk).endTask tk (t.status.getD 0))
  | _ => .next s

/-! ## Destruction and reset (04 R115, R117, 05 R154) -/

/-- Is a unit's task one of a queue's? -/
def State.tasksOf (s : State) (qk : Nat) : List Nat :=
  let q := s.queue qk
  (s.tasks.filter (fun p => p.2.queue = qk && p.2.qgen = q.gen && p.2.st ≠ .done)).map (·.1)

/-- Tasks of a queue that have completed while segments of theirs are still parked or under way. -/
def State.leftOf (s : State) (qk : Nat) : List Nat :=
  let q := s.queue qk
  (s.tasks.filter (fun p => p.2.queue = qk && p.2.qgen = q.gen && p.2.st = .done
    && (s.copies.any (fun c => (s.group c.2.group).task = p.1) || s.recs.any (fun r => r.2.used && r.2.kind ≠ 3 && r.2.task = p.1)))).map (·.1)

/-- A record whose unit is killed before its fault task was dispatched: the task completes with EXPIRED, from the buffer, or
from its ring when the dispatcher reaches it (06 R175, R185). [DEDUCED, log 49] -/
def State.expireFault (s : State) (k : Nat) : State :=
  let h := s.recHandle k
  if (s.record k).stage ≠ 2 then s
  else
    match s.tasks.find? (fun p => p.2.trec.type = 2 && p.2.record = h && (p.2.st = .held || p.2.st = .ready)) with
    | some p => s.endTask p.1 6
    | none => if bits (s.faultQueueOf k).toNat 63 52 = s.fab.modid.toNat then { s with expired := s.expired ++ [h] } else s

/-- Kill the unit of a record, with its fault task (R175, R185). -/
def State.killRec (s : State) (k status : Nat) : State := (s.expireFault k).killUnit k status

/-- A copied record that has not been dispatched is discarded: its signal slots receive KILLED (R154). [DEDUCED, log 49] -/
def State.discardTask (s : State) (tk : Nat) : State := s.endTask tk 1

/-- The face groups of a dispatched task that have not been placed are never placed (R117). -/
def State.discardFaces (s : State) (tk : Nat) : State :=
  let t := s.task tk
  if extFX t.trec.extents < t.nextFace then s
  else
    let s := (s.setTask tk { t with nextFace := extFX t.trec.extents + 1 }).killReason tk 1
    if (s.groupsOf tk).isEmpty then (s.setTask tk { s.task tk with st := .completing }).post s.now .taskComplete (.nat tk 0 0)
    else s

/-- Kill the parked units of a task with a status, with their records, and those that wait for one. -/
def State.killParked (s : State) (tk status : Nat) : State :=
  let ks := (s.recs.filter (fun p => p.2.used && p.2.task = tk && p.2.kind ≠ 3)).map (·.1)
  let s := ks.foldl (fun s k => s.killRec k status) s
  (List.range 4).foldl (fun s d =>
    ((s.die d).waiting.filter (fun r => r.task = tk && r.kind ≠ 3)).foldl (fun s r => s.killWaiting d r status) s) s

/-- Kill every unit of a task with a status: parked units with their records, then its courses. -/
def State.killTask (s : State) (tk status : Nat) : State :=
  let s := s.killParked tk status
  (s.groupsOf tk).foldl (fun s g => (s.setGroup g { s.group g with demands := [] }).killGroup g status) s

/-- QUEUE_DESTROY takes hold of a queue: DRAINING, the records to the tail word's TAIL and copied records discarded, unplaced face groups
discarded, with FORCE, or when the queue was in ERROR, every unit killed (R115, R117). A fault queue's waiting faults find it DRAINING. -/
def State.drainQueue (s : State) (qk : Nat) (forced : Bool) : State :=
  let q := s.queue qk
  let force := forced || q.st = .error
  let ts := s.tasksOf qk
  let undis := ts.filter (fun t => (s.task t).st = .held || (s.task t).st = .ready)
  let tail := if (s.readFail q.vd q.tailva.toNat 8).isNone then leNat (s.peekVA q.vd q.tailva.toNat 4) else q.tail
  let ring := if q.kind = 2 || !q.inited then 0 else (tail + 2 ^ 32 - q.head) % 2 ^ 32
  let s := if q.st = .draining then s
    else s.setQueue qk { q with st := .draining, drained := ring + undis.length }
  let s := undis.foldl (fun s t => s.discardTask t) s
  let s := ts.foldl (fun s t => if (s.task t).st = .placed then s.discardFaces t else s) s
  let s := if force then (s.leftOf qk).foldl (fun s t => s.killParked t 1) (ts.foldl (fun s t => s.killTask t 1) s) else s
  let waits := (s.recs.filter (fun p => p.2.used && p.2.stage = 1 && s.faultQueueOf p.1 = s.queueHandle qk)).map (·.1)
  (waits.foldl (fun s k => s.raiseFault k) s).postOnce (s.now + 1) .queueDestroyComplete (.nat qk 0 0)

/-- May a queue be destroyed: no other queue of this module names it (R117)? -/
def State.queueNamed (s : State) (qk : Nat) : Bool :=
  let h := s.queueHandle qk
  s.queues.any (fun p => p.1 ≠ qk && p.2.live && (p.2.faultq = h || p.2.statusq = h))

/-- A message in answer to a command (04 R96). -/
def State.respond (s : State) (c : Cmd) (status : Nat) (params : List Byte) : State :=
  s.send (.resp c.qpn (if status = 1 then 3 else c.ver) c.opc c.tag status params)

/-- QUEUE_DESTROY_COMPLETE (.nat queue 0 0): no unit of the queue is resident or parked; DRAINED is written, the generation
retires, and the commands respond (R101, R117). -/
def execQueueDestroyComplete (s : State) : Out :=
  match s.arg with
  | .nat qk _ _ =>
    let q := s.queue qk
    if !q.live || q.st ≠ .draining then .next s
    else if !(s.tasksOf qk).isEmpty || !(s.leftOf qk).isEmpty then .next (s.postOnce (s.now + 1) .queueDestroyComplete (.nat qk 0 0))
    else
      let s := s.statusEntry qk 3 0 q.drained
      let ks := (s.recs.filter (fun p => p.2.used && p.2.kind = 3 && p.2.uA = qk)).map (·.1)
      let s := ks.foldl (fun s k => (s.expireFault k).freeRec k) s
      let mine := s.waits.filter (fun w => w.cmd.opc = 0x29 && w.obj = qk)
      let s := { s with queues := tdel s.queues qk, qgens := tset s.qgens qk q.gen
                        waits := s.waits.filter (fun w => !(w.cmd.opc = 0x29 && w.obj = qk)) }
      .next (mine.foldl (fun s w => s.respond w.cmd 0 []) s)
  | _ => .next s

/-- A queue leaves ERROR: record HEAD is read again, or passed over (R115). -/
def State.resetQueue (s : State) (qk : Nat) (skip : Bool) : State :=
  let q := s.queue qk
  let s := s.setQueue qk { q with st := .active }
  if !skip then s
  else
    match s.writeFail q.vd q.headva.toNat 8 with
    | some r => s.queueError qk r
    | none => s.advanceHead qk

/-- FAULT_TASK_DEFERRED_WRITE (.nat record 0 0): the fault task of a PARKED record is written once its fault queue is ACTIVE
and has room (06 R171). -/
def execFaultTaskDeferredWrite (s : State) : Out :=
  match s.arg with
  | .nat k _ _ => .next (s.raiseFault k)
  | _ => .next s

/-- Could the fault task of a PARKED record be written now, or is its queue gone? -/
def State.canRaise (s : State) (k : Nat) : Bool :=
  let r := s.record k
  let h := s.faultQueueOf k
  if !r.used || r.stage ≠ 1 || bits h.toNat 63 52 ≠ s.fab.modid.toNat then false
  else
    match s.findQueue h with
    | none => true
    | some fk =>
      let q := s.queue fk
      match q.st with
      | .draining => true
      | .active => q.inited && (q.tail + 2 ^ 32 - q.head) % 2 ^ 32 < 2 ^ q.size
          && !s.recs.any (fun p => p.2.used && p.2.stage = 1 && p.1 ≠ k && p.2.parkedAt < r.parkedAt && s.faultQueueOf p.1 = h)
      | _ => false

/-- Look at the PARKED records whose fault task can now be written. -/
def State.watchFaults (s : State) : State :=
  s.recs.foldl (fun s p => if s.canRaise p.1 then s.postOnce (s.now + 1) .faultTaskDeferredWrite (.nat p.1 0 0) else s) s

end Sys2Proof.Machine
end

