-- ==== Sys2Proof/Machine/Images.lean ====
section
/-! DEFINITION. Leaving the cells and coming back: images, saves, flushes, restores, and the shadow copies and rollbacks of
shadowed launches (07 R187 to R214, 06 R182 to R184, 12 R352). -/
namespace Sys2Proof.Machine

/-! ## What a group holds besides its own table -/

/-- The bytes of a group's window that are not zero. -/
def State.winCells (s : State) (gk : Nat) : List Host.Cell :=
  let g := s.group gk
  if g.saved then g.image
  else (List.range g.banks.length).flatMap (fun i =>
    let base := sramAddr g.bench g.cell (g.banks.getD i 0 * 131072)
    (s.sram.filter (fun c => base ≤ c.1 && c.1 < base + 131072)).map (fun c => (i * 131072 + (c.1 - base), c.2)))

/-- Fill a group's window from such bytes. -/
def State.fillWin (s : State) (gk : Nat) (m : List Host.Cell) : State :=
  let g := s.group gk
  let s := g.banks.foldl (fun s i => s.zeroBank g.bench g.cell i) s
  m.foldl (fun s c => s.pokeWin gk c.1 c.2) s

/-- The banks of a group's window in order. -/
def State.winBanks (s : State) (gk : Nat) : List Bank :=
  let g := s.group gk
  if g.saved then g.saveBanks else g.banks.map (fun b => s.bankOf g.bench g.cell b)

/-- Set the banks of a group's window; missing ones are scratchpad banks. -/
def State.setWinBanks (s : State) (gk : Nat) (bs : List Bank) : State :=
  let g := s.group gk
  let k := cellKey g.bench g.cell
  let c := s.cell k
  s.setCell k { c with banks := (List.range g.banks.length).foldl (fun m i =>
    tset m (g.banks.getD i 0) { (bs.getD i { mode := .spad }) with owner := some gk }) c.banks }

/-- The engine-owned granules of a group's window. -/
def State.winOwners (s : State) (gk : Nat) : FMap Holder :=
  if (s.group gk).saved then (s.group gk).saveOwners
  else (List.range ((s.group gk).win / 4096)).filterMap (fun n => (s.holder gk n).map (fun h => (n, h)))

/-- Set them. -/
def State.setWinOwners (s : State) (gk : Nat) (hs : FMap Holder) : State :=
  (List.range ((s.group gk).win / 4096)).foldl (fun s n => s.setHolder gk n (tget hs n)) s

/-- Planes and accumulators, when a course of the group holds the bow (R199). -/
def State.matrixOf (s : State) (gk : Nat) : Option (Plane × Plane × FMap Word) :=
  let g := s.group gk
  if g.saved then g.matrix
  else
    let c := s.cell (cellKey g.bench g.cell)
    if g.holder.isSome then some (c.plane, c.shadow, c.accum) else none

/-! ## Image slots (R195, R196) -/

/-- Size of a group's slot. -/
def slotSize (courses demand banks : Nat) (shadow : Bool) : Nat :=
  let base := (393216 + courses * (rowsFor demand + 1) * 1024 + banks * 131072 + 65535) / 65536 * 65536
  if shadow then 3 * base else base

/-- The lowest free offset of a device's save area after its blob region. -/
def State.findSlot (s : State) (vdn size : Nat) : Option Nat :=
  let v := s.vdReg vdn
  let used := (s.groups.filter (fun p => (s.task p.2.task).vd = vdn && !p.2.ended)).filterMap (fun p => p.2.slot)
  let fits := fun (o : Nat) => o + size ≤ v.svsize * 65536 && used.all (fun u => o + size ≤ u.1 || u.1 + u.2 ≤ o)
  ((sortBy (fun (a b : Nat) => a ≤ b) (v.svblob * 65536 :: used.map (fun u => u.1 + u.2))).filter (fun o => v.svblob * 65536 ≤ o)).find? fits

/-- The VA of a group's image. -/
def State.imageVA (s : State) (gk : Nat) : Nat :=
  let g := s.group gk
  (s.vdReg (s.task g.task).vd).svbase.toNat + ((g.slot.map (·.1)).getD 0)

/-! ## The image (R197 to R199) -/

/-- Bytes 0 to 247 of an image header. `dir` gives offset and length of the sections. -/
def State.imageHeader (s : State) (gk gen len : Nat) (dir : List (Nat × Nat)) : List Byte :=
  let g := s.group gk
  let t := s.task g.task
  let act := (if t.hdr.shadow then 1 else 0) + (if t.hdr.idem then 2 else 0) + (if g.startesc then 4 else 0) + (if g.escaped then 8 else 0)
  leBytes 4 0x37494d47 ++ leBytes 1 1 ++ leBytes 1 act ++ leBytes 2 (extKX t.trec.extents + 1) ++ leBytes 8 len ++ leBytes 8 gen
    ++ leBytes 8 t.trec.entry.toNat ++ leBytes 8 (s.recBase g.task).taskq.toNat ++ leBytes 4 t.idx
    ++ leBytes 4 (s.bench g.bench).variant.toNat ++ leBytes 8 g.interval ++ leBytes 8 0
    ++ (List.range 8).flatMap (fun i => let d := dir.getD i (0, 0); leBytes 4 d.1 ++ leBytes 4 d.2) ++ leBytes 120 0

/-- Offsets and lengths of sections that follow one another. -/
def sectionsAt : Nat → List (List Byte) → List (Nat × Nat)
  | _, [] => []
  | o, l :: r => (o, l.length) :: sectionsAt (o + l.length) r

/-- The courses, scratchpad, tiles and matrix sections of a group (R199). -/
def State.stateSections (s : State) (gk : Nat) : List (List Byte) :=
  let g := s.group gk
  let t := s.task g.task
  [Config.sectionBytes (.courses (s.courses.filter (fun p => p.2.group = gk)) (tgetD t.chunks g.bench 0)),
   Config.sectionBytes (.scratchpad (s.winCells gk) (s.winBanks gk) (s.winOwners gk)),
   Config.sectionBytes (.tiles g.nodes g.tensors g.nextBatch g.failed),
   match s.matrixOf gk with
   | some (p, q, a) => Config.sectionBytes (.matrix p q a)
   | none => []]

/-- What waits at a boundary in a course (R193). -/
def Course.arrivals (c : Course) : List Wait := (c.splits.map (·.2.wait) ++ c.held.map (·.wait)).filter (fun w => !w.pend.isEmpty)

/-- A third of a shadowed group's slot: its image and each of its two shadow buffers (R196). -/
def Group.third (g : Group) : Nat := ((g.slot.map (·.2)).getD 0) / 3

/-- The eight sections of a group's image (R199). -/
def State.imageSections (s : State) (gk : Nat) : List (List Byte) :=
  let g := s.group gk
  let cs := s.courses.filter (fun p => p.2.group = gk)
  s.stateSections gk ++
  [Config.sectionBytes (.phase g.logVA g.chunks (cs.map (fun p => (p.1, p.2.buf))) (cs.map (fun p => (p.1, p.2.phases))) (cs.map (fun p => (p.1, p.2.arrivals)))),
   Config.sectionBytes (.copies (s.copies.filter (fun p => p.2.group = gk))),
   Config.sectionBytes (.fills g.recorded),
   if (s.task g.task).hdr.shadow then Config.sectionBytes (.shadow g.third (2 * g.third) g.second) else []]

/-- The whole image: header, sections and CRC. -/
def State.imageOf (s : State) (gk gen : Nat) : List Byte :=
  let secs := s.imageSections gk
  let body := secs.flatten
  let h := s.imageHeader gk gen (256 + body.length) (sectionsAt 256 secs)
  h ++ leBytes 8 (crc64 (h ++ leBytes 8 0 ++ body)) ++ body

/-- Does the image in memory pass the checks of R201 step 1? -/
def State.imageGood (s : State) (gk : Nat) : Bool :=
  let g := s.group gk
  let vdn := (s.task g.task).vd
  let a := s.imageVA gk
  let h := s.peekVA vdn a 256
  (s.vd vdn).mapsAll a g.imageLen && !s.poisoned vdn a g.imageLen && fieldB h 0 4 = 0x37494d47 && fieldB h 4 1 = 1
    && fieldB h 8 8 = g.imageLen && fieldB h 16 8 = g.gen
    && fieldB h 248 8 = crc64 (sliceB h 0 248 ++ leBytes 8 0 ++ s.peekVA vdn (a + 256) (g.imageLen - 256))

/-- The group that the unit of a record belongs to (06 R159). -/
def State.unitGroup (s : State) (r : PRec) : Option Nat :=
  match r.kind with
  | 0 => some (s.course r.uA).group
  | 1 | 4 => some r.uA
  | 2 => some (s.copy r.uA).group
  | _ => none

/-! ## Save (R192 to R194, R206) -/

/-- Does a pending instruction go into the image: it waits, an engine or another module has it, or it has met a late fault that waits for
its handler (R192, 06 R169)? -/
def State.carried (s : State) (cid : Nat) (p : Pend) : Bool :=
  let far := fun (h : Word) => decide (bits h.toNat 63 52 ≠ s.fab.modid.toNat)
  let kept := p.late.isSome && (match (s.course cid).st with
    | .parked _ _ | .waiting => true
    | _ => false)
  p.due.isNone && (kept || p.late.isNone && match p.act with
  | .boundary | .twait _ _ | .copy _ | .batch _ | .engine _ => true
  | .array op => op = .pass || (s.group (s.course cid).group).holder ≠ some (s.course cid).c || s.arrayWaits cid op
  | .remote r _ _ _ _ => decide (routeKind r = 1)
  | .enq h _ _ | .qstat h _ _ | .state h _ _ _ _ => far h
  | .access a => (match a.op with
    | .waita _ _ | .tag _ => true
    | _ => false) || a.items.any (fun it => !s.winReady cid it.loc)
  | _ => false)

/-- The group whose part has consumed uncorrectable data. -/
def State.consumerGroup (s : State) (who : Consumer) : Nat :=
  match who with
  | .course c => (s.course c).group
  | .node g _ => g
  | .segment n => (s.copy n).group
  | .group g => g

/-- Is a rollback of a group due (R220)? -/
def State.rollsSoon (s : State) (gk : Nat) : Bool :=
  s.agenda.any (fun d => match d.ev.i, d.ev.arg with
    | .uncorrectableConsumed, .consumer who _ _ => decide (s.consumerGroup who = gk)
    | _, _ => false)

/-- Have the copy segments of a group that have begun completed? -/
def State.segsDone (s : State) (gk : Nat) : Bool := s.copies.all (fun p => p.2.group ≠ gk || p.2.segs.all (fun x => !x.underWay))

/-- Have the stops, copies and evaluations of R192 steps 1 and 2 ended, and what R220 puts first? -/
def State.saveReady (s : State) (gk : Nat) : Bool :=
  !s.rollsSoon gk && (s.coursesOf gk).all (fun cid =>
    let c := s.course cid
    !c.stopping && (match c.st with
      | .migrating _ => false
      | _ => true)
    && c.pends.all (s.carried cid) && c.splits.all (fun p => match p.2.wait with
      | .copying _ _ => false
      | _ => true) && c.held.all (fun h => match h.wait with
      | .copying _ _ => false
      | _ => true))
  && s.segsDone gk

/-- Has a segment landed in a receiver? -/
def Seg.landedIn (x : Seg) (gk : Nat) : Bool := x.done || (!x.data.isEmpty && !x.left.contains gk)

/-- The bytes of a fill that have landed in a receiver are discarded: nothing says what stands there until the fill is read again. -/
def State.dropLanded (s : State) (gk : Nat) (x : Seg) : State :=
  match s.winBank gk x.off with
  | some (ck, b, bank) =>
    if bank.mode = BankMode.fifo then s.setFifo (ck, b) (bank.fifo.take (bank.fifo.length - x.len / 4))
    else s.pokeWinL gk x.off ((List.range x.len).map (fun i => BitVec.ofNat 8 (s.freeNat (2 ^ 28 + x.off + i))))
  | none => s

/-- A receiver that is saved leaves a fill that is in flight: the fill is recorded, the bytes that landed are discarded and counted back
into P, and the other receivers go on (R206). -/
def State.leaveFill (s : State) (gk n : Nat) : State :=
  let c := s.copy n
  if !c.mc || c.group = gk || !c.recv.contains gk || c.segs.all (·.landedIn gk) then s
  else
    let g := s.group gk
    let back := if c.bd then ((c.segs.filter (·.landedIn gk)).map (·.len)).foldl (· + ·) 0 else 0
    let fill : Copy := { c with group := gk, mc := false, recv := [], pc := 0, pend := 0, follow := none, batch := none
                                segs := c.segs.map (fun x => { x with done := false, parked := false, sent := false, data := [], left := [] }) }
    let s := (c.segs.filter (·.landedIn gk)).foldl (fun s x => s.dropLanded gk x) s
    let s := s.setGroup gk { s.group gk with p := g.p + BitVec.ofNat 56 back, recorded := g.recorded ++ [fill] }
    let s := s.setCopy n { c with recv := c.recv.filter (· ≠ gk), segs := c.segs.map (fun x => { x with left := x.left.filter (· ≠ gk) }) }
    (((s.copy n).segs.filter (fun x => !x.done && !x.data.isEmpty && x.left.isEmpty)).foldl (fun s x => s.segDone n x []) s)

/-- A save is chosen: issue stops (R192 step 1). -/
def State.beginSave (s : State) (gk : Nat) : State :=
  let g := s.group gk
  if g.saved || g.saving || g.ended then s
  else (s.setGroup gk { g with saving := true, drain := none }).post (s.now + 1) .groupSaveComplete (.nat gk 0 0)

/-- A flush is chosen: issue stops until the segments in flight have completed (R191 steps 1 and 2). -/
def State.beginFlush (s : State) (gk : Nat) : State :=
  let g := s.group gk
  if g.saved || g.saving || g.ended then s
  else (s.setGroup gk { g with saving := true, flushing := true, drain := none }).post (s.now + 1) .groupSaveComplete (.nat gk 0 0)

/-- Have the segments of a group that is flushed completed, those that have begun? -/
def State.flushReady (s : State) (gk : Nat) : Bool := !s.rollsSoon gk && s.segsDone gk

/-- The image is written and the leases are freed (R192 steps 4 and 5); its holder or turn course passes the bow (11 R333). [DESIGN CHOICE, log 43; DEDUCED, log 56] -/
def State.saveGroup (s : State) (gk : Nat) : State :=
  let s := (s.copies.map (·.1)).foldl (fun s n => s.leaveFill gk n) s
  let g := s.group gk
  let t := s.task g.task
  let v := s.vd t.vd
  let gen := v.saves
  let s := (s.setVd t.vd { v with saves := (gen + 1) % 2 ^ 64 }).spillAll gk
  let img := s.imageOf gk gen
  let s := s.pokeVA t.vd none 3 (s.imageVA gk) img
  let g := { s.group gk with image := s.winCells gk, saveBanks := s.winBanks gk, saveOwners := s.winOwners gk
                             matrix := s.matrixOf gk, gen, imageLen := img.length }
  let g := { g with holder := none, turn := s.nextTurn gk (g.holder.getD g.turn) }
  let s := (s.setGroup gk g).unlease gk
  let s := s.setGroup gk { g with saved := true, saving := false, drain := none, banks := [] }
  (s.coursesOf gk).foldl (fun s cid =>
    let c := s.course cid
    let c : Course := { c.stopped t.interlock with loop := 0, loopI := [] }
    if !(s.course cid).alive then s else s.setCourse cid (if c.st = .running then { c with st := .saved } else c)) s

/-- DRAIN_LIMIT (.nat group 0 0): a group that has not ended within the limit of the drain of now is saved, when it has a slot (R190). -/
def execDrainLimit (s : State) : Out :=
  match s.arg with
  | .nat gk _ _ =>
    let g := s.group gk
    .next (if !g.ended && g.slot.isSome && (match g.drain with
      | some t => decide (t ≤ s.now)
      | none => false) then s.beginSave gk else s)
  | _ => .next s

/-! ## Courses as they start, and the flush (05 R132, 07 R191) -/

/-- Values by rising keys, zeros left out. -/
def wordsAt (ps : List (Nat × Word)) : FMap Word := ps.foldl (fun m p => tput 0 m p.1 p.2) []

/-- A course at its first instruction (05 R132, 08 R236, R255). [DESIGN CHOICE, log 6; DEDUCED, log 59; DEDUCED, log 78] -/
def startCourse (t : Task) (gk c : Nat) : Course :=
  let args := (List.range 8).map (fun i => (i, t.trec.args.getD i 0))
  let sp : Split := { pc := t.trec.entry, mask := if t.hdr.lw16 then halfMask 0 else 0xffffffff }
  { group := gk, c, dcore := t.trec.core = 0, prof := t.hdr.prof, st := .saved
    s := wordsAt (args ++ (if t.hdr.lw16 then args.map (fun p => (p.1 + 64, p.2)) else []))
    splits := if t.hdr.lw16 then [(0, sp), (2, { sp with mask := halfMask 1 })] else [(0, sp)]
    trapmask := t.hdr.trapmask, deadline := t.deadline, passed := t.passed }

/-- Flush a group: all it has done is discarded, and it waits to start again at ENTRY (R191 steps 3 to 5). What a unit of it has parked
since the choice goes with it. [DESIGN CHOICE, log 55; DEDUCED, log 57] -/
def State.flushGroup (s : State) (gk : Nat) : State :=
  let g := s.group gk
  let t := s.task g.task
  let ks := (s.recs.filter (fun p => p.2.used && s.unitGroup p.2 = some gk)).map (·.1)
  let s := (ks.foldl (fun s k => (s.expireFault k).freeRec k) s).forgetWaiting (fun r => decide (s.unitGroup r = some gk))
  let mine := fun (o : Outstanding) => match o.course with
    | some (c, _) => decide ((s.course c).group = gk)
    | none => false
  let s : State := { s with fab := { s.fab with outs := s.fab.outs.filter (fun o => !mine o) } }
  let s := (s.copies.map (·.1)).foldl (fun s n => s.leaveFill gk n) s
  let s := { s with copies := s.copies.filter (fun p => p.2.group ≠ gk) }
  let s := s.unlease gk
  let s := s.setGroup gk { task := g.task, f := g.f, b := g.b, g := g.g, bench := g.bench, cell := g.cell, index := g.index, win := g.win
                           dcore := g.dcore, level := g.level, slot := g.slot, saved := true, fresh := true }
  (s.coursesOf gk).foldl (fun s cid => s.setCourse cid (startCourse t gk (s.course cid).c)) s

/-- GROUP_SAVE_COMPLETE (.nat group 0 0): the save, or the flush, that was chosen for the group takes place once it can. -/
def execGroupSaveComplete (s : State) : Out :=
  match s.arg with
  | .nat gk _ _ =>
    let g := s.group gk
    if !g.saving || g.ended then .next s
    else if g.flushing && s.flushReady gk then .next (s.flushGroup gk)
    else if !g.flushing && s.saveReady gk then .next (s.saveGroup gk)
    else .next (s.postOnce (s.now + 1) .groupSaveComplete (.nat gk 0 0))
  | _ => .next s

/-! ## Shadow copies (R212) -/

/-- The copy that a rollback of the group reloads. [DEDUCED, log 79] -/
def State.snapGroup (s : State) (gk : Nat) : Shadow :=
  let g := s.group gk
  { courses := s.courses.filter (fun p => p.2.group = gk), sram := s.winCells gk, banks := s.winBanks gk, owners := s.winOwners gk
    tensors := g.tensors, nodes := g.nodes, demands := g.demands, nextBatch := g.nextBatch, wrapped := g.wrapped, nodeSeq := g.nodeSeq
    p := g.p, holder := g.holder, turn := g.turn, fmtPlane := g.fmtPlane, fmtShadow := g.fmtShadow, matrix := (s.matrixOf gk).or g.matrix
    copies := s.copies.filter (fun p => p.2.group = gk) }

/-- The copy is written into the shadow buffer that does not hold the last completed one, and becomes the last (R196, R212 steps 1 and 2). -/
def State.writeShadow (s : State) (gk : Nat) : State :=
  let g := s.group gk
  let second := !g.second
  let at_ := s.imageVA gk + (if second then 2 else 1) * g.third
  let copies := Config.sectionBytes (.copies (s.copies.filter (fun p => p.2.group = gk)))
  let s := if g.slot.isSome then s.pokeVA (s.task g.task).vd none 3 at_ ((s.stateSections gk ++ [copies]).flatten) else s
  s.setGroup gk { s.group gk with second }

/-- A new barrier interval begins: the copy is the last completed one, and the escapes clear (R182, R212). [DESIGN CHOICE, log 58] -/
def State.newInterval (s : State) (gk : Nat) : State :=
  let sh := s.snapGroup gk
  let s := s.writeShadow gk
  let s := (s.coursesOf gk).foldl (fun s c => s.setCourse c { s.course c with seen := [], wins := [], winsAt := [] }) s
  let g := s.group gk
  s.setGroup gk { g with shadow := some sh, escaped := false, escCount := 0, escLog := [], interval := (g.interval + 1) % 2 ^ 48, lastUE := none }

/-- SHADOW_COPY_DONE (.nat group scope 0): the boundary's waits of the group end (R212, 10 R307). -/
def execShadowCopyDone (s : State) : Out :=
  match s.arg with
  | .nat gk scope _ =>
    let t := s.task (s.group gk).task
    let s := (s.coursesOf gk).foldl (fun s cid =>
      let c := s.course cid
      if c.alive && (c.splits.any (fun p => p.2.wait.isCopying scope) || c.held.any (fun h => !h.ended && h.wait.isCopying scope)) then
        s.setCourse cid (c.passBoundary t.hdr.lw16 scope (fun w => w.isCopying scope))
      else s) s
    .next (if (s.group gk).ended then s else s.newInterval gk)
  | _ => .next s

/-! ## What waits starts again (R192, R201) -/

/-- Does a course stand under a record, or wait for one? -/
def Course.stands (c : Course) : Bool :=
  match c.st with
  | .parked _ _ | .waiting => true
  | _ => false

/-- Post what the pending instructions of a course still need; a WAITA starts again (R192), and what has gone to another module
waits for its answer. -/
def State.repost (s : State) (cid : Nat) : State :=
  (s.course cid).pends.foldl (fun s p =>
    if p.due.isSome || s.isSent cid p.id then s
    else if p.late.isSome then if (s.course cid).stands then s else s.postOnce s.now (if p.late.any (·.cause = 3) then .instructionComplete else .lateFault) (.course cid p.id 0 0)
    else
      match p.act with
      | .boundary | .batch _ | .copy _ => s
      | .access a => (match a.op with
        | .waita _ (some lim) =>
          let s := s.setCourse cid { s.course cid with pends := (s.course cid).pends.map (fun q => if q.id = p.id then { q with act := .access { a with since := s.now } } else q) }
          (s.postOnce s.now .instructionComplete (.course cid p.id 0 0)).post (s.now + lim) .waitaTimeout (.course cid p.id 0 0)
        | _ => s.postOnce s.now .instructionComplete (.course cid p.id 0 0))
      | _ => s.postOnce s.now .instructionComplete (.course cid p.id 0 0)) s

/-- Post the segments of a group's copies that are still to be issued, and its demands. -/
def State.repostEngines (s : State) (gk : Nat) : State :=
  let s := (s.copies.filter (fun p => p.2.group = gk)).foldl (fun s p =>
    (p.2.segs.filter (fun x => !x.done && !x.parked && !x.sent && x.left.isEmpty)).foldl (fun s x =>
      s.postOnce s.now .copySegmentComplete (.nat p.1 x.id 0)) s) s
  if (s.group gk).demands.isEmpty && !(s.group gk).nodes.any (fun p => p.2.st = .pending && p.2.redo.isSome) then s
  else s.postOnce s.now .nodeEvaluate (.nat gk 0 0)

/-! ## What a boundary does not wait for (06 R161) -/

/-- Is a unit that holds a granule parked, or does software hold it by OWNSET: does it stay until software acts? -/
def State.holderStays (s : State) (h : Option Holder) : Bool :=
  match h with
  | some .free => true
  | some (.copy n) => (s.copy n).segs.any (·.parked)
  | some (.node g i) => decide ((tgetD (s.group g).nodes i {}).st ≠ .pending)
  | none => false

/-- Does a node, or one that it depends on, stand parked? -/
def NodeRef.blocked (all : List NodeRef) (r : NodeRef) : Bool :=
  all.any (fun m => decide (m.n.st ≠ .pending) && reaches all m.gk m.idx 65 r r.n.d.whole)

/-- Is a pending node that meets some ranges blocked? -/
def State.rangesBlocked (s : State) (bench cell : Nat) (rs : List MRange) : Bool :=
  let all := s.cellNodes bench cell
  (all.filter (fun n => n.allRanges.any (fun a => rs.any a.meets))).any (NodeRef.blocked all)

/-- Can a batch of a group complete only once software has acted: on a parked node, or granule, or segment, or on the bow that the course
`cid` holds? -/
def State.batchStays (s : State) (cid gk n : Nat) : Bool :=
  let g := s.group gk
  let all := s.cellNodes g.bench g.cell
  g.demands.any (fun d => d.batch = n && (
    let need := needed all gk (s.task g.task).vd d.g d.box
    need.any (fun p => NodeRef.blocked all p.1 || (p.1.granules p.1.n.d.whole).any (fun i => s.holderStays (s.holder p.1.gk i)))
      || (d.course ≠ cid && s.holdsBow cid && need.any (fun p => usesArray all 65 p.1 p.2))
      || (d.copy.map (fun k => (s.copy k).segs.any (·.parked))).getD false))

/-- The same of an instruction that waits for its effect at the cell. -/
def State.engineStays (s : State) (cid : Nat) (op : EngineOp) : Bool :=
  let gk := (s.course cid).group
  let g := s.group gk
  let all := s.cellNodes g.bench g.cell
  let r := fun (n : Node) => ({ gk, idx := 0, vd := s.vdOf cid, n } : NodeRef)
  match op with
  | .append n => s.rangesBlocked g.bench g.cell ((r n).ranges n.d)
      || ((g.freeNode.isNone || 64 < s.camUsed g.bench g.cell + n.camEntries) && all.any (NodeRef.blocked all))
  | .drop _ => false
  | .own _ gs => gs.any (fun i => s.holderStays (s.holder gk i))
  | .copy c sa off n => (op.takes s gk).any (fun p => s.holderStays (s.holder p.1 p.2)) || (if c.out
      then s.rangesBlocked g.bench g.cell [{ win := false, id := s.vdOf cid, lo := sa, hi := (sa + n : Nat) }]
      else s.rangesBlocked g.bench g.cell [{ win := true, id := gk, lo := off, hi := (off + n : Nat) }])

/-- Does a pending instruction sleep until others act, or can it complete only once software has acted, whatever the course issued
before it? -/
def State.staysAlone (s : State) (cid : Nat) (p : Pend) : Bool :=
  p.late.isSome || match p.act with
  | .boundary => true
  | .copy n => (s.copy n).segs.any (fun x => x.parked || (!x.done && s.fifoOff (s.copy n).group x.off))
  | .batch n | .twait n _ => s.batchStays cid (s.course cid).group n
  | .engine op => s.engineStays cid op
  | .array .pass => s.holdsBow cid && (s.group (s.course cid).group).demands.any (fun d => d.course = cid && s.batchStays cid (s.course cid).group d.batch)
  | .array op => !s.holdsBow cid || s.arrayWaits cid op
  | .access a => (match a.op with
    | .waita _ _ => true
    | .tag n => decide (n < 2)
    | _ => false) || s.movesFifo cid p || a.items.any (fun it => match s.locGroup cid it.loc, it.loc with
      | some gk, .win _ off => s.holderStays (s.holder gk (off / 4096))
      | _, _ => false)
  | _ => false

/-- Does the boundary of a late fault not wait for a pending instruction: it has met a fault itself, it sleeps until others act, it can
complete only once software has acted, on a segment, a node or a granule that is parked or on the bow that the course holds, or it follows
such a one that it may not pass (R161)? [DEDUCED, log 66] -/
def State.mayStay (s : State) (cid : Nat) (p : Pend) : Bool :=
  s.staysAlone cid p || ((s.course cid).before p.id).any (fun q =>
    s.staysAlone cid q && (q.acquires || (p.atCell && q.holdsCell) || (p.xbar && q.xbar)))

/-- Have the instructions that the courses of a group have issued completed, as far as a boundary waits for them? -/
def State.groupStill (s : State) (gk : Nat) : Bool := (s.coursesOf gk).all (fun cid => (s.course cid).pends.all (s.mayStay cid))

/-! ## Rollback (R213, R214, 06 R184) -/

/-- The entry that a course waits under which has to go back to the core of its profile: no bridge point has this number. -/
def backId : Nat := 65536

/-- A course as its shadow copy has it. What has run since stays: whether it was killed, its place on the cell's cores, a halt, its
deadline; its view may read what it could read at the copy and what has come since, and what its plain loads have read in the interval
they read again (R214). One that has migrated since goes back to the core of its profile first (08 R253), unless its group is saved. Its
latches read zero (08 R235). [DEDUCED, log 57] -/
def rollCourse (il saved : Bool) (now_ old : Course) : Course :=
  { old.clearLatches il with
             dcore := if saved then old.dcore else now_.dcore, slot := now_.slot, active := now_.active, since := now_.since
             deadline := now_.deadline, passed := now_.passed, migReq := false, stopping := false
             st := if saved then .saved else if now_.dcore ≠ old.dcore then .migrating backId else if now_.st = .halted then .halted else .running
             stale := old.stale.filter (fun e => !now_.stale.contains e) ++ now_.stale
             staleI := now_.staleI, loop := now_.loop, loopVar := now_.loopVar, loopI := now_.loopI, seen := now_.seen
             wins := now_.wins, winsAt := [] }

/-- A copy that a rollback discards leaves its other receivers: their granules are the courses' again, and what has landed of it counts as
pending once more (R213). [DEDUCED, log 57] -/
def State.dropCopy (s : State) (n : Nat) : State :=
  let c := s.copy n
  (c.recv.filter (· ≠ c.group)).foldl (fun s gk =>
    let back := if c.bd then ((c.segs.filter (·.landedIn gk)).map (·.len)).foldl (· + ·) 0 else 0
    let s := s.setGroup gk { s.group gk with p := (s.group gk).p + BitVec.ofNat 56 back }
    c.segs.foldl (fun s x => if s.holder gk (x.off / 4096) = some (.copy n) then s.flipToCourse gk (x.off / 4096) else s) s) s

/-- A copy as its shadow copy has it: its segments that were not done are performed again. Those of a multicast that have landed in its
receivers since land again in its own group only (R213). [DEDUCED, log 57] -/
def Copy.again (old : Copy) (now_ : Option Copy) : Copy :=
  let landed := fun (x : Seg) => match now_ with
    | none => true
    | some c => ((c.segs.find? (fun y => y.id = x.id)).map (·.done)).getD true
  { old with segs := old.segs.map (fun x => { x with sent := false, data := if old.out then x.data else [], left := []
                                                     own := x.own || (old.mc && !x.done && landed x) }) }

/-- The bow and the array as a shadow copy has them. While another group of the cell holds the array, or while the group is saved, its
course takes the bow again when it next needs it, and what it had in the array waits for that (11 R334). -/
def State.rollBow (s : State) (gk : Nat) (sh : Shadow) : State :=
  let g := s.group gk
  let k := cellKey g.bench g.cell
  let c := s.cell k
  let out := g.saved || s.groups.any (fun p => p.1 ≠ gk && cellKey p.2.bench p.2.cell = k && !p.2.saved && p.2.holder.isSome)
  let s := s.setGroup gk { g with holder := if out then none else sh.holder, turn := if out then sh.holder.getD sh.turn else sh.turn
                                  fmtPlane := sh.fmtPlane, fmtShadow := sh.fmtShadow
                                  matrix := if out || sh.holder.isNone then sh.matrix else none }
  if g.saved then s
  else
    let queue := c.bowQueue.filter (fun e => e.1 ≠ gk)
    let queue := match out, sh.holder with
      | true, some h => (gk, h) :: queue
      | _, _ => queue
    (match out, sh.holder, sh.matrix with
     | false, some _, some (p, q, a) => s.setCell k { c with plane := p, shadow := q, accum := a, arrayGroup := some gk, bowQueue := queue }
     | _, _, _ => s.setCell k { c with bowQueue := queue }).askBow gk

/-- The window of a group as a shadow copy has it: what its banks in other modes hold leaves them first (09 R269). -/
def State.rollWin (s : State) (gk : Nat) (sh : Shadow) : State :=
  let g := s.group gk
  if g.saved then s.setGroup gk { g with image := sh.sram, saveBanks := sh.banks, saveOwners := sh.owners }
  else
    let s := (g.banks.filter (fun b => (s.bankOf g.bench g.cell b).mode = .cache || (s.bankOf g.bench g.cell b).mode = .spill)).foldl
      (fun (s : State) b => s.drainBank g.bench g.cell b) s
    ((s.fillWin gk sh.sram).setWinBanks gk sh.banks).setWinOwners gk sh.owners

/-- Roll a group back to its last completed shadow copy: no record, event or status (R213). [DEDUCED, log 57; DEDUCED, log 67] -/
def State.rollback (s : State) (gk : Nat) : State :=
  let g := s.group gk
  match g.shadow with
  | none => s
  | some sh =>
    let ks := (s.recs.filter (fun p => p.2.used && s.unitGroup p.2 = some gk)).map (·.1)
    let s := (ks.foldl (fun s k => s.freeRec k) s).forgetWaiting (fun r => decide (s.unitGroup r = some gk))
    let s := ((s.copies.filter (fun p => p.2.group = gk && (tget sh.copies p.1).isNone)).map (·.1)).foldl State.dropCopy s
    let others := s.copies.filter (fun p => p.2.group ≠ gk)
    let s := { s with copies := sh.copies.foldl (fun (m : FMap Copy) (p : Nat × Copy) => tset m p.1 (p.2.again (tget s.copies p.1))) others }
    let s := s.setGroup gk { s.group gk with tensors := sh.tensors, nodes := sh.nodes, demands := sh.demands, nextBatch := sh.nextBatch,
                                             wrapped := sh.wrapped, nodeSeq := sh.nodeSeq, p := sh.p, undo := none }
    let s := (s.rollWin gk sh).rollBow gk sh
    let s := sh.courses.foldl (fun s p =>
      let c := s.course p.1
      match c.st with
      | .killed _ => s
      | _ =>
        let n := rollCourse (s.task g.task).interlock g.saved c p.2
        let s := s.setCourse p.1 (if p.2.alive then n else p.2)
        if p.2.alive && !g.saved && c.dcore ≠ p.2.dcore then s.postOnce (s.now + 1) .migrationComplete (.nat p.1 0 0) else s) s
    if g.saved then s else ((s.coursesOf gk).foldl State.repost s).repostEngines gk

/-- REPLAY_ESCAPED: every course of the group parks under one record of kind 4 (06 R184). -/
def State.parkGroup (s : State) (gk : Nat) : State :=
  let g := s.group gk
  let t := s.task g.task
  let r : PRec := { s.recBase g.task with
    kind := 4, cause := 0x12, late := true, unit := BitVec.ofNat 64 (g.bench * 4096 + g.cell * 256 + g.index), escCount := min 255 g.escCount
    esclog := g.escLog, cx := BitVec.ofNat 64 g.interval, uA := gk }
  let stop := fun (s : State) (k : Option Nat) => (s.coursesOf gk).foldl (fun s cid =>
    let c := s.course cid
    match c.st with
    | .running | .migrating _ | .halted => s.setCourse cid { (c.stopped t.interlock) with st := match k with
        | some k => .parked (k / 16384) (k % 16384)
        | none => .waiting }
    | _ => s) s
  s.parkUnit (dieOf g.bench) r true stop (fun s st => s.killGroup gk st)

/-- Is a group parked as a whole, or does it wait for the record of it? -/
def State.parkedWhole (s : State) (gk : Nat) : Bool :=
  s.recs.any (fun p => p.2.used && p.2.kind = 4 && p.2.uA = gk)
    || (List.range 4).any (fun d => (s.die d).waiting.any (fun r => r.kind = 4 && r.uA = gk))

/-- Uncorrectable data has been consumed in a shadowed group (12 R352): it stops; once its copy segments under way have completed it rolls
back, while the interval has not escaped (R213), or once what it has issued has completed it parks (06 R184). -/
def State.groupUE (s : State) (gk : Nat) (addr : Word) : State :=
  let g := s.group gk
  if !(s.task g.task).hdr.shadow || g.ended || g.saved || s.parkedWhole gk then s
  else
    let u := g.undo.getD { addr }
    let roll := u.retry || !g.escaped
    if !(if roll then s.segsDone gk else s.segsDone gk && s.groupStill gk) then
      (s.setGroup gk { g with undo := some u }).postOnce (s.now + 1) .uncorrectableConsumed (.consumer (.group gk) 3 addr)
    else
      let s := s.setGroup gk { g with undo := none }
      if !roll then s.parkGroup gk
      else
        let s := s.rollback gk
        if u.retry then s else s.setGroup gk { s.group gk with lastUE := some u.addr }

/-- RETRY of a group that has parked as a whole: it goes back to its last barrier, once its segments under way have completed; a saved one at
once, in its image (06 R176, R184). -/
def State.retryGroup (s : State) (gk : Nat) : State :=
  let g := s.group gk
  if g.saved then s.rollback gk
  else
    let s := (s.coursesOf gk).foldl (fun s cid => match (s.course cid).st with
      | .parked _ _ => s.setCourse cid { s.course cid with st := .running }
      | _ => s) s
    (s.setGroup gk { g with undo := some { retry := true } }).groupUE gk 0

/-- The lanes of a list of writes. -/
def lanesIn (ws : List RegWrite) : LaneMask :=
  maskOf (ws.filterMap (fun w => match w with
    | .v _ l _ | .b _ l _ => some l
    | _ => none))

/-- A course has consumed an uncorrectable word of its core: the instruction that it issued last and whose result is still on its way meets
ECC_UE, late, and writes nothing; with none on its way the course meets it where its lowest split stands, with nothing to perform
again (06 R160, R161, R209). [DEDUCED, log 67] -/
def State.courseUE (s : State) (cid : Nat) (addr : Word) : State :=
  let c := s.course cid
  if !c.alive then s
  else
    match (c.pends.filter (fun p => p.act = .none && p.due.isSome && !p.writes.isEmpty && p.late.isNone)).getLast?, c.splits with
    | some p, _ => s.meetLate cid { p with writes := [] } { cause := 3, addr, mask := lanesIn p.writes }
    | none, (w, sp) :: _ => s.lateHere cid w { cause := 3, addr, mask := sp.mask }
    | none, [] => s

/-- A unit of a group without SHADOW has consumed an uncorrectable word of its core (R209): it parks with ECC_UE. -/
def State.unitUE (s : State) (who : Consumer) (addr : Word) : State :=
  let s := s.countError (s.group (s.consumerGroup who)).bench (s.group (s.consumerGroup who)).cell
  match who with
  | .course cid => s.courseUE cid addr
  | .node g i =>
    (match tget (s.group g).nodes i with
     | some n => if n.st = .pending then s.parkNode { gk := g, idx := i, vd := (s.task (s.group g).task).vd, n } { cause := 3, addr } n.d.whole { pc := 0 } else s
     | none => s)
  | .segment n =>
    (match (s.copy n).segs.find? (fun x => !x.done && !x.parked && !x.sent && x.left.isEmpty) with
     | some x => s.parkSeg n x 3 addr
     | none => s)
  | .group gk => (s.coursesOf gk).foldl (fun s cid => s.courseUE cid addr) s

/-- UNCORRECTABLE_CONSUMED (.consumer who cause addr): in a shadowed launch the group rolls back or parks, unless the address has failed in
this interval already (R213); elsewhere the unit parks with ECC_UE (R209, 12 R352). What consumes it reports the error once (R216). -/
def execUncorrectableConsumed (s : State) : Out :=
  match s.arg with
  | .consumer who _ addr =>
    let gk := s.consumerGroup who
    let g := s.group gk
    .next (if g.ended then s
      else if (s.task g.task).hdr.shadow && (g.undo.isSome || s.rollsBack gk addr) then
        (if g.undo.isSome || who = .group gk then s else s.countError g.bench g.cell).groupUE gk addr
      else if g.saved then s else s.unitUE who addr)
  | _ => .next s

/-! ## Restore (R200 to R203, R207) -/

/-- A recorded fill is read again, in full (R207); its landing is waited for (R201 step 3). -/
def State.refill (s : State) (gk : Nat) (f : Copy) : State :=
  let n := s.nextKey
  let g := s.group gk
  let s := s.setGroup gk { g with filling := g.filling ++ [n] }
  let s := { s with nextKey := n + 1 }.setCopy n { f with bench := g.bench, cell := g.cell, pend := n }
  f.segs.foldl (fun s x =>
    let s := match s.holder gk (x.off / 4096) with
      | some (.copy _) => s.setHolder gk (x.off / 4096) (some (.copy n))
      | _ => s
    s.postOnce s.now .copySegmentComplete (.nat n x.id 0)) s

/-- The courses of a group that has its leases may issue. -/
def State.wakeGroup (s : State) (gk : Nat) : State :=
  (s.coursesOf gk).foldl (fun s cid =>
    let c := s.course cid
    s.setCourse cid (if c.st = .saved then { c with st := .running, since := s.now } else c)) s

/-- With its fills landed, a group's recorded copy segments are issued again, and its courses issue (R201 steps 4 and 5). -/
def State.resumeGroup (s : State) (gk : Nat) : State :=
  let s := (s.setGroup gk { s.group gk with filling := [] }).wakeGroup gk
  ((s.coursesOf gk).foldl State.repost s).repostEngines gk

/-- Restored groups whose fills have landed go on. -/
def State.watchFills (s : State) : State :=
  s.groups.foldl (fun s p =>
    let g := s.group p.1
    if !g.filling.isEmpty && !g.saved && !g.ended && g.filling.all (fun n => (tget s.copies n).isNone) then s.resumeGroup p.1 else s) s

/-- Post the segments of the fills that a group still waits for. -/
def State.repostFills (s : State) (gk : Nat) : State :=
  (s.group gk).filling.foldl (fun s n => (((s.copy n).segs.filter (fun x => !x.done && !x.parked && !x.sent)).foldl (fun s x =>
    s.postOnce s.now .copySegmentComplete (.nat n x.id 0)) s)) s

/-- A group that stands unsaveable takes a slot at its placement, if one is free by now (R196). -/
def State.takeSlot (s : State) (gk : Nat) : State :=
  let g := s.group gk
  let t := s.task g.task
  let size := slotSize (extKX t.trec.extents + 1) (t.hdr.demand g.dcore) (banksFor g.win) t.hdr.shadow
  if g.slot.isSome then s else s.setGroup gk { g with slot := (s.findSlot t.vd size).map (fun o => (o, size)) }

/-- The courses of a group read the schedule tables of their profiles (13 R387). -/
def State.readTables (s : State) (gk : Nat) : State :=
  (s.coursesOf gk).foldl (fun s c => s.setCourse c { s.course c with sched := s.tableOf (s.group gk).task (s.course c).prof }) s

/-- A group that has its leases runs: at its start, or from its image (R201); an image that fails a check kills it. [DEDUCED, log 56] -/
def State.restoreGroup (s : State) (gk : Nat) : State :=
  let g := s.group gk
  let t := s.task g.task
  if g.fresh then
    let s := (((s.setGroup gk { g with saved := false, fresh := false }).takeSlot gk).setWinBanks gk []).readTables gk
    let s := s.wakeGroup gk
    if t.hdr.shadow then s.newInterval gk else s
  else if !s.imageGood gk then
    let s := s.event 64 4 t.vd 0 (dieOf g.bench)
      (leBytes 1 (dieOf g.bench) ++ leBytes 1 g.bench ++ leBytes 1 g.cell ++ leBytes 1 g.index ++ leBytes 4 0 ++ leBytes 8 (s.recBase g.task).taskq.toNat)
    (s.setGroup gk { g with saved := false, demands := [] }).killGroup gk 8
  else
    let s := (s.setGroup gk { g with saved := false, image := [], saveBanks := [], saveOwners := [], recorded := [] }).readTables gk
    let s := ((s.fillWin gk g.image).setWinBanks gk g.saveBanks).setWinOwners gk g.saveOwners
    let s := (g.recorded.foldl (fun s f => s.refill gk f) s).repostFills gk
    if (s.group gk).filling.isEmpty then s.resumeGroup gk else s

end Sys2Proof.Machine
end

