-- ==== Sys2Proof/Machine/Place.lean ====
section
/-! DEFINITION. Ranking and placement: levels and ageing, the kernel header, leases of cells, slots and banks, pre-emption,
migration requests and exchanges of active courses (05 R143 to R151, 07 R187 to R191, R200, 08 R230, R252, R257). -/
namespace Sys2Proof.Machine

/-! ## Ranking (R143 to R145) -/

/-- The level that PRIO instructions have set, as decisions of now see it (15 R440). -/
def State.prioNow (s : State) (t : Task) : Nat := (t.prioTo.filter (fun p => p.1 ≤ s.now)).foldl (fun m p => max m p.2) 0

/-- The queue of a task, while it is still that queue. -/
def State.queueOf (s : State) (t : Task) : Queue :=
  let q := s.queue t.queue
  if q.gen = t.qgen then q else { live := false }

/-- A task's effective level (R143). -/
def State.effLevel (s : State) (t : Task) : Nat :=
  let q := s.queueOf t
  max (max t.trec.prio q.prio) (s.prioNow t) - q.step

/-- Is one deadline earlier than another: by the sign of their difference modulo 2^48 (R144). -/
def earlier (x y : Nat) : Bool := 2 ^ 47 ≤ (x + 2 ^ 48 - y % 2 ^ 48) % 2 ^ 48

/-- The order of R144 within one level: deadline, then arrival. -/
def Task.dueFirst (a b : Task) : Bool :=
  match a.deadline, b.deadline with
  | some x, some y => if x % 2 ^ 48 = y % 2 ^ 48 then a.arrival ≤ b.arrival else earlier x y
  | some _, none => true
  | none, some _ => false
  | none, none => a.arrival ≤ b.arrival

/-- The order of R144: effective level, deadline, arrival. -/
def State.ranksFirst (s : State) (a b : Task) : Bool :=
  if s.effLevel a ≠ s.effLevel b then s.effLevel a < s.effLevel b else a.dueFirst b

/-- A virtual device whose work may be placed: neither stopped nor stopping. -/
def VDev.runs (v : VDev) : Bool := (v.ck = .running || v.ck = .reviving) && v.mig ≠ .stopping && v.mig ≠ .stopped && v.mig ≠ .incoming && v.mig ≠ .resuming

/-- Does every course of a group wait at a quarry- or system-scope boundary (R148)? -/
def State.waitsWide (s : State) (gk : Nat) : Bool :=
  let cs := (s.coursesOf gk).map s.course
  cs.any (fun c => c.alive) && [3, 4].any (fun sc => cs.any (fun c => c.alive && c.waitsAt sc) && cs.all (fun c => c.arrived sc))

/-- The saved groups of a task that may be placed again; one that waits at a wide boundary while face groups of its launch
are unplaced is not (R148). -/
def State.savedOf (s : State) (tk : Nat) : List Nat :=
  let t := s.task tk
  let open_ := t.nextFace ≤ extFX t.trec.extents
  (s.groups.filter (fun p => p.2.task = tk && p.2.saved && !p.2.ended && !(open_ && s.waitsWide p.1))).map (·.1)

/-- Has a task something to place? -/
def State.toPlace (s : State) (tk : Nat) (t : Task) : Bool :=
  (s.vd t.vd).runs && (t.st = .ready || (t.st = .placed && (t.nextFace ≤ extFX t.trec.extents || !(s.savedOf tk).isEmpty)))

/-- The tasks of a dispatcher that have something to place, in rank order. -/
def State.ranked (s : State) (home : Nat) : List Nat :=
  (sortBy (fun (a b : Nat × Task) => s.ranksFirst a.2 b.2) (s.tasks.filter (fun p => p.2.home = home && s.toPlace p.1 p.2))).map (·.1)

/-- The effective level of a queue's best ready task; one whose saved groups wait to be placed again is ready (R145). -/
def State.bestReady (s : State) (home k gen : Nat) : Option Nat :=
  (((s.tasks.filter (fun x => x.2.home = home && x.2.queue = k && x.2.qgen = gen && (x.2.st = .ready || s.toPlace x.1 x.2))).map (·.2)).map s.effLevel).min?

/-- A counter that has reached the threshold: it restarts, and the step rises unless the best ready task has level 0 (R145). [DEDUCED, log 53] -/
def Queue.aged (q : Queue) (best : Option Nat) : Queue := { q with age := 0, step := if best = some 0 then q.step else q.step + 1 }

/-- Ageing at a dispatch: every queue of the dispatcher whose best ready task ranks below the one dispatched counts, and the
dispatched task's queue starts anew (R145). [DEDUCED, log 53] -/
def State.ageQueues (s : State) (home : Nat) (t : Task) (level : Nat) : State :=
  let thr := max 1 (s.bench home).ageThr.toNat
  s.queues.foldl (fun s p =>
    if p.1 = t.queue && p.2.gen = t.qgen then s.setQueue p.1 { p.2 with age := 0, step := 0 }
    else
      match s.bestReady home p.1 p.2.gen with
      | none => s
      | some best =>
        let q := { p.2 with age := if level < best then p.2.age + 1 else p.2.age }
        s.setQueue p.1 (if thr ≤ q.age then q.aged (some best) else q)) s

/-- At a selection, counters that a lowered threshold has left at or above it act (R145, R158). [DEDUCED, log 53] -/
def State.ageReached (s : State) (home : Nat) : State :=
  let thr := max 1 (s.bench home).ageThr.toNat
  s.queues.foldl (fun s p =>
    if p.2.live && p.2.home = home && thr ≤ p.2.age then s.setQueue p.1 (p.2.aged (s.bestReady home p.1 p.2.gen)) else s) s

/-! ## The kernel header (R151, 13 R391, 08 R254) -/

/-- The stepping that the version note of the code object at an address names; B0 where the loader has told none (13 R396, R397). -/
def VDev.stepping (v : VDev) (a : Nat) : Nat :=
  ((v.notes.find? (fun x => x.1 ≤ a && a < x.1 + x.2.1)).map (·.2.2)).getD Config.stepping

/-- A kernel runs in interlocked mode when its header asks for it, or when its code object names another stepping than the device's
(08 R254, R256). [DEDUCED, log 59] -/
def KHdr.noted (h : KHdr) (stepping : Nat) : KHdr := { h with interlock := h.interlock || stepping ≠ Config.stepping }

/-- The header of a task's kernel; none when the read fails. [DEDUCED, log 50] -/
def State.readHeader (s : State) (t : Task) : Option KHdr :=
  let a := addOff t.trec.entry.toNat (-256)
  let v := s.vd t.vd
  if 2 ^ 57 < a + 256 || !v.mapsAll a 256 || s.poisoned t.vd a 256 then none
  else if !v.allows a 256 0 && !v.allows a 256 2 then none
  else some ((hdrOf (s.peekVA t.vd a 256)).noted (v.stepping t.trec.entry.toNat))

/-- The native core kind of CORE. -/
def TaskRec.dcore (r : TaskRec) : Bool := r.core = 0

/-- Does the header let the kernel run (R151)? [DEDUCED, log 50] -/
def goodHeader (r : TaskRec) (h : KHdr) : Bool :=
  let n := h.demand r.dcore
  h.magic = 0x4f564b48 && 1 ≤ h.ver && h.ver ≤ 3 && 1 ≤ h.isa && h.isa ≤ 3 && 1 ≤ n && n ≤ (if r.dcore then 160 else 240)
    && h.scratch ≤ 1572864 && (h.interlock || h.prof = r.dcore)

/-- Banks of a cell that may be leased (R147, 09 R283). -/
def Bench.leasable (b : Bench) : Nat := 12 - min b.minc.toNat 11

/-- A bench that R149 could ever allow a task. -/
def State.benchEver (s : State) (t : Task) (b : Nat) : Bool :=
  let q := s.queueOf t
  (s.vd t.vd).benches.getLsbD b
    && (if q.resv ≠ 0 then q.resv.getLsbD b
        else !s.queues.any (fun p => p.2.live && !(p.1 = t.queue && p.2.gen = t.qgen) && p.2.resv.getLsbD b))

/-- A bench that may take a task's groups now (R149). -/
def State.benchNow (s : State) (t : Task) (b : Nat) : Bool := s.benchEver t b && s.plat.readyBench.getLsbD b

/-- Can a launch never be placed (R151, R196, R283)? -/
def State.unplaceable (s : State) (t : Task) (h : KHdr) : Bool :=
  let e := t.trec.extents
  let kx := extKX e + 1
  let d := t.trec.dcore
  let rows := rowsFor (h.demand d)
  let faces := (List.range 32).filter (fun f => extBX e + 1 ≤ ((List.range 2).filter (fun i => s.benchEver t (2 * f + i))).length)
  let v := s.vd t.vd
  let a := s.vdReg t.vd
  faces.length < extFX e + 1 || coreRows d < kx * rows || coreSlots d < kx
    || (List.range 64).all (fun b => !v.benches.getLsbD b || (s.bench b).leasable < banksFor h.scratch)
    || (h.shadow && (a.svsize - a.svblob) * 65536 < slotSize kx (h.demand d) (banksFor h.scratch) true)

/-! ## Leases (R147, R148) -/

/-- The groups that hold leases of a cell. -/
def State.groupsOn (s : State) (bench cell : Nat) : List (Nat × Group) :=
  s.groups.filter (fun p => p.2.bench = bench && p.2.cell = cell && !p.2.ended && !p.2.saved)

/-- The cell-owned banks that may be leased, lowest first. -/
def State.freeBanks (s : State) (bench cell : Nat) : List Nat :=
  (List.range (s.bench bench).leasable).filter (fun i => (s.bankOf bench cell i).owner.isNone)

/-- The courses of a group that still need a slot on a core kind. -/
def State.seatsOf (s : State) (gk : Nat) (dcore : Bool) : List Nat :=
  (s.coursesOf gk).filter (fun c => (s.course c).alive && (s.course c).dcore = dcore)

/-- Has a cell room for a group? -/
def State.cellRoom (s : State) (gk bench cell : Nat) : Bool :=
  let b := s.bench bench
  let g := s.group gk
  let h := (s.task g.task).hdr
  b.enabled.getLsbD cell && !b.failed.getLsbD cell && !b.retiring.getLsbD cell && (s.groupsOn bench cell).length < 4
    && banksFor g.win ≤ (s.freeBanks bench cell).length
    && [false, true].all (fun d =>
      let n := (s.seatsOf gk d).length
      n ≤ (s.freeSlots bench cell d).length && s.rowsUsed bench cell d + n * rowsFor (h.demand d) ≤ coreRows d)

/-- Give a course a slot of its core, whichever is free (R148), and a place in the active set of a D-core (08 R230). -/
def State.giveSlot (s : State) (bench cell cid : Nat) : State :=
  let c := s.course cid
  let free := s.freeSlots bench cell c.dcore
  let r := s.choose
  let act := !c.dcore || ((s.residents bench cell true).filter (fun p => p.2.active && p.1 ≠ cid)).length < 8
  r.2.setCourse cid { c with slot := free.getD (r.1 % max 1 free.length) 0, active := act, since := s.now }

/-- A deadline that has passed on the clock it was carried on starts anew on a new bench's clock, with no time left (R141). -/
def State.carryOver (s : State) (moved : Bool) (c : Course) : Course :=
  let past := c.passed || s.isPast c.deadline
  if moved && past then { c with deadline := c.deadline.map (fun _ => s.now), passed := c.deadline.isSome || c.passed } else c

/-- Lease a cell to a group: it keeps from now on the effective level of its task, and its courses carry their remaining time to the
bench's clock (R141, R146). What its banks held leaves them, and the cell's own banks take the modes of BANK_CFG (09 R268, R283). -/
def State.seat (s : State) (gk bench cell : Nat) : Option State :=
  if !s.cellRoom gk bench cell then none
  else
    let g := s.group gk
    let index := ((List.range 4).find? (fun i => (s.groupsOn bench cell).all (fun p => p.2.index ≠ i))).getD 0
    let banks := (s.freeBanks bench cell).take (banksFor g.win)
    let cs := s.seatsOf gk false ++ s.seatsOf gk true
    let moved := decide ((if g.fresh then (s.task g.task).home else g.bench) ≠ bench)
    let s := cs.foldl (fun s c => s.setCourse c { s.carryOver moved (s.course c) with slot := 64, active := false }) s
    let level := s.effLevel (s.task g.task)
    let s := banks.foldl (fun (s : State) b => s.drainBank bench cell b) s
    let s := (s.setGroup gk { g with bench, cell, index, banks, level, saved := false }).setWinBanks gk []
    some (cs.foldl (fun s c => s.giveSlot bench cell c) (s.setModes bench cell (List.range 12)))

/-- A list rotated by the next free choice. [DESIGN CHOICE, log 52] -/
def State.turned (s : State) (l : List Nat) : List Nat × State :=
  let r := s.choose
  let k := r.1 % max 1 l.length
  (l.drop k ++ l.take k, r.2)

/-- Seat a group on some cell of a bench. [DESIGN CHOICE, log 52] -/
def State.seatOnBench (s : State) (gk bench : Nat) : Option State :=
  let r := s.turned (List.range 9)
  r.1.findSome? (fun c => r.2.seat gk bench c)

/-- Seat groups on one bench together (R148). -/
def State.seatAll (s : State) (gks : List Nat) (bench : Nat) : Option State :=
  gks.foldl (fun (o : Option State) gk => match o with
    | some s => s.seatOnBench gk bench
    | none => none) (some s)

/-- Seat the bench groups of a face group on distinct benches of one face. -/
def State.seatFace (s : State) (t : Task) (bgs : List (List Nat)) (face : Nat) : Option State :=
  let r := s.turned [2 * face, 2 * face + 1]
  let ok := r.1.filter (fun b => r.2.benchNow t b)
  match bgs with
  | [g0] => ok.findSome? (fun b => r.2.seatAll g0 b)
  | [g0, g1] =>
    (match ok with
     | [x, y] => (match (r.2.seatAll g0 x).bind (fun s => s.seatAll g1 y) with
       | some s => some s
       | none => (r.2.seatAll g0 y).bind (fun s => s.seatAll g1 x))
     | _ => none)
  | _ => none

/-- The faces that other face groups of a task occupy. [DEDUCED, log 54] -/
def State.facesUsed (s : State) (tk f : Nat) : List Nat :=
  (s.groups.filter (fun p => p.2.task = tk && p.2.f ≠ f && !p.2.ended && !p.2.saved)).map (fun p => p.2.bench / 2)

/-! ## New face groups -/

/-- Make the groups and courses of a face group, without leases: the answer gives the groups of each bench group. A group takes
its image slot now (R196); none when a shadowed group finds no slot. -/
def State.makeFace (s : State) (tk f level : Nat) : Option (State × List (List Nat)) :=
  let t := s.task tk
  let e := t.trec.extents
  let d := t.trec.dcore
  (List.range (extBX e + 1)).foldl (fun (o : Option (State × List (List Nat))) b =>
    match o with
    | none => none
    | some (s, bgs) =>
      match (List.range (extCX e + 1)).foldl (fun (o : Option (State × List Nat)) g =>
        match o with
        | none => none
        | some (s, gks) =>
          let size := slotSize (extKX e + 1) (t.hdr.demand d) (banksFor t.hdr.scratch) t.hdr.shadow
          let slot := s.findSlot t.vd size
          if t.hdr.shadow && slot.isNone then none
          else
            let gk := s.nextKey
            let s := { s with nextKey := gk + extKX e + 2 }.setGroup gk
              { task := tk, f, b, g, dcore := d, level, win := t.hdr.scratch, slot := slot.map (fun o => (o, size))
                saved := true, fresh := true }
            let s := (List.range (extKX e + 1)).foldl (fun s c => s.setCourse (gk + 1 + c) (startCourse t gk c)) s
            some (s, gks ++ [gk])) (some (s, [])) with
      | none => none
      | some (s, gks) => some (s, bgs ++ [gks])) (some (s, []))

/-- Place one face group of a task on some face; its groups start (R148). [DEDUCED, log 54] -/
def State.placeFace (s : State) (tk level : Nat) : Option State :=
  let t := s.task tk
  match s.makeFace tk t.nextFace level with
  | none => none
  | some (s, bgs) =>
    let used := s.facesUsed tk t.nextFace
    let r := s.turned ((List.range 32).filter (fun f => !used.contains f))
    match r.1.findSome? (fun f => r.2.seatFace t bgs f) with
    | none => none
    | some s =>
      let s := (bgs.flatten).foldl (fun s g => s.restoreGroup g) s
      some (s.setTask tk { s.task tk with nextFace := t.nextFace + 1 })

/-- Place n face groups one after another, all or none. -/
def State.placeFaces : Nat → State → Nat → Nat → Option State
  | 0, s, _, _ => some s
  | n + 1, s, tk, level => (s.placeFace tk level).bind (fun s => s.placeFaces n tk level)

/-! ## Saved groups (07 R200) -/

/-- The benches a saved group may go onto: its bench group's, or of its face group's face, or any. -/
def State.restoreBenches (s : State) (gk : Nat) : List Nat :=
  let g := s.group gk
  let t := s.task g.task
  let others := (s.groups.filter (fun p => p.2.task = g.task && p.2.f = g.f && !p.2.ended && !p.2.saved)).map (·.2)
  let same := others.filter (fun h => h.b = g.b)
  let l := match same with
    | h :: _ => [h.bench]
    | [] =>
      match others with
      | h :: _ => [2 * (h.bench / 2), 2 * (h.bench / 2) + 1].filter (fun b => others.all (fun o => o.bench ≠ b))
      | [] =>
        let used := s.facesUsed g.task g.f
        (List.range 64).filter (fun b => !used.contains (b / 2))
  l.filter (fun b => s.benchNow t b)

/-- Place saved groups of a task again: those of one bench group together while none of it is resident. [DESIGN CHOICE, log 55] -/
def State.placeSaved (s : State) (tk : Nat) : Option State :=
  (s.savedOf tk).findSome? (fun gk =>
    let g := s.group gk
    let mates := (s.savedOf tk).filter (fun k => (s.group k).f = g.f && (s.group k).b = g.b)
    let alone := !s.groups.any (fun p => p.2.task = tk && p.2.f = g.f && p.2.b = g.b && !p.2.ended && !p.2.saved)
    let set := if alone then mates else [gk]
    let r := s.turned (s.restoreBenches gk)
    (r.1.findSome? (fun b => r.2.seatAll set b)).map (fun s => set.foldl (fun s k => s.restoreGroup k) s))

/-- Place the next part of a task: its first face group, or all of a gang; a further face group; or saved groups. [DESIGN CHOICE, log 52] -/
def State.placeTask (s : State) (tk : Nat) : Option State :=
  let t := s.task tk
  let level := s.effLevel t
  let left := extFX t.trec.extents + 1 - t.nextFace
  if left = 0 then s.placeSaved tk
  else
    match s.placeFaces (if t.trec.gang then left else 1) tk level with
    | some s => some s
    | none => s.placeSaved tk

/-! ## Pre-emption (R146, R148, 07 R187 to R190) -/

/-- What is done with a victim (R188). -/
inductive PreAct where
  | drain | flush | save
  deriving DecidableEq, Repr

/-- Is a unit of a group parked, or does it wait for a record? -/
def State.groupParked (s : State) (gk : Nat) : Bool :=
  let mine := fun (r : PRec) => decide (s.unitGroup r = some gk)
  s.recs.any (fun p => p.2.used && mine p.2) || (List.range 4).any (fun d => (s.die d).waiting.any mine)

/-- The action for a victim that is not forced; none when the group is no victim (R188). -/
def State.preAct (s : State) (gk : Nat) : Option PreAct :=
  let g := s.group gk
  let t := s.task g.task
  let passed := ((s.coursesOf gk).filter (fun c => (s.course c).st = .retired)).length
  if s.preDrain ≠ 0 && (extKX t.trec.extents + 1) * 3 < passed * 4 then some .drain
  else if t.hdr.idem && !g.startesc && g.wide = 0 && !s.groupParked gk then some .flush
  else if g.slot.isSome then some .save else none

/-- Do it (R188, R190 to R192). -/
def State.preempt (s : State) (gk : Nat) : State :=
  match s.preAct gk with
  | some .drain =>
    let t := s.now + s.preDrain.toNat
    (s.setGroup gk { s.group gk with drain := some t }).post t .drainLimit (.nat gk 0 0)
  | some .flush => s.beginFlush gk
  | some .save => s.beginSave gk
  | none => s

/-- The state with the leases of some groups free, for asking what would fit. -/
def State.vacate (s : State) (gks : List Nat) : State :=
  gks.foldl (fun s gk =>
    let s := s.unlease gk
    s.setGroup gk { s.group gk with saved := true, fresh := false, banks := [] }) s

/-- Could a task's next part be placed if these groups were gone? -/
def State.fitsWithout (s : State) (tk : Nat) (gks : List Nat) : Bool := ((s.vacate gks).placeTask tk).isSome

/-- The level a resident group keeps (R146, 15 R440). -/
def State.groupLevel (s : State) (g : Group) : Nat := max g.level (s.prioNow (s.task g.task))

/-- The groups a task may pre-empt, the first victim first: numerically greater level, on benches it may use; for a launch
that waits for its own face groups, those of its own that wait (R148). -/
def State.victims (s : State) (tk : Nat) : List Nat :=
  let t := s.task tk
  let level := s.effLevel t
  let ok := fun (p : Nat × Group) => !p.2.ended && !p.2.saved && !p.2.saving && p.2.drain.isNone && s.benchNow t p.2.bench
    && (s.preAct p.1).isSome
  let low := s.groups.filter (fun p => ok p && level < s.groupLevel p.2)
  let worse := fun (a b : Nat × Group) =>
    let la := s.groupLevel a.2
    let lb := s.groupLevel b.2
    if la ≠ lb then decide (lb < la) else (s.task b.2.task).dueFirst (s.task a.2.task)
  let own := s.groups.filter (fun p => ok p && p.2.task = tk && !t.trec.gang && t.nextFace ≤ extFX t.trec.extents && s.waitsWide p.1)
  (sortBy worse low ++ own).map (·.1)

/-- The victims a placement needs: the shortest beginning of the list that makes room, without those it can do without, the last first. -/
def State.chooseVictims (s : State) (tk : Nat) (gone vs : List Nat) : List Nat :=
  match (List.range vs.length).find? (fun n => s.fitsWithout tk (gone ++ vs.take (n + 1))) with
  | none => []
  | some n =>
    (vs.take (n + 1)).reverse.foldl (fun keep v =>
      let less := keep.filter (· ≠ v)
      if s.fitsWithout tk (gone ++ less) then less else keep) (vs.take (n + 1))

/-! ## Migration requests (08 R252, R257) -/

/-- Has the kernel of a task a bridge table and demands for both profiles (08 R252, 13 R392)? -/
def Task.bridges (t : Task) : Bool := t.hdr.brcount ≠ 0 && t.hdr.regsL ≠ 0 && t.hdr.regsD ≠ 0

/-- Requests posted for courses of a cell, towards one core kind. -/
def State.requests (s : State) (bench cell : Nat) (dcore : Bool) : Nat :=
  ((s.residents bench cell (!dcore)).filter (fun p => p.2.migReq)).length

/-- The live courses of a group. -/
def State.liveCourses (s : State) (gk : Nat) : Nat := ((s.coursesOf gk).filter (fun c => (s.course c).alive)).length

/-- May a D-to-L request be posted for a course? -/
def State.wantsDtol (s : State) (cid : Nat) (c : Course) : Bool :=
  let g := s.group c.group
  let b := s.bench g.bench
  b.migEn && b.dtol && c.dcore && c.st = .running && !c.migReq && !g.saved && (s.task g.task).bridges
    && s.liveCourses c.group ≤ b.migLive.toNat
    && s.requests g.bench g.cell false < (s.freeSlots g.bench g.cell false).length
    && (s.residents g.bench g.cell true).all (fun p => p.1 = cid || p.2.migReq || p.2.st ≠ .running || p.2.group ≠ c.group || s.rank cid ≤ s.rank p.1)

/-- L-core courses whose move to the D-core would help a placement of a level: in ascending rank. -/
def State.ltodCourses (s : State) (tk : Nat) : List Nat :=
  let t := s.task tk
  let level := s.effLevel t
  let ok := fun (p : Nat × Course) =>
    let g := s.group p.2.group
    let b := s.bench g.bench
    b.migEn && b.ltod && !p.2.dcore && p.2.st = .running && !g.saved && !g.saving && level < s.groupLevel g && s.benchNow t g.bench
      && (s.task g.task).bridges && s.coreFits g.bench g.cell true ((s.task g.task).hdr.demand true)
  sortBy (fun a b => s.rank a ≤ s.rank b) ((s.courses.filter ok).map (·.1))

/-- The state with courses moved to their D-core, for asking what would fit. -/
def State.moved (s : State) (cs : List Nat) : State :=
  cs.foldl (fun s c => s.setCourse c { s.course c with dcore := true, slot := 64 }) s

/-- MIGRATION_REQUEST_POST (.nat course ltod 0): the request stays until the course migrates or retires, or until parking,
saving or rollback withdraws it. -/
def execMigrationRequestPost (s : State) : Out :=
  match s.arg with
  | .nat cid l _ =>
    match tget s.courses cid with
    | none => .next s
    | some c =>
      let g := s.group c.group
      let b := s.bench g.bench
      let may := c.st = .running && !c.migReq && b.migEn && (s.task g.task).bridges && !g.saved
        && (if l = 0 then c.dcore && b.dtol && s.requests g.bench g.cell false < (s.freeSlots g.bench g.cell false).length
            else !c.dcore && b.ltod && s.requests g.bench g.cell true < (s.freeSlots g.bench g.cell true).length)
      .next (if may then s.setCourse cid { c with migReq := true } else s)
  | _ => .next s

/-- LTOD_WAIT_LIMIT (.nat task 0 0): the placement has waited for an L-to-D migration long enough; R146 applies (R257). -/
def execLtodWaitLimit (s : State) : Out :=
  match s.arg with
  | .nat tk _ _ =>
    match tget s.tasks tk with
    | none => .next s
    | some t => .next (if t.ltod.isSome then s.setTask tk { t with ltod := some 0 } else s)
  | _ => .next s

/-- Post the D-to-L requests that are due. -/
def State.watchMigr (s : State) : State :=
  match s.courses.find? (fun p => s.wantsDtol p.1 p.2) with
  | some p => s.postOnce (s.now + 1) .migrationRequestPost (.nat p.1 0 0)
  | none => s

/-! ## DISPATCH_SELECT (R144 to R151) -/

/-- The dispatcher looks at a ready task for the first time: its header is read; a task that can never run completes at once. -/
def State.takeIn (s : State) (tk : Nat) : State × Bool :=
  let t := s.task tk
  match s.readHeader t with
  | none => (s.endTask tk 3, false)
  | some h =>
    if !goodHeader t.trec h then (s.endTask tk 3, false)
    else if s.unplaceable t h then (s.endTask tk 4, false)
    else (s.setTask tk { t with hdr := h, interlock := h.interlock }, true)

/-- A part of a task has been placed: its first is its dispatch, and saved groups placed again are dispatched as a task is (R145,
R146). [DEDUCED, log 53] -/
def State.dispatched (s : State) (tk : Nat) (t : Task) (level : Nat) : State :=
  let s := s.setTask tk { s.task tk with ltod := none }
  if t.st ≠ .ready then (if (s.task tk).nextFace = t.nextFace then s.ageQueues t.home t level else s)
  else
    let s := s.setTask tk { s.task tk with st := .placed }
    ((s.ageQueues t.home t level).tellRecord t 0 0).trace t.vd .dispatch 0 t.trec.entry 0

/-- Try the ranked tasks in turn. The answer says whether something was done. -/
def State.selectFrom : List Nat → State → State × Bool
  | [], s => (s, false)
  | tk :: r, s =>
    let t := s.task tk
    let a : State × Bool := if t.st = .ready then s.takeIn tk else (s, true)
    if !a.2 then (a.1, true)
    else
      let s := a.1
      let level := s.effLevel t
      match s.placeTask tk with
      | some s => (s.dispatched tk t level, true)
      | none =>
        let gone := (s.groups.filter (fun p => (p.2.saving || p.2.drain.isSome) && !p.2.ended && !p.2.saved)).map (·.1)
        if !gone.isEmpty && s.fitsWithout tk gone then (s, false)
        else
          match t.ltod with
          | some (_ + 1) => s.selectFrom r
          | w =>
            let ls := if w.isNone && !t.trec.dcore then s.ltodCourses tk else []
            match (List.range ls.length).find? (fun n => ((s.moved (ls.take (n + 1))).placeTask tk).isSome) with
            | some n =>
              let lim := s.now + s.preDrain.toNat
              let s := (ls.take (n + 1)).foldl (fun s c => s.postOnce (s.now + 1) .migrationRequestPost (.nat c 1 0)) s
              ((s.setTask tk { s.task tk with ltod := some (lim + 1) }).post lim .ltodWaitLimit (.nat tk 0 0), true)
            | none =>
              match s.chooseVictims tk gone (s.victims tk) with
              | [] => s.selectFrom r
              | vs => (vs.foldl (fun s v => s.preempt v) s, true)

/-- DISPATCH_SELECT (.nat bench 0 0). A selection that finds nothing to do comes again within 64 cycles. -/
def execDispatchSelect (s : State) : Out :=
  match s.arg with
  | .nat b _ _ =>
    if !s.works then .next s
    else
      let s := s.ageReached b
      let r := s.selectFrom (s.ranked b)
      .next (if r.2 then r.1 else if (r.1.ranked b).isEmpty then r.1 else r.1.postOnce (s.now + 64) .dispatchSelect (.nat b 0 0))
  | _ => .next s

/-- Dispatchers that have something to place select. -/
def State.watchReady (s : State) : State :=
  ((s.tasks.filter (fun p => s.toPlace p.1 p.2)).map (·.2.home)).eraseDups.foldl (fun s b =>
    s.postOnce (s.now + 1) .dispatchSelect (.nat b 0 0)) s

/-! ## The active set of a D-core (08 R230) -/

/-- Can a split of a course issue its next instruction: its schedule conditions hold, a WAITF finds its flags low enough, its code is not on its
way to the ATLB, and it has not had to wait in the last 16 cycles? [DESIGN CHOICE, log 111] -/
def State.splitAble (s : State) (cid : Nat) (q : Nat × Split) : Bool :=
  q.2.wait = .run && (q.2.tried ≤ q.2.last || q.2.tried + 32 < s.now) && (match s.fetchAt cid q.2.pc.toNat with
    | .bad _ _ => true
    | .wait g => !s.filling cid g
    | .instr (.waitf x) => s.ready cid q.1 (.waitf x) && waitfMet (s.course cid) q.1 x
    | .instr i => s.ready cid q.1 i)

/-- Is a course able to issue, once it is active? -/
def State.ableToIssue (s : State) (cid : Nat) : Bool :=
  s.canIssue { s.course cid with active := true } && (s.course cid).splits.any (fun q => s.splitAble cid q)

/-- May an active course be exchanged: it does not run, its splits have waited on flags or on memory for more than 16 cycles (one whose
latest attempt had to wait among them), or it has been active for 4,096 (R230)? -/
def State.mayYield (s : State) (cid : Nat) (c : Course) : Bool :=
  c.st ≠ .running || c.since + 4096 ≤ s.now ||
    c.splits.all (fun q => q.2.last + 16 < s.now && (q.2.last < q.2.tried || !s.splitAble cid q))

/-- COURSE_EXCHANGE (.nat active pending 0): the two courses change places; no other state changes. -/
def execCourseExchange (s : State) : Out :=
  match s.arg with
  | .nat a p _ =>
    let ca := s.course a
    let cp := s.course p
    let ga := s.group ca.group
    let gp := s.group cp.group
    if ca.active && !cp.active && ca.dcore && cp.dcore && cp.alive && ga.bench = gp.bench && ga.cell = gp.cell then
      .next ((s.setCourse a { ca with active := false, since := s.now }).setCourse p { cp with active := true, since := s.now })
    else .next s
  | _ => .next s

/-- Fill the active sets of D-cores, and post the exchanges that are due: each active course that may yield is exchanged with the
pending course that has waited longest and is able to issue, one exchange at a time for each of them. -/
def State.watchActive (s : State) : State :=
  let ds := s.courses.filter (fun p => p.2.alive && p.2.dcore && !(s.group p.2.group).saved)
  let pend := ds.filter (fun p => !p.2.active)
  let pend := sortBy (fun (a b : Nat × Course) => a.2.since ≤ b.2.since) pend
  pend.foldl (fun s p =>
    let g := s.group p.2.group
    let res := (s.residents g.bench g.cell true).filter (fun q => q.2.active)
    let moving := fun (n : Nat) => s.agenda.any (fun d => d.ev.i = .courseExchange && (match d.ev.arg with
      | .nat a b _ => a = n || b = n
      | _ => false))
    if res.length < 8 then s.setCourse p.1 { s.course p.1 with active := true, since := s.now }
    else if moving p.1 || !s.ableToIssue p.1 then s
    else
      match res.find? (fun q => !moving q.1 && s.mayYield q.1 q.2) with
      | some q => s.postOnce (s.now + 2) .courseExchange (.nat q.1 p.1 0)
      | none => s) s

end Sys2Proof.Machine
end

