-- ==== Sys2Proof/Machine/Parked.lean ====
section
/-! DEFINITION. Parked records as software reaches them, and the queue instructions: ENQ, QSTAT, PKRD, PKWR, PKVGET, PKVSET,
PKACT (06 R166 to R176, 18 R519 to R525). -/
namespace Sys2Proof.Machine

/-! ## A record's bytes (06 R166 to R169) -/

/-- STATE of a record (R169): registers in leased rows, or in an image at its VA. -/
def State.recState (s : State) (k : Nat) : Word :=
  let r := s.record k
  if r.kind ≠ 0 then 0
  else
    let gk := (s.course r.uA).group
    if (s.group gk).saved then BitVec.ofNat 64 (2 ^ 63 + s.imageVA gk % 2 ^ 57) else BitVec.ofNat 64 (2 ^ 62)

/-- The bench whose clock a record's deadline counts on. -/
def PRec.bench (r : PRec) : Nat := bits r.unit.toNat 17 12

/-- The 256 bytes of a record (R166). -/
def State.recBytes (s : State) (k : Nat) : List Byte :=
  let r := s.record k
  let status := r.stage + (if r.childLost then 256 else 0) + (if r.unres then 512 else 0)
  let flags := (if r.prof then 1 else 0) + (if r.bv then 2 else 0) + (if r.late then 4 else 0)
  let dl := (match r.deadline with
    | some t => s.clockAt r.bench t
    | none => 2 ^ 48) + (if r.passed then 2 ^ 49 else 0)
  leBytes 8 (s.recHandle k).toNat ++ leBytes 1 r.kind ++ leBytes 1 r.cause ++ leBytes 1 r.event ++ leBytes 1 r.nest
    ++ leBytes 2 status ++ leBytes 1 (min 255 r.escCount) ++ leBytes 1 flags ++ leBytes 8 r.unit.toNat ++ leBytes 8 r.addr.toNat
    ++ leBytes 8 r.pc.toNat ++ leBytes 8 r.nextpc.toNat ++ leBytes 8 (if r.kind = 0 || r.kind = 1 then r.bpc.toNat else 0)
    ++ leBytes 2 (if r.kind = 0 || r.kind = 1 then r.bid else 0) ++ leBytes 1 r.split ++ leBytes 1 0
    ++ leBytes 4 r.mask.toNat ++ leBytes 8 dl ++ leBytes 8 r.taskq.toNat ++ leBytes 4 r.taskidx ++ leBytes 4 0
    ++ leBytes 8 (s.recState k).toNat ++ leBytes 8 r.parent.toNat ++ leBytes 8 r.target.toNat ++ leBytes 8 r.user.toNat
    ++ leBytes 8 r.cx.toNat ++ (List.range 16).flatMap (fun i => leBytes 8 (r.esclog.getD i 0).toNat)

/-! ## PKACT (R174, R176) -/

/-- Post the evaluation of every demand in a cell. -/
def State.pokeDemands (s : State) (bench cell : Nat) : State :=
  (s.groups.filter (fun p => p.2.bench = bench && p.2.cell = cell && !p.2.ended && !p.2.saved && !p.2.demands.isEmpty)).foldl
    (fun s p => s.postOnce s.now .nodeEvaluate (.nat p.1 0 0)) s

/-- Bytes of the instruction at an address: by LEN of its word 0, one word when that cannot be read (13 R374). [DEDUCED, log 61; DEDUCED, log 62] -/
def State.lengthAt (s : State) (cid a : Nat) : Nat :=
  match s.codeWord cid a with
  | .ok w => 4 * lenWords (w.extractLsb' 0 2)
  | .error _ => 4

/-- Set the pc of the split that faulted; when the split has ended meanwhile, nothing changes. -/
def Course.setPc (c : Course) (w : Nat) (pc : Word) : Course :=
  { c with splits := tmod c.splits w (fun sp => { sp with pc }) }

/-- Late faults that other instructions of a course have met meanwhile are raised (R161). [DEDUCED, log 97] -/
def State.againLate (s : State) (cid : Nat) : State :=
  ((s.course cid).pends.filter (·.late.isSome)).foldl (fun s p => s.postOnce s.now .lateFault (.course cid p.id 0 0)) s

/-- The course of a record runs again, with a new list of pending instructions, and its record is freed. [DEDUCED, log 62] -/
def State.continueCourse (s : State) (k : Nat) (f : Course → Course) : State :=
  let r := s.record k
  let s := s.setCourse r.uA (f (s.course r.uA))
  s.unparkAt k none |>.againLate r.uA

/-- The split that faulted goes on past a REJOIN that it waits at, unmerged, or past an issue fault's instruction (08 R242). -/
def Course.passAt (c : Course) (w : Nat) (pc : Word) : Course :=
  { c with splits := tmod c.splits w (fun sp => { sp with pc, wait := .run }) }

/-- The MODID of a handle. -/
def handleMod (h : Word) : Nat := bits h.toNat 63 52

/-- Does a handle name a queue or a record of another module? -/
def State.isFar (s : State) (h : Word) : Bool := handleMod h ≠ s.fab.modid.toNat

/-- Send an instruction's request by the module route table, with the tag of a retry where there is one; the requester die is that of the bench
on which the unit stands now, also for a retry (02 R62). [DESIGN CHOICE, log 109] -/
def State.sendByHandle (s : State) (cid pend : Nat) (h : Word) (op : FabOp) (tag : Option Nat) (retry : Bool) : Option State :=
  let g := s.group (s.course cid).group
  (s.moduleRoute (handleMod h)).map (fun r =>
    s.request (dieOf g.bench) r (s.task g.task).vd op tag retry (fun o => { o with course := some (cid, pend) }))

/-- Send a far request again, or find its route dead. A request whose outcome is unknown stays so: it may have been performed
(02 R62, R63). [DEDUCED, log 24] -/
def State.resend (s : State) (cid : Nat) (p : Pend) (h : Word) (op : FabOp) (again : Bool) (cx : Word) : State :=
  match s.sendByHandle cid p.id h op (if again then some (bits cx.toNat 19 0) else none) again with
  | some s => s
  | none => s.meetLate cid p { cause := if again then 6 else 0x15, mask := p.mask, cx := if again then cx else 0 }

/-- The fabric form of a state access (R525). -/
def stateFab (h : Word) (op : StateOp) : FabOp :=
  match op with
  | .pkrd o => .pkrd h o
  | .pkwr o v => .pkwr h o v
  | .pkvget f r l => .pkvget h f r l
  | .pkvset f r l vs sv => .pkvset h f r l vs sv
  | .pkact a => .pkact h a

/-- What RESUME leaves of a late-faulted access: the lanes outside MASK that wait and have met nothing go on, the flag's count released (R176,
01 R32). [DEDUCED, log 61] -/
def State.leftLanes (s : State) (cid : Nat) (p : Pend) (mask : LaneMask) : Option Pend :=
  match p.act with
  | .access a =>
    let its := a.items.filter (fun it => !mask.getLsbD it.lane && (s.itemMiss cid a.op it a.size).isNone)
    if its.isEmpty then none else some { p with late := none, flag := none, act := .access { a with items := its } }
  | _ => none

/-- An action by handle is performed again: to another module it leaves at once, though its course stands in an image (02 R62, R176). -/
def State.retryHandle (s : State) (cid : Nat) (p : Pend) (h : Word) (op : FabOp) (again : Bool) (cx : Word) : State :=
  let s := s.setPend cid { p with late := none }
  if s.isFar h then s.resend cid { p with late := none } h op again cx else s.post s.now .instructionComplete (.course cid p.id 0 0)

/-- Lanes of an access still to be performed whose cause was not the one that parked it keep their place; the others too
are performed again (R176): the items of MASK, and those that met another cause. A request that goes out again carries the die on which the
unit stands now, also where its group has been restored on another die (02 R62). [DEDUCED, log 61; DEDUCED, log 97; DESIGN CHOICE, log 109] -/
def State.retryPend (s : State) (k : Nat) (p : Pend) : State :=
  let r := s.record k
  let cid := r.uA
  match p.act with
  | .access _ =>
    let s := s.setPend cid { p with late := none }
    s.post s.now .instructionComplete (.course cid p.id 0 0)
  | .remote route op dest t acq =>
    let fresh := match readInstr (s.codeWord cid) p.pc.toNat with
      | .instr (.ratomXl _ q) | .instr (.pldr _ q) | .instr (.pstr _ q) => q
      | _ => route
    let s := s.setPend cid { p with late := none, act := .remote fresh op dest t acq }
    if routeKind fresh ≠ 1 then s.post s.now .instructionComplete (.course cid p.id 0 0)
    else
      let again := r.cause = 6
      if s.routeDead fresh then
        s.meetLate cid { p with late := none, act := .remote fresh op dest t acq }
          { cause := if again then 6 else 0x15, addr := r.addr, mask := r.mask, cx := if again then r.cx else 0 }
      else
      let g := s.group (s.course cid).group
      s.request (dieOf g.bench) fresh (s.task g.task).vd op (if again then some (bits r.cx.toNat 19 0) else none) again
        (fun o => { o with course := some (cid, p.id) })
  | .enq h rec_ _ => s.retryHandle cid p h (.enq h rec_) (r.cause = 6) r.cx
  | .qstat h sel _ => s.retryHandle cid p h (.qstat h sel) false 0
  | .state h op _ _ _ => s.retryHandle cid p h (stateFab h op) (r.cause = 6) r.cx
  | .array _ => (s.setPend cid { p with late := none }).post s.now .instructionComplete (.course cid p.id 0 0)
  | _ =>
    let c := s.course cid
    match tget c.splits r.split with
    | none => s.setCourse cid { c with pends := c.pends.filter (fun q => q.id ≠ p.id) }
    | some sp =>
      s.setCourse cid { c with splits := tset c.splits r.split { sp with pc := r.pc, mask := r.mask &&& c.live, wait := .run
                                                                         redo := some (sp.pc, sp.mask, p.id, sp.wait) }
                               pends := c.pends.map (fun q => if q.id = p.id then { q with late := none } else q) }

/-- Add a grant of issue slots to a task's budget (R176). -/
def State.grant (s : State) (tk n : Nat) : State :=
  let t := s.task tk
  s.setTask tk { t with budget := t.budget.map (· + n) }

/-- PKACT on a course: 0 RESUME, 1 RETRY, 2 REDIRECT, 3 KILL. -/
def State.actCourse (s : State) (k act : Nat) : State × Nat :=
  let r := s.record k
  let cid := r.uA
  let pend := match r.pend with
    | some n => (s.course cid).pends.find? (fun p => p.id = n)
    | none => none
  let drop := fun (c : Course) => match r.pend with
    | some n => { c with pends := c.pends.filter (fun p => p.id ≠ n) }
    | none => c
  match act with
  | 3 => (s.killUnit k 1, 0)
  | 2 =>
    if r.target.toNat % 4 ≠ 0 then (s, 3)
    else (s.continueCourse k (fun c => (drop c).passAt r.split r.target), 0)
  | 0 =>
    if r.cause = 0x0d then ((s.grant r.task (bits r.cx.toNat 39 0)).unparkAt k none, 0)
    else if r.late then
      match pend.bind (fun p => s.leftLanes cid p r.mask) with
      | some p => ((((s.setPend cid p).post s.now .instructionComplete (.course cid p.id 0 0)).unparkAt k none).againLate cid, 0)
      | none => (s.continueCourse k drop, 0)
    else
      let pc := r.pc + BitVec.ofNat 64 (s.lengthAt cid r.pc.toNat)
      (s.continueCourse k (fun c => c.passAt r.split pc), 0)
  | _ =>
    if r.cause = 0x0d then ((s.grant r.task (bits r.cx.toNat 39 0)).unparkAt k none, 0)
    else
      match pend with
      | none => (s.continueCourse k (fun c => c.passAt r.split r.pc), 0)
      | some p => (((s.retryPend k p).unparkAt k none).againLate cid, 0)

/-- PKACT on a tile node: RESUME takes its whole destination as done (11 R314). [DEDUCED, log 104] -/
def State.actNode (s : State) (k act : Nat) : State × Nat :=
  let r := s.record k
  let g := s.group r.uA
  match act with
  | 0 =>
    let s := s.setGroup r.uA { g with nodes := tmod g.nodes r.uB (fun n => { n with st := .pending, done := some n.d.whole, redo := none }) }
    ((s.pokeDemands g.bench g.cell).freeRec k, 0)
  | 1 =>
    let s := s.setGroup r.uA { g with nodes := tmod g.nodes r.uB (fun n => { n with st := .pending }) }
    (((s.pokeDemands g.bench g.cell).postOnce s.now .nodeEvaluate (.nat r.uA 0 0)).freeRec k, 0)
  | 3 => (s.killUnit k 1, 0)
  | _ => (s, 2)

/-- PKACT on a copy segment. -/
def State.actSeg (s : State) (k act : Nat) : State × Nat :=
  let r := s.record k
  let c := s.copy r.uA
  match c.segs.find? (fun x => x.id = r.uB) with
  | none => (s.freeRec k, 0)
  | some x =>
    let again := fun (a : Word) =>
      let s := s.setCopy r.uA (c.setSeg { x with parked := false, sent := false, addr := a })
      (s.post s.now .copySegmentComplete (.nat r.uA x.id 0)).freeRec k
    match act with
    | 0 => ((s.segDone r.uA { x with parked := false } (if c.mc then c.recv else [c.group])).freeRec k, 0)
    | 1 => (again x.addr, 0)
    | 2 => if r.target.toNat % 4 ≠ 0 then (s, 3) else (again r.addr, 0)
    | _ => (s.killUnit k 1, 0)

/-- PKACT on a queue (04 R115). [DEDUCED, log 51] -/
def State.actQueue (s : State) (k act : Nat) : State × Nat :=
  let r := s.record k
  match act with
  | 2 => (s, 2)
  | 3 => if s.queueNamed r.uA then (s, 2) else ((s.freeRec k).drainQueue r.uA true, 0)
  | a =>
    let s := s.freeRec k
    if (s.queue r.uA).st = .error then (s.resetQueue r.uA (a = 0), 0) else (s, 0)

/-- PKACT on a cell group: RETRY rolls it back to its last barrier (R184). -/
def State.actGroup (s : State) (k act : Nat) : State × Nat :=
  let r := s.record k
  match act with
  | 1 => ((s.freeRec k).retryGroup r.uA, 0)
  | 3 => (s.killUnit k 1, 0)
  | _ => (s, 2)

/-- PKACT on a record that the handle names. -/
def State.actRec (s : State) (k act : Nat) : State × Nat :=
  match (s.record k).kind with
  | 0 => s.actCourse k act
  | 1 => s.actNode k act
  | 2 => s.actSeg k act
  | 3 => s.actQueue k act
  | _ => s.actGroup k act

/-! ## State accesses (R174, R522 to R524) -/

/-- The status of a register access: NO_STATE, BAD_FIELD, or 0 (R524). -/
def State.regStatus (s : State) (k file rn : Nat) : Nat :=
  let r := s.record k
  let c := s.course r.uA
  let t := s.task (s.taskOf r.uA)
  if r.kind ≠ 0 then 4
  else
    match file with
    | 0 => if t.hdr.demand c.prof ≤ rn || 240 ≤ rn || (c.prof && 160 ≤ rn) then 3 else 0
    | 1 => if 128 ≤ rn || (64 ≤ rn && !t.hdr.lw16) then 3 else 0
    | 2 => if rn = 0 || 8 ≤ rn then 3 else 0
    | _ => if 4 ≤ rn || c.prof || !t.interlock then 3 else 0

/-- The outcome of a state access: status, and the value it answers. -/
structure StateRes where
  status : Nat
  value  : Word := 0
  lanes  : List (Nat × Half) := []
  deriving DecidableEq, Repr

/-- Perform a state access at the record's die, for a virtual device of this module (R174). -/
def State.stateAccess (s : State) (vdn : Nat) (h : Word) (op : StateOp) : State × StateRes :=
  match s.findRec h vdn with
  | none => (s, { status := 1 })
  | some k =>
    let r := s.record k
    match op with
    | .pkrd off => (s, { status := 0, value := BitVec.ofNat 64 (fieldB (s.recBytes k) off 8) })
    | .pkwr off v =>
      (match off with
       | 24 => (s.setRecord k { r with addr := v }, { status := 0 })
       | 104 => (s.setRecord k { r with target := v }, { status := 0 })
       | 112 => (s.setRecord k { r with user := v }, { status := 0 })
       | 120 => if r.cause = 0x0d && v.toNat < 2 ^ 40 then (s.setRecord k { r with cx := v }, { status := 0 }) else (s, { status := 3 })
       | _ => (s, { status := 3 }))
    | .pkvget file rn lanes =>
      let st := s.regStatus k file rn
      let c := s.course r.uA
      if st ≠ 0 then (s, { status := st })
      else
        (match file with
         | 0 => (s, { status := 0, lanes := (lanesOf lanes).map (fun l => (l, tgetD c.v (rn * 32 + l) 0)) })
         | 1 => (s, { status := 0, value := tgetD c.s rn 0 })
         | 2 => (s, { status := 0, value := (tgetD c.k rn 0).setWidth 64 })
         | _ => (s, { status := 0, lanes := (lanesOf lanes).map (fun l => (l, tgetD c.b (rn * 32 + l) 0)) }))
    | .pkvset file rn lanes vals sval =>
      let st := s.regStatus k file rn
      if st ≠ 0 then (s, { status := st })
      else
        let get := fun (l : Nat) => ((vals.find? (fun p => p.1 = l)).map (·.2)).getD 0
        let ws : List RegWrite := match file with
          | 0 => (lanesOf lanes).map (fun l => .v rn l (get l))
          | 1 => [.s rn sval]
          | 2 => [.k rn 0xffffffff (sval.setWidth 32)]
          | _ => (lanesOf lanes).map (fun l => .b rn l (get l))
        (s.setCourse r.uA ((s.course r.uA).landAll ws), { status := 0 })
    | .pkact a =>
      let q := s.actRec k a
      (q.1, { status := q.2 })

/-- Write the answer of a state access: st, and when OK the value (R522). -/
def State.landState (s : State) (cid : Nat) (p : Pend) (op : StateOp) (st sd vl : Nat) (r : StateRes) : State :=
  let vals : List RegWrite :=
    if r.status ≠ 0 then []
    else
      match op with
      | .pkrd _ => [.s sd r.value]
      | .pkvget file _ _ => if file = 0 || file = 3 then r.lanes.map (fun x => writeHalf vl x.1 x.2) else [.s sd r.value]
      | _ => []
  s.landSoon cid p (vals ++ [.s st (BitVec.ofNat 64 r.status)])

/-! ## ENQ and QSTAT at their home (18 R520, R521) -/

/-- Perform an ENQ of a course of this module, or of another module, for a virtual device: what sd reads. -/
def State.enqHere (s : State) (vdn : Nat) (writer : Option Nat) (h : Word) (rec_ : List Byte) : State × Word :=
  match s.findQueue h with
  | none => (s, 1)
  | some qk =>
    let q := s.queue qk
    if q.vd ≠ vdn then (s, 1)
    else if q.kind ≠ 0 then (s, 2)
    else if q.st ≠ .active || !q.inited then (s, 3)
    else if (q.tail + 2 ^ 32 - q.head) % 2 ^ 32 = 2 ^ q.size then (s, 4)
    else
      let at_ := q.base.toNat + 128 * (q.tail % 2 ^ q.size)
      match s.writeFail q.vd at_ 128, s.writeFail q.vd q.tailva.toNat 8 with
      | some e, _ => (s.queueError qk e, 3)
      | none, some e => (s.queueError qk e, 3)
      | none, none =>
        let t := (q.tail + 1) % 2 ^ 32
        let s := s.pokeVA q.vd writer 4 at_ rec_
        let s := s.pokeVA q.vd writer 4 q.tailva.toNat (leBytes 8 t)
        let s := s.setQueue qk { q with tail := t }
        (s, BitVec.ofNat 64 (q.tail * 2 ^ 32))

/-- The code of a queue's state (04 R109). -/
def QState.code (q : QState) : Nat :=
  match q with
  | .active => 0
  | .error => 1
  | .draining => 2
  | .stopped => 3

/-- Read a queue for QSTAT (R521). -/
def State.qstatHere (s : State) (vdn : Nat) (h : Word) (sel : Nat) : Word :=
  match s.findQueue h with
  | none => if sel = 0 then 0 else 128
  | some qk =>
    let q := s.queue qk
    if q.vd ≠ vdn then (if sel = 0 then 0 else 128)
    else if sel = 0 then
      if q.kind = 2 then BitVec.ofNat 64 q.seq else BitVec.ofNat 64 (q.head * 2 ^ 32 + q.tail)
    else BitVec.ofNat 64 (q.size * 256 + q.prio * 16 + q.kind * 4 + q.st.code)

/-! ## The instructions -/

/-- Is a request by handle dead at issue (02 R51, R54)? -/
def State.handleDead (s : State) (h : Word) : Bool := s.isFar h && (s.moduleRoute (handleMod h)).isNone

/-- The escape of an ENQ (06 R183). -/
def enqEscape (h : Word) : Nat := (h.toNat / 2 ^ 34) * 2 ^ 27

/-- Issue an action by handle: to another module it leaves at once, unless an earlier .ACQ holds it back (10 R296). [DEDUCED, log 23] -/
def Ctx.issueByHandle (k : Ctx) (h : Word) (act : Action) (op : FabOp) : State :=
  let far := k.s.isFar h && k.mayLeave
  let r := k.issueAt k.next [] act far k.k0
  if far then (r.1.sendByHandle k.cid r.2 h op none false).getD r.1 else r.1

/-- ENQ (R520). -/
def execEnq (x : XFields) (s : State) : Out :=
  withIssue (.enq x) s (fun k =>
    let h := k.srcS x.sa
    match k.readOperand (x.ext.getLsbD 0) (k.srcS x.sb) 128 with
    | .fault s => .next s
    | .late f => .next (k.issueLate f)
    | .bytes s l =>
      if s.handleDead h then .next (k.fault 0x15 0 0 0 k.k0)
      else
        .next ({ k with s, c := s.course k.cid }.releasedIf (x.ext.getLsbD 1) (fun k =>
          (if k.s.isFar h then { k with s := k.s.escape k.c.group 2 (enqEscape h) } else k).issueByHandle h (.enq h l (k.skey x.vd.toNat)) (.enq h l))))

/-- QSTAT (R521). -/
def execQstat (x : XFields) (s : State) : Out :=
  withIssue (.qstat x) s (fun k =>
    let h := k.srcS x.sa
    if k.s.handleDead h then .next (k.fault 0x15 0 0 0 k.k0)
    else
      let sel := (x.ext.extractLsb' 0 1).toNat
      .next (k.issueByHandle h (.qstat h sel (k.skey x.vd.toNat)) (.qstat h sel)))

/-- SH, SV, VL and RN of word 1 (R522), and st. -/
def Ctx.sh (k : Ctx) : Word := k.c.readS k.il k.free (k.skey (k.x.w1.extractLsb' 0 6).toNat)
def Ctx.sv (k : Ctx) : Nat := k.skey (k.x.w1.extractLsb' 8 6).toNat
def Ctx.vl (k : Ctx) : BitVec 8 := k.x.w1.extractLsb' 16 8
def Ctx.rn (k : Ctx) : Nat := (k.x.w1.extractLsb' 24 8).toNat
def Ctx.st (k : Ctx) : Nat := k.skey k.x.vd.toNat

/-- Issue a state access. -/
def Ctx.issueState (k : Ctx) (op : StateOp) : Out :=
  let h := k.sh
  if k.s.handleDead h then .next (k.fault 0x15 0 0 0 k.k0)
  else .next (k.issueByHandle h (.state h op k.st k.sv k.vl.toNat) (stateFab h op))

/-- OFF of PKRD and PKWR in bytes. -/
def Ctx.recOff (k : Ctx) : Nat := (k.x.ext.extractLsb' 0 5).toNat * 8
/-- FILE of PKVGET and PKVSET, and ACT of PKACT. -/
def Ctx.file (k : Ctx) : Nat := (k.x.ext.extractLsb' 0 2).toNat

/-- PKRD. -/
def execPkrd (x : XFields) (s : State) : Out := withIssue (.pkrd x) s (fun k => k.issueState (.pkrd k.recOff))
/-- PKWR. -/
def execPkwr (x : XFields) (s : State) : Out :=
  withIssue (.pkwr x) s (fun k => k.issueState (.pkwr k.recOff (k.c.readS k.il k.free k.sv)))
/-- PKVGET. -/
def execPkvget (x : XFields) (s : State) : Out := withIssue (.pkvget x) s (fun k => k.issueState (.pkvget k.file k.rn k.k0))
/-- PKVSET. -/
def execPkvset (x : XFields) (s : State) : Out :=
  withIssue (.pkvset x) s (fun k =>
    let vec := k.file = 0 || k.file = 3
    let vals := if vec then (lanesOf k.k0).map (fun l => (l, k.srcV k.vl l)) else []
    let sv := if vec then 0 else k.c.readS k.il k.free k.sv
    k.issueState (.pkvset k.file k.rn k.k0 vals sv))
/-- PKACT. -/
def execPkact (x : XFields) (s : State) : Out := withIssue (.pkact x) s (fun k => k.issueState (.pkact k.file))

end Sys2Proof.Machine
end

