-- ==== Sys2Proof/Machine/Complete.lean ====
section
/-! DEFINITION. What completes after issue: INSTRUCTION_COMPLETE and the events of waits, translations, evictions, late faults,
parked units, retirement and migration of courses (06 R161, R162, R175, R179, 08 R230 to R251, 09 R261, R262, R272, 17 R480, R482). -/
namespace Sys2Proof.Machine

/-! ## Banks reached by route literal (17 R474) -/

/-- May a virtual device reach a byte of a cell's banks: the bank is in scratchpad or FIFO mode, and leased to a group of the
device? -/
def State.bankMine (s : State) (vdn bench cell off : Nat) : Bool :=
  let b := s.bankOf bench cell (off / 131072)
  (b.mode = .spad || b.mode = .fifo) && (match b.owner with
    | some g => decide ((s.task (s.group g).task).vd = vdn)
    | none => false)

/-- An access by route literal: the lanes that met PROT or uncorrectable data, and the others, none while one has to wait for a granule or a
FIFO. -/
structure BankRes where
  bad  : List (Nat × Nat) := []
  /-- lanes that met uncorrectable data (09 R267) -/
  ue   : List (Nat × Nat) := []
  got  : List (Nat × Word) := []
  deriving DecidableEq, Repr

/-- The bank of a cell offset as `fifoMove` names it. -/
def bankKey (bench cell off : Nat) : Nat × Nat := (cellKey bench cell, off / 131072)

/-- Read the lanes of PLDR, or pop a FIFO. -/
def State.bankLoad (s : State) (vdn bench cell size : Nat) (offs : List (Nat × Nat)) : Option (State × BankRes) :=
  let bad := offs.filter (fun p => !s.bankMine vdn bench cell p.2)
  let ok := offs.filter (fun p => s.bankMine vdn bench cell p.2)
  let wait := ok.any (fun p => (tget (s.cell (cellKey bench cell)).owners (p.2 / 4096)).isSome)
  if wait then none
  else
    ok.foldl (fun (o : Option (State × BankRes)) p => match o with
      | none => none
      | some (s, r) =>
        let b := s.bankOf bench cell (p.2 / 131072)
        if b.mode = .fifo then
          let n := fifoWords size
          if b.fifo.length < n then none
          else
            let t := s.popFifo (bankKey bench cell p.2) n
            if s.fifoBad (bankKey bench cell p.2) 0 n then some (t, { r with ue := r.ue ++ [p] })
            else some (t, { r with got := r.got ++ [(p.1, BitVec.ofNat 64 (leNat ((b.fifo.take n).flatMap (fun w => leBytes 4 w.toNat)) % 2 ^ (8 * size)))] })
        else if s.sramBad bench cell p.2 size then some (s, { r with ue := r.ue ++ [p] })
        else some (s, { r with got := r.got ++ [(p.1, BitVec.ofNat 64 (leNat (Memory.readN s.sram (sramAddr bench cell p.2) size)))] }))
      (some (s, { bad }))

/-- Force the nodes that the lanes of PSTR overlap in the window of the group that leases their bank (11 R318); says whether all are done. -/
def State.bankForce (s : State) (vdn bench cell size : Nat) (vals : List (Nat × Nat × Word)) (a : Asker) : State × Bool :=
  (vals.filter (fun p => s.bankMine vdn bench cell p.2.1)).foldl (fun (r : State × Bool) p =>
    match r.1.bankRange bench cell p.2.1 size with
    | none => r
    | some x =>
      let f := r.1.forceRanges bench cell [x] a
      (f.1, r.2 && f.2)) (s, true)

/-- Write the lanes of PSTR in ascending lane order, or push a FIFO. -/
def State.bankStore (s : State) (vdn bench cell size : Nat) (vals : List (Nat × Nat × Word)) : Option (State × BankRes) :=
  let bad := (vals.filter (fun p => !s.bankMine vdn bench cell p.2.1)).map (fun p => (p.1, p.2.1))
  let ok := vals.filter (fun p => s.bankMine vdn bench cell p.2.1)
  let wait := ok.any (fun p => (tget (s.cell (cellKey bench cell)).owners (p.2.1 / 4096)).isSome)
  if wait then none
  else
    (ok.foldl (fun (o : Option State) p => match o with
      | none => none
      | some s =>
        let b := s.bankOf bench cell (p.2.1 / 131072)
        if b.mode = .fifo then
          let ws := wordsLE (fifoWords size) (leBytes (4 * fifoWords size) p.2.2.toNat)
          if 32768 < b.fifo.length + ws.length then none else some (s.setFifo (bankKey bench cell p.2.1) (b.fifo ++ ws))
        else some { s with sram := Memory.writeL s.sram (sramAddr bench cell p.2.1) (leBytes size p.2.2.toNat) })
      (some s)).map (fun s => (s, { bad }))

/-- The register writes of values that a request answers. -/
def gotWrites (dest : Dest) (type : Nat) (got : List (Nat × Word)) : List RegWrite :=
  got.flatMap (fun g => match dest with
    | .v r false => writeLane r type g.1 g.2.toNat
    | .s r => [.s r (fillScalar type g.2.toNat)]
    | _ => [])

/-- What is left of a bank access when only some lanes met PROT. -/
def FabOp.onlyLanes (op : FabOp) (m : LaneMask) : FabOp :=
  match op with
  | .bankLoad b c n offs => .bankLoad b c n (offs.filter (fun p => m.getLsbD p.1))
  | .bankStore pc b c n vals => .bankStore pc b c n (vals.filter (fun p => m.getLsbD p.1))
  | o => o

/-- A request by route literal has been performed, in all its lanes or in some: values are written, the flag is released, or
the lanes that met PROT park late. -/
def State.landBank (s : State) (cid : Nat) (p : Pend) (route : Word) (op : FabOp) (dest : Dest) (type : Nat) (acq : Option Nat)
    (got : List (Nat × Word)) (bad ue : List (Nat × Nat)) : State :=
  let traps := p.trapsPoison
  let nan := s.nanLoads cid type && !traps
  let s := if nan && !ue.isEmpty then s.countAt cid else s
  let got := if nan then got ++ ue.map (fun x => (x.1, BitVec.ofNat 64 (newNaN type 7 p.pc))) else got
  match bad, if nan then [] else ue with
  | [], [] =>
    let c := s.course cid
    (s.setCourse cid (match acq with
      | some sc => c.refresh sc
      | none => c)).landSoon cid p (gotWrites dest type got)
  | [], (_, off) :: _ =>
    let s := s.setCourse cid ((s.course cid).landAll (p.writes ++ gotWrites dest type got))
    let m := maskOf (ue.map (·.1))
    let p := { p with writes := [], act := .remote route (FabOp.onlyLanes op m) dest type acq }
    if traps && s.nanLoads cid type then s.meetLate cid p (poisonTrap m) else s.meetPoison cid p (BitVec.ofNat 64 off) m
  | (_, off) :: _, _ =>
    let s := s.setCourse cid ((s.course cid).landAll (p.writes ++ gotWrites dest type got))
    let m := maskOf (bad.map (·.1))
    s.meetLate cid { p with writes := [], act := .remote route (FabOp.onlyLanes op m) dest type acq }
      { cause := 2, addr := BitVec.ofNat 64 off, mask := m }

/-- May a request to this module's banks be performed: the earlier immediate accesses of its course to the same bytes are (10 R294)? -/
def State.bankTurn (s : State) (cid : Nat) (p : Pend) : Bool :=
  ((s.course cid).before p.id).all (fun q =>
    !q.immediate || (s.pendRanges cid q).all (fun x => !(s.pendRanges cid p).any x.meets))

/-- Perform a request whose route literal names this module; each lane that PSTR writes escapes (06 R182). -/
def State.remoteHere (s : State) (cid : Nat) (p : Pend) (route : Word) (op : FabOp) (dest : Dest) (type : Nat) (acq : Option Nat) : State :=
  let vdn := s.vdOf cid
  if !(s.course cid).turnOf p || !s.bankTurn cid p then s.again cid p.id
  else
    let f := match op with
      | .bankStore pc b c n vals => s.bankForce vdn b c n vals { pc, course := some cid, issued := some p.id }
      | _ => (s, true)
    let r := match op with
      | .bankLoad b c n offs => f.1.bankLoad vdn b c n offs
      | .bankStore _ b c n vals => (f.1.bankStore vdn b c n vals).map (fun r =>
          ((vals.filter (fun p => !r.2.bad.any (fun q => q.1 = p.1))).foldl (fun s p => s.escape (s.course cid).group 5 p.2.1) r.1, r.2))
      | _ => some (f.1, {})
    match if f.2 then r else none with
    | none => f.1.again cid p.id
    | some (s, r) => s.landBank cid p route op dest type acq r.got r.bad r.ue

/-! ## INSTRUCTION_COMPLETE (08 R231) -/

/-- Write one scalar result and release the flag. -/
def State.landScalar (s : State) (cid : Nat) (p : Pend) (sd : Nat) (v : Word) : State :=
  let c := (s.course cid).landAll [.s sd v]
  s.setCourse cid { c with pends := c.pends.filter (fun q => q.id ≠ p.id) }

/-- Actions of one course on one queue are performed in program order (10 R294). -/
def Course.queueTurn (c : Course) (p : Pend) (h : Word) : Bool :=
  (c.before p.id).all (fun q => match q.act with
    | .enq g _ _ | .qstat g _ _ => g ≠ h
    | _ => true)

/-- Send a pending instruction's request by its route literal, or find the route dead (02 R51). -/
def State.sendByRoute (s : State) (cid : Nat) (p : Pend) (route : Word) (op : FabOp) : State :=
  if s.routeDead route then s.meetLate cid p { cause := 0x15, addr := farAddrOf op, mask := farMask op p.mask }
  else
    let g := s.group (s.course cid).group
    s.request (dieOf g.bench) route (s.task g.task).vd op none false (fun o => { o with course := some (cid, p.id) })

/-- A request to another module that an earlier .ACQ held back leaves once it may (10 R296). -/
def State.sendWhenTurn (s : State) (cid : Nat) (p : Pend) (send : State → State) : State :=
  if s.isSent cid p.id then s else if (s.course cid).turnOf p then send s else s.again cid p.id

/-- Complete, or go on with, a pending instruction. -/
def State.completePend (s : State) (cid : Nat) (p : Pend) : State :=
  match p.late with
  | some f =>
    if f.cause = 3 then s.meetPoison cid { p with late := none } f.addr f.mask
    else if p.act = .none then
      -- the lanes that did not trap have their results (12 R353)
      (s.setCourse cid ((s.course cid).landAll p.writes)).meetLate cid { p with late := none, writes := [] } f
    else s.meetLate cid { p with late := none } f
  | none =>
    match p.act with
    | .none =>
      if p.xbar && !(s.course cid).turnOf p then s.again cid p.id
      else
        let c := (s.course cid).landAll p.writes
        s.setCourse cid { c with pends := c.pends.filter (fun q => q.id ≠ p.id) }
    | .access a => s.accessStep cid p a
    | .remote r op d t acq =>
      if routeKind r = 1 then s.sendWhenTurn cid p (fun s => s.sendByRoute cid p r op) else s.remoteHere cid p r op d t acq
    | .refresh sc => s.refreshStep cid p sc
    | .twait n sd => s.twaitStep cid p n sd
    | .array op => s.arrayStep cid p op
    | .engine op => s.engineStep cid p op
    | .enq h rec_ sd =>
      if s.isFar h then s.sendWhenTurn cid p (fun s => s.resend cid p h (.enq h rec_) false 0)
      else if !(s.course cid).turnOf p || !(s.course cid).queueTurn p h then s.again cid p.id
      else
        let r := s.enqHere (s.vdOf cid) (some cid) h rec_
        (r.1.escape (s.course cid).group 2 (enqEscape h)).landScalar cid p sd r.2
    | .qstat h sel sd =>
      if s.isFar h then s.sendWhenTurn cid p (fun s => s.resend cid p h (.qstat h sel) false 0)
      else if !(s.course cid).turnOf p || !(s.course cid).queueTurn p h then s.again cid p.id
      else s.landScalar cid p sd (s.qstatHere (s.vdOf cid) h sel)
    | .state h op st sd vl =>
      if s.isFar h then s.sendWhenTurn cid p (fun s => s.resend cid p h (stateFab h op) false 0)
      else
        let earlier := ((s.course cid).before p.id).any (fun q => match q.act with
          | .state h2 _ _ _ _ => decide (h2 = h)
          | _ => false)
        if earlier || !(s.course cid).turnOf p then s.again cid p.id
        else
          let r := s.stateAccess (s.vdOf cid) h op
          r.1.landState cid p op st sd vl r.2
    | .boundary | .batch _ | .copy _ => s

/-- Find a course's pending instruction for an event; none when its group is saved, unless the course is killed, or when it has gone. [DESIGN CHOICE, log 96] -/
def State.eventPend (s : State) (cid n : Nat) : Option Pend :=
  match tget s.courses cid with
  | none => none
  | some c =>
    match c.st with
    | .killed _ => c.pend n
    | _ => if (s.group c.group).saved then none else c.pend n

/-- INSTRUCTION_COMPLETE (.course course pend 0 0). -/
def execInstructionComplete (s : State) : Out :=
  match s.arg with
  | .course cid n _ _ =>
    match s.eventPend cid n with
    | some p => .next (s.completePend cid p)
    | none => .next s
  | _ => .next s

/-- PAGE_WALK_DONE (.course course pend 0 0): the walk of a waiting access ends; the access goes on, or meets PAGE_MISS (09 R262). -/
def execPageWalkDone (s : State) : Out :=
  match s.arg with
  | .course cid n _ _ =>
    match s.eventPend cid n with
    | some p => (match p.act with
      | .access a => .next (if p.late.isSome then s else s.accessStep cid p a)
      | _ => .next s)
    | none => .next s
  | _ => .next s

/-- ATLB_FILL_DONE (.nat core vd granule): the entry is there, and the waiting access can issue (09 R261). -/
def execAtlbFillDone (s : State) : Out :=
  match s.arg with
  | .nat core vdn gran => .next (s.atlbFill core vdn gran)
  | _ => .next s

/-- FULL_EMPTY_WAKE (.course course pend 0 0): a waiting lane finds its tag (17 R480). -/
def execFullEmptyWake (s : State) : Out :=
  match s.arg with
  | .course cid n _ _ =>
    match s.eventPend cid n with
    | some p => (match p.act with
      | .access a => .next (if p.late.isSome then s else match a.op with
        | .tag _ => if a.items.isEmpty then s.landAccess cid p a else s.immStep cid p a
        | _ => s)
      | _ => .next s)
    | none => .next s
  | _ => .next s

/-- WAITA_RECHECK (.course course pend 0 0): a write at the word's home makes WAITA look again (24 R534). -/
def execWaitaRecheck (s : State) : Out :=
  match s.arg with
  | .course cid n _ _ =>
    match s.eventPend cid n with
    | some p => (match p.act with
      | .access a => .next (if p.late.isSome then s else match a.op with
        | .waita cond _ => s.waitaStep cid p a cond false
        | _ => s)
      | _ => .next s)
    | none => .next s
  | _ => .next s

/-- WAITA_TIMEOUT (.course course pend 0 0): the timeout has run out; the value of now is written (17 R482). -/
def execWaitaTimeout (s : State) : Out :=
  match s.arg with
  | .course cid n _ _ =>
    match s.eventPend cid n with
    | some p => (match p.act with
      | .access a => .next (if p.late.isSome then s else match a.op with
        | .waita cond (some lim) => if a.since + lim ≤ s.now then s.waitaStep cid p a cond true else s
        | _ => s)
      | _ => .next s)
    | none => .next s
  | _ => .next s

/-! ## Evicted buffered sectors (09 R272) -/

/-- BUFFERED_SECTOR_EVICT (.course course pend lane sector): for a lane of a pending store that waits for a place, the line that the L1 gives
up leaves for the phase-spill path; a store that finds no place parks its course late with PAGE_MISS, ADDR its own address. Of a course
without such a store, the buffered sector at the address `sector` leaves the L1 if it can. Nothing that a program reads changes. [DEDUCED, log 103] -/
def execBufferedSectorEvict (s : State) : Out :=
  match s.arg with
  | .course cid n lane sector =>
    let wants := match s.eventPend cid n with
      | some p => (match p.act with
        | .access a => if a.op = AccOp.store && p.late.isNone then (a.items.find? (fun (it : AccItem) => it.lane = lane)).map (fun (it : AccItem) => (p, it)) else none
        | _ => none)
      | none => none
    match wants with
    | some (p, it) =>
      (match s.l1MakeRoom cid it.loc.addr.toNat with
       | some s => .next (s.again cid n)
       | none => .next (s.meetLate cid p { cause := 1, addr := it.loc.addr, mask := if p.mask ≠ 0 then p.mask else laneBit lane }))
    | none =>
      let g := s.group (s.course cid).group
      if ((s.course cid).lineSectors (sector.toNat / 256)).contains (sector.toNat / 64) && !g.saved then
        .next ((s.spillSectors cid [sector.toNat / 64]).getD s)
      else .next s
  | _ => .next s

/-- Sectors whose stores have left the buffer leave their place. -/
def State.trimSpills (s : State) : State :=
  { s with courses := s.courses.map (fun p => if p.2.spilt.isEmpty then p else
      (p.1, { p.2 with spilt := p.2.spilt.filter (fun e => p.2.buf.any (fun b => match b.loc with
        | .glob va => decide (va / 64 = e.1)
        | _ => false)) })) }

/-! ## LATE_FAULT (06 R161, R162) -/

/-- The late fault a course parks with: the first met, and of one cycle, two ticks, that of the lowest split (R162); `skip` leaves out what a
rollback undoes. -/
def Course.lateFirst (c : Course) (skip : LateFault → Bool) : Option (Pend × LateFault) :=
  let ls := c.pends.filterMap (fun p => (p.late.filter (fun f => !skip f)).map (fun f => (p, f)))
  (sortBy (fun (a b : Pend × LateFault) => if a.2.tick / 2 ≠ b.2.tick / 2 then decide (a.2.tick < b.2.tick) else decide (a.1.split ≤ b.1.split)) ls).head?

/-- A course parks with the late fault that comes first. -/
def State.parkLate (s : State) (cid : Nat) : State :=
  let c := s.course cid
  match c.lateFirst (fun f => f.cause = 3 && s.rollsBack c.group f.addr) with
  | none => s
  | some (q, f) =>
    let np := ((tget c.splits q.split).map (·.pc)).getD q.pc
    let s := s.setCourse cid { c with st := .running }
    s.parkCourse cid q.split f.cause f.event f.addr f.cx f.mask q.pc np (some q.id)

/-- LATE_FAULT (.course course pend 0 0): the course parks at its boundary, once what issued before it has completed; one of a saved
group parks in its image (02 R57, 04 R125 step 4). -/
def execLateFault (s : State) : Out :=
  match s.arg with
  | .course cid n _ _ =>
    match (tget s.courses cid).bind (·.pend n) with
    | none => .next s
    | some p =>
      let c := s.course cid
      if p.late.isNone then .next s
      else
        match c.st with
        | .running | .migrating _ | .halted =>
          if !c.pends.all (s.mayStay cid) then
            .next ((s.setCourse cid { c with stopping := true }).postOnce (s.now + 1) .lateFault (.course cid n 0 0))
          else .next (s.parkLate cid)
        | .saved => .next (s.parkLate cid)
        | .retired =>
          .next ((s.setCourse cid { c with pends := c.pends.filter (fun q => q.id ≠ n) }).killReason (s.taskOf cid) 1)
        | _ => .next s
  | _ => .next s

/-! ## Parked units (06 R175, R179) -/

/-- Does the ring of a fault queue hold a fault task of a record (02 R64, 06 R175)? -/
def State.ringHolds (s : State) (qk : Nat) (h : Word) : Bool :=
  let q := s.queue qk
  (List.range (min ((q.tail + 2 ^ 32 - q.head) % 2 ^ 32) (2 ^ q.size))).any (fun i =>
    let at_ := q.base.toNat + 128 * ((q.head + i) % 2 ^ q.size)
    fieldB (s.peekVA q.vd at_ 1) 0 1 % 16 = 2 && fieldB (s.peekVA q.vd (at_ + 32) 8) 0 8 = h.toNat)

/-- The time of another module's unit has run out: its fault task here completes with EXPIRED unless it was dispatched (R175). -/
def State.expireFar (s : State) (h : Word) (qk : Nat) : State :=
  match s.tasks.find? (fun p => p.2.trec.type = 2 && p.2.record = h && p.2.st ≠ .done) with
  | some p => if p.2.st = .held || p.2.st = .ready then s.endTask p.1 6 else s
  | none => if (s.queue qk).live && s.ringHolds qk h then { s with expired := s.expired ++ [h] } else s

/-- PARKED_DEADLINE_KILL (.nat record generation 0), (.nat 2^21 handle queue) for the fault task of another module's unit, and
(.nat (2^20 + die) a b) for a unit that waits for a record: the deadline
has come, the unit is killed and its record freed. In Retention the check waits for the exit (01 R22). -/
def execParkedDeadlineKill (s : State) : Out :=
  match s.arg with
  | .nat k a b =>
    if s.plat.cur = .retention then .next s
    else if k = 2 ^ 21 then .next (s.expireFar (BitVec.ofNat 64 a) b)
    else if 2 ^ 20 ≤ k then
      (match (s.die (k - 2 ^ 20)).waiting.find? (fun r => r.uA = a && r.uB = b && s.isPast r.deadline) with
       | some r => .next (s.killWaiting (k - 2 ^ 20) r 2)
       | none => .next s)
    else
      let r := s.record k
      .next (if r.used && r.gen = a && s.isPast r.deadline then s.killRec k 2 else s)
  | _ => .next s

/-- RECORD_FREE_GRANT (.nat die 0 0): the unit that has waited longest receives a free ordinary record and parks (R179). -/
def execRecordFreeGrant (s : State) : Out :=
  match s.arg with
  | .nat d _ _ =>
    match (s.die d).waiting, s.lowestFree d 0 8192 with
    | r :: rest, some k =>
      let s := s.setDie d { s.die d with waiting := rest }
      let s := s.setRecord k { r with gen := (s.record k).gen, used := true, stage := 1, parkedAt := s.now }
      let s := match r.kind with
        | 0 => s.setCourse r.uA { s.course r.uA with st := .parked d (k % 16384) }
        | 1 =>
          let g := s.group r.uA
          s.setGroup r.uA { g with nodes := tmod g.nodes r.uB (fun n => { n with st := .parked d (k % 16384) }) }
        | _ => s
      let s := match r.deadline with
        | some t => s.post t .parkedDeadlineKill (.nat k (s.record k).gen 0)
        | none => s
      let s := s.raiseFault k
      .next (if rest.isEmpty then s else s.postOnce s.now .recordFreeGrant (.nat d 0 0))
    | _, _ => .next s
  | _ => .next s

/-- BUDGET_EXHAUSTED (.nat task bench 0): with the bench's chunk spent and none left at home, each course of the task there parks
before its next issue (05 R155). -/
def execBudgetExhausted (s : State) : Out :=
  match s.arg with
  | .nat tk b _ =>
    if (s.spend tk b).isSome then .next s
    else
      let mine := s.cands.filter (fun c => s.taskOf c.cid = tk && (s.group (s.course c.cid).group).bench = b)
      .next (mine.foldl (fun s c =>
        match (s.course c.cid).st with
        | .running => s.fetchFault c.cid c.w 0x0d 0
        | _ => s) s)
  | _ => .next s

/-- REJOIN_DEADLOCK_DETECT (.nat course 0 0): an issue fault of the lowest split (08 R242). -/
def execRejoinDeadlockDetect (s : State) : Out :=
  match s.arg with
  | .nat cid _ _ =>
    let c := s.course cid
    let t := s.task (s.taskOf cid)
    let half := if c.deadlocked t.hdr.lw16 0 then some 0 else if t.hdr.lw16 && c.deadlocked true 1 then some 1 else none
    match c.st, half with
    | .running, some h =>
      (match c.splits.find? (fun p => halfOfSplit t.hdr.lw16 p.1 = h) with
       | some (w, sp) => .next (s.parkCourse cid w 0x0b 0 0 0 sp.mask sp.pc sp.pc none)
       | none => .next s)
    | _, _ => .next s
  | _ => .next s

/-! ## Retirement and migration (08 R243, R244, R251) -/

/-- COURSE_RETIRE (.nat course 0 0): once its outstanding operations have completed, the course's rows and slot are free. -/
def execCourseRetire (s : State) : Out :=
  match s.arg with
  | .nat cid _ _ =>
    match tget s.courses cid with
    | none => .next s
    | some c =>
      if !c.alive || c.live ≠ 0 then .next s
      else
        match c.st with
        | .running => .next (if c.pends.isEmpty then s.retire cid else s.postOnce (s.now + 1) .courseRetire (.nat cid 0 0))
        | _ => .next (s.postOnce (s.now + 16) .courseRetire (.nat cid 0 0))
  | _ => .next s

/-- TRACKER_ENTRY_FREE (.nat cell course 0): the last tracked operation has completed. [DEDUCED, log 60] -/
def execTrackerEntryFree (s : State) : Out :=
  match s.arg with
  | .nat key cid _ =>
    let c := s.course cid
    if !c.pends.isEmpty then .next (s.postOnce (s.now + 1) .trackerEntryFree (.nat key cid 0))
    else
      let cell := s.cell key
      let tk := ((cell.tracker.find? (fun e => e.course = cid)).map (·.task)).getD 0
      let s := s.setCell key { cell with tracker := cell.tracker.filter (fun e => e.course ≠ cid) }
      .next (if (s.task tk).st = .done then s.dropTask tk else s)
  | _ => .next s

/-- The vector registers of a course under a bridge point's map: each mapped register moves from its number in the current profile
to its number in the other, and the rest reads zero (R251). -/
def moveRegs (v : FMap Half) (toD : Bool) (m : List (Nat × Nat × Bool)) : FMap Half :=
  m.foldl (fun acc e =>
    let src := if toD then e.1 else e.2.1
    let dst := if toD then e.2.1 else e.1
    (List.range (if e.2.2 then 2 else 1)).foldl (fun acc i =>
      (List.range 32).foldl (fun acc l => tput 0 acc ((dst + i) * 32 + l) (tgetD v ((src + i) * 32 + l) 0)) acc) acc) []

/-- Do the twelve flags of every split read 0, and have the results of fixed latency landed? -/
def Course.flagsDown (c : Course) : Bool :=
  c.pends.all (fun p => p.due.isNone) && c.splits.all (fun q => (List.range 12).all (fun f => c.flag q.1 f = 0))

/-- A pending instruction whose results to vector registers and latches are lost: their rows are released (R251). [DESIGN CHOICE, log 113] -/
def Pend.noVector (p : Pend) : Pend :=
  { p with writes := p.writes.filter (fun w => match w with
             | .v _ _ _ | .b _ _ _ => false
             | _ => true)
           act := match p.act with
             | .access a => .access { a with dest := a.dest.noVector }
             | .remote r op d t acq => .remote r op d.noVector t acq
             | .state h op st sd _ => .state h op st sd 244
             | a => a }

/-- MIGRATION_COMPLETE (.nat course 0 0): with every flag at 0 and the other core able to take it, the course goes over and
continues at the bridge point in the other profile, whose schedule table it reads (R251, 13 R387). One that a rollback took back over its
MIGR goes back to the core of its profile as it is (R253). -/
def execMigrationComplete (s : State) : Out :=
  match s.arg with
  | .nat cid _ _ =>
    match tget s.courses cid with
    | none => .next s
    | some c =>
      match c.st with
      | .migrating id =>
        let g := s.group c.group
        let t := s.task g.task
        let toD := !c.dcore
        let wait := s.postOnce (s.now + 1) .migrationComplete (.nat cid 0 0)
        let free := s.freeSlots g.bench g.cell toD
        let r := s.choose
        let act := !toD || ((s.residents g.bench g.cell true).filter (fun p => p.2.active)).length < 8
        if !s.coreFits g.bench g.cell toD (t.hdr.demand toD) || (id ≠ backId && !c.flagsDown) then .next wait
        else if id = backId then
          .next (r.2.setCourse cid { c with st := .running, dcore := toD, slot := free.getD (r.1 % max 1 free.length) 0, active := act, since := s.now })
        else
          match s.findBridge t id with
          | none => .next (s.setCourse cid { c with st := .running, migReq := false })
          | some e =>
            let pc := if toD then e.pcd else e.pcl
            let s := r.2.trace t.vd .migrate 0 pc 0
            .next (s.setCourse cid { c with st := .running, migReq := false, dcore := toD, prof := toD, slot := free.getD (r.1 % max 1 free.length) 0, loop := 0, loopI := []
                                            active := act, since := s.now, v := moveRegs c.v toD (s.bridgeMap t.vd e), b := []
                                            sched := s.tableOf g.task toD, pends := c.pends.map Pend.noVector
                                            splits := c.splits.map (fun p => (p.1, { p.2 with pc })) })
      | _ => .next s
  | _ => .next s

/-- STRIKE_REPORT (.nat core 0 0): the work of the last 64 cycles is undone and issued again with the same results; nothing of it
has left the core, so only timing shows it (07 R210, R211). -/
def execStrikeReport (s : State) : Out := .next s

end Sys2Proof.Machine
end

