-- ==== Sys2Proof/Machine/Crypto.lean ====
section
/-! DEFINITION. The algorithms that 03 R68, R72, R80 and R86 name, as their standards define them: SHA-384 (FIPS 180-4), the check of
an ECDSA signature over P-384 (FIPS 186-5), AES-256 (FIPS 197), GCM (SP 800-38D) and XTS (IEEE 1619). -/
namespace Sys2Proof.Machine

/-- A number of n bytes, most significant first. -/
def beBytes (n x : Nat) : List Byte := (leBytes n x).reverse
/-- The number that bytes hold, most significant first. -/
def beNat (l : List Byte) : Nat := l.foldl (fun n b => n * 256 + b.toNat) 0
/-- Bytes xored pairwise. -/
def xorBytes (a b : List Byte) : List Byte := List.zipWith (· ^^^ ·) a b
/-- Consecutive groups of n bytes, k of them. -/
def chunksOf (n : Nat) (l : List Byte) : Nat → List (List Byte)
  | 0 => []
  | k + 1 => l.take n :: chunksOf n (l.drop n) k

/-! ## SHA-384 -/

/-- The largest number below 2 ^ k over r whose n-th power is at most x: bit by bit from the top. -/
def rootBelow (n x : Nat) : Nat → Nat → Nat
  | 0, r => r
  | k + 1, r => rootBelow n x k (if (r + 2 ^ k) ^ n ≤ x then r + 2 ^ k else r)

/-- The first 64 bits of the fractional part of the n-th root of p (FIPS 180-4, 4.2.3 and 5.3.4). -/
def rootBits (n p : Nat) : Word := BitVec.ofNat 64 (rootBelow n (p * 2 ^ (64 * n)) 69 0)

/-- The first 80 prime numbers. -/
def shaPrimes : List Nat := (List.range 410).filter (fun p => 2 ≤ p && (List.range 21).all (fun d => d < 2 || p ≤ d || p % d ≠ 0))

/-- A word xored with itself turned right, by each of the distances. -/
def turned (x : Word) (by_ : List Nat) : Word := by_.foldl (fun y n => y ^^^ (x ++ x).extractLsb' n 64) 0

/-- The word of the message schedule that follows those before it, the latest first. -/
def shaNext (w : List Word) : Word :=
  let low := w.getD 14 0
  let high := w.getD 1 0
  w.getD 15 0 + w.getD 6 0 + (turned low [1, 8] ^^^ (low >>> 7)) + (turned high [19, 61] ^^^ (high >>> 6))

/-- One round over the eight working variables, a first: with the sum of the round's constant and its word of the schedule. -/
def shaRound (v : List Word) (kw : Word) : List Word :=
  let at_ := fun i => v.getD i 0
  let chosen := (at_ 4 &&& at_ 5) ||| (~~~ at_ 4 &&& at_ 6)
  let most := (at_ 0 &&& (at_ 1 ||| at_ 2)) ||| (at_ 1 &&& at_ 2)
  let sum := kw + at_ 7 + chosen + turned (at_ 4) [14, 18, 41]
  (sum + most + turned (at_ 0) [28, 34, 39]) :: v.take 3 ++ (sum + at_ 3) :: (v.drop 4).take 3

/-- One block of 128 bytes. -/
def shaBlock (h : List Word) (l : List Byte) : List Word :=
  let w := (List.range 64).foldl (fun w _ => shaNext w :: w) ((chunksOf 8 l 16).map (fun b => BitVec.ofNat 64 (beNat b))).reverse
  List.zipWith (· + ·) h (List.foldl shaRound h (List.zipWith (fun p x => rootBits 3 p + x) shaPrimes w.reverse))

/-- The message with its padding. -/
def shaPad (l : List Byte) : List Byte := l ++ [0x80] ++ List.replicate ((239 - l.length % 128) % 128) 0 ++ beBytes 16 (8 * l.length)

/-- The SHA-384 digest of a byte string, 48 bytes. [PRESUMED, log 99] -/
def sha384 (l : List Byte) : List Byte :=
  let m := shaPad l
  (((chunksOf 128 m (m.length / 128)).foldl shaBlock (((shaPrimes.take 16).drop 8).map (rootBits 2))).flatMap (fun w => beBytes 8 w.toNat)).take 48

/-! ## ECDSA over P-384 -/

def p384 : Nat := 2 ^ 384 - 2 ^ 128 - 2 ^ 96 + 2 ^ 32 - 1
/-- The order of the base point. -/
def n384 : Nat := 0xffffffffffffffffffffffffffffffffffffffffffffffffc7634d81f4372ddf581a0db248b0a77aecec196accc52973
def b384 : Nat := 0xb3312fa7e23ee7e4988e056be3f82d19181d9c6efe8141120314088f5013875ac656398d8a2ed19d2a85c8edd3ec2aef
def g384 : Nat × Nat × Nat :=
  (0xaa87ca22be8b05378eb1c71ef320ad746e1d3b628ba79b9859f741e082542a385502f25dbf55296c3a545e3872760ab7,
   0x3617de4a96262c6f5d9e98bf9292dc29f8f41dbd289a147ce9da3113b5f0b8c00a60b1ce1d7e819d7a431d7c90ea0e5f, 1)

/-- The bits of a number, n of them, most significant first. -/
def bitsOf (x : Nat) : Nat → List Bool
  | 0 => []
  | n + 1 => x.testBit n :: bitsOf x n

/-- a ^ e mod m, for an exponent of 384 bits. -/
def powMod (m a e : Nat) : Nat := (bitsOf e 384).foldl (fun r b => if b then r * r % m * a % m else r * r % m) 1

/-- Points in Jacobian coordinates modulo p; the third is 0 at infinity. -/
def ecDouble (q : Nat × Nat × Nat) : Nat × Nat × Nat :=
  let (x, y, z) := q
  let yy := y * y % p384
  let s := 4 * x * yy % p384
  let zz := z * z % p384
  let m := 3 * (x + zz) * (x + p384 - zz) % p384
  let x' := (m * m + 2 * (p384 - s)) % p384
  (x', (m * (s + p384 - x') + 8 * (p384 - yy * yy % p384)) % p384, 2 * y * z % p384)

def ecAdd (a b : Nat × Nat × Nat) : Nat × Nat × Nat :=
  let (x1, y1, z1) := a
  let (x2, y2, z2) := b
  if z1 = 0 then b
  else if z2 = 0 then a
  else
    let z1z1 := z1 * z1 % p384
    let z2z2 := z2 * z2 % p384
    let u1 := x1 * z2z2 % p384
    let u2 := x2 * z1z1 % p384
    let s1 := y1 * z2 * z2z2 % p384
    let s2 := y2 * z1 * z1z1 % p384
    if u1 = u2 then (if s1 = s2 then ecDouble a else (1, 1, 0))
    else
      let h := (u2 + p384 - u1) % p384
      let r := (s2 + p384 - s1) % p384
      let hh := h * h % p384
      let hhh := h * hh % p384
      let v := u1 * hh % p384
      let x3 := (r * r + (p384 - hhh) + 2 * (p384 - v)) % p384
      (x3, (r * (v + p384 - x3) + s1 * (p384 - hhh)) % p384, h * z1 * z2 % p384)

def ecMul (k : Nat) (q : Nat × Nat × Nat) : Nat × Nat × Nat :=
  (bitsOf k 384).foldl (fun r b => if b then ecAdd (ecDouble r) q else ecDouble r) (1, 1, 0)

/-- Is a signature, r and s big-endian, one of a message under an uncompressed public key of 97 bytes (R68)? [PRESUMED, log 99] -/
def ecdsaOk (key msg sig : List Byte) : Bool :=
  let x := beNat (sliceB key 1 48)
  let y := beNat (sliceB key 49 48)
  let r := beNat (sliceB sig 0 48)
  let s := beNat (sliceB sig 48 48)
  let w := powMod n384 s (n384 - 2)
  let q := ecAdd (ecMul (beNat (sha384 msg) * w % n384) g384) (ecMul (r * w % n384) (x, y, 1))
  let zi := powMod p384 q.2.2 (p384 - 2)
  key.getD 0 0 = 4 && key.length = 97 && x < p384 && y < p384 && y * y % p384 = (x * x * x + (p384 - 3) * x + b384) % p384
    && 0 < r && r < n384 && 0 < s && s < n384 && q.2.2 ≠ 0 && q.1 * zi % p384 * zi % p384 % n384 = r

/-! ## AES-256 -/

/-- The product in GF(2^8). -/
def gfMul (a b : Byte) : Byte :=
  let n := b.toNat
  BitVec.ofNat 8 ((List.range 8).foldl (fun (r : Nat × Nat) i =>
    (if n.testBit i then r.1 ^^^ r.2 else r.1, if 128 ≤ r.2 then (2 * r.2) ^^^ 0x11b else 2 * r.2)) (0, a.toNat)).1

/-- The substitution table and its inverse (figures 7 and 14 of FIPS 197): 32 entries a number, the first in its lowest byte. -/
def sboxTable : List Nat :=
  [0xc072a49cafa2d4adf04759fa7dc982ca76abd7fe2b670130c56f6bf27b777c63,
   0x75b227ebe28012079a059618c323c7041531d871f1e5a534ccf73f362693fdb7,
   0xcf584c4a39becb6a5bb1fc20ed00d153842fe329b3d63b52a05a6e1b1a2c8309,
   0xd2f3ff1021dab6bcf5389d928f40a351a89f3c507f02f94585334d43fbaaefd0,
   0xdb0b5ede14b8ee4688902a22dc4f816073195d643d7ea7c41744975fec130ccd,
   0x08ae7a65eaf4566ca94ed58d6d37c8e779e4959162acd3c25c2406490a3a32e0,
   0x9e1dc186b95735610ef6034866b53e708a8bbd4b1f74dde8c6b4a61c2e2578ba,
   0x16bb54b00f2d99416842e6bf0d89a18cdf2855cee9871e9b948ed9691198f8e1]
def sboxInvTable : List Nat :=
  [0xcbe9dec444438e3487ff2f9b8239e37cfbd7f3819ea340bf38a53630d56a0952,
   0x25d18b6d49a25b76b224d92866a12e084ec3fa420b954cee3d23c2a632947b54,
   0x849d8da75746155edab9edfd5048706c92b6655dcc5ca4d41698688664f6f872,
   0x6b8a130103bdafc1020f3fca8f1e2cd00645b3b80558e4f70ad3bc8c00abd890,
   0x6edf751ce837f9e28535ade72274ac9673e6b4f0cecff297eadc674f4111913a,
   0xf45acd78fec0db9a2079d2c64b3e56fc1bbe18aa0e62b76f89c5291d711af147,
   0xef9cc9939f7ae52d0d4ab519a97f51605fec8027591012b131c7078833a8dd1f,
   0x7d0c2155631469e126d677ba7e042b17619953833cbbebc8b0f52aae4d3be0a0]

def substitute (t : List Nat) (a : Byte) : Byte := BitVec.ofNat 8 ((t.getD (a.toNat / 32) 0) >>> (8 * (a.toNat % 32)))
def sbox (a : Byte) : Byte := substitute sboxTable a
def sboxInv (a : Byte) : Byte := substitute sboxInvTable a

/-- The key schedule: n more words of 4 bytes after i, the latest first. -/
def aesExpand : Nat → Nat → List (List Byte) → List (List Byte)
  | 0, _, w => w
  | n + 1, i, w =>
    let t := w.headD []
    let t := if i % 8 = 0 then xorBytes ((t.drop 1 ++ t.take 1).map sbox) [BitVec.ofNat 8 (2 ^ (i / 8 - 1)), 0, 0, 0]
      else if i % 8 = 4 then t.map sbox else t
    aesExpand n (i + 1) (xorBytes t (w.getD 7 []) :: w)

/-- The 15 round keys of a key of 32 bytes. -/
def aesKeys (key : List Byte) : List (List Byte) :=
  chunksOf 16 ((aesExpand 52 8 (chunksOf 4 key 8).reverse).reverse.flatten) 15

/-- One column times a circulant row. -/
def mixCol (m c : List Byte) : List Byte :=
  (List.range 4).map (fun i => (List.range 4).foldl (fun (r : Byte) j => r ^^^ gfMul (m.getD ((j + 4 - i) % 4) 0) (c.getD j 0)) 0)

def mixCols (m l : List Byte) : List Byte := (chunksOf 4 l 4).flatMap (mixCol m)
def shiftRows (l : List Byte) : List Byte := (List.range 16).map (fun i => l.getD ((i + 4 * (i % 4)) % 16) 0)
def shiftRowsInv (l : List Byte) : List Byte := (List.range 16).map (fun i => l.getD ((i + 12 * (i % 4)) % 16) 0)

/-- A block of 16 bytes encrypted, and decrypted, under a key of 32. [PRESUMED, log 99] -/
def aesEnc (key l : List Byte) : List Byte :=
  let ks := aesKeys key
  let l := ((ks.drop 1).take 13).foldl (fun l k => xorBytes (mixCols [2, 3, 1, 1] (shiftRows (l.map sbox))) k) (xorBytes l (ks.getD 0 []))
  xorBytes (shiftRows (l.map sbox)) (ks.getD 14 [])
def aesDec (key l : List Byte) : List Byte :=
  let ks := (aesKeys key).reverse
  let l := ((ks.drop 1).take 13).foldl (fun l k => mixCols [14, 11, 13, 9] (xorBytes ((shiftRowsInv l).map sboxInv) k)) (xorBytes l (ks.getD 0 []))
  xorBytes ((shiftRowsInv l).map sboxInv) (ks.getD 14 [])

/-! ## XTS and GCM -/

/-- The tweak of the next block: times x in GF(2^128), least significant byte first. -/
def xtsNext (t : List Byte) : List Byte :=
  let n := leNat t * 2
  leBytes 16 (if 2 ^ 128 ≤ n then (n % 2 ^ 128) ^^^ 0x87 else n)

/-- Blocks of a data unit, each under its tweak. -/
def xtsBlocks (f : List Byte → List Byte) : List Byte → List (List Byte) → List Byte
  | _, [] => []
  | t, b :: r => xorBytes (f (xorBytes b t)) t ++ xtsBlocks f (xtsNext t) r

/-- A data unit of 256 bytes encrypted, and decrypted, under two keys and the number of the unit (R80). [PRESUMED, log 99] -/
def xtsEnc (k1 k2 : List Byte) (unit : Nat) (l : List Byte) : List Byte := xtsBlocks (aesEnc k1) (aesEnc k2 (leBytes 16 unit)) (chunksOf 16 l 16)
def xtsDec (k1 k2 : List Byte) (unit : Nat) (l : List Byte) : List Byte := xtsBlocks (aesDec k1) (aesEnc k2 (leBytes 16 unit)) (chunksOf 16 l 16)

/-- The product of GHASH, most significant bit first. -/
def ghMul (a b : Nat) : Nat :=
  ((List.range 128).foldl (fun (r : Nat × Nat) i =>
    (if a.testBit (127 - i) then r.1 ^^^ r.2 else r.1, if r.2 % 2 = 1 then (r.2 / 2) ^^^ (0xe1 * 2 ^ 120) else r.2 / 2)) (0, b)).1

/-- Bytes in blocks of 16, the last one filled with zeros. -/
def blocks16 (l : List Byte) : List (List Byte) :=
  (chunksOf 16 l ((l.length + 15) / 16)).map (fun b => b ++ List.replicate (16 - b.length) 0)

/-- The tag of additional data and ciphertext, and the stream, for a nonce of 12 bytes. [PRESUMED, log 99] -/
def gcmTag (key iv aad c : List Byte) : List Byte :=
  let h := beNat (aesEnc key (List.replicate 16 0))
  let x := (blocks16 aad ++ blocks16 c ++ [beBytes 8 (8 * aad.length) ++ beBytes 8 (8 * c.length)]).foldl (fun y b => ghMul (y ^^^ beNat b) h) 0
  xorBytes (beBytes 16 x) (aesEnc key (iv ++ beBytes 4 1))
def gcmStream (key iv l : List Byte) : List Byte :=
  xorBytes l ((List.range ((l.length + 15) / 16)).flatMap (fun i => aesEnc key (iv ++ beBytes 4 (i + 2))))

/-- The plaintext of a protected message, none when its tag does not match; and a message protected (R72). -/
def gcmOpen (key iv aad c tag : List Byte) : Option (List Byte) := if gcmTag key iv aad c = tag then some (gcmStream key iv c) else none
def gcmSeal (key iv aad l : List Byte) : List Byte := let c := gcmStream key iv l; c ++ gcmTag key iv aad c

end Sys2Proof.Machine
end

