-- ==== Sys2Proof/Machine/Power.lean ====
section
/-! DEFINITION. Bring-up, readiness and failure of the module's functions, power states and their requests (01 R17 to R33,
02 R59, 03 R67, R75). Entry to Retention and its exit stand in Links.lean. -/
namespace Sys2Proof.Machine

/-! ## Readiness (R29 to R33) -/

/-- The longest time to readiness, in ticks from power good or warm reset (R30). [DESIGN CHOICE, log 10] -/
def funcTicks (f : Func) : Nat :=
  match f with
  | .mgmt => 3000000000
  | .hostPort => 6000000000
  | .die _ => 2400000000
  | .face _ => 5000000000
  | .bench _ => 3600000000
  | .gliron _ _ _ => 8000000000

/-- The register (0 IO, 1 FACE, 2 BENCH) and the bit of a function (R33); none for a number that names no unit. -/
def funcBit (f : Func) : Option (Nat × Nat) :=
  match f with
  | .mgmt => some (0, 1)
  | .hostPort => some (0, 0)
  | .die n => if n < 4 then some (0, 2 + n) else none
  | .face n => if n < 32 then some (1, n) else none
  | .bench n => if n < 64 then some (2, n) else none
  | .gliron n _ _ => if n < 8 then some (0, 8 + n) else none

/-- Is a bit of the ready registers, or of the FAIL registers, set? -/
def Plat.isReady (p : Plat) (b : Nat × Nat) : Bool :=
  if b.1 = 0 then p.readyIo.getLsbD b.2 else if b.1 = 1 then p.readyFace.getLsbD b.2 else p.readyBench.getLsbD b.2
def Plat.isFailed (p : Plat) (b : Nat × Nat) : Bool :=
  if b.1 = 0 then p.failIo.getLsbD b.2 else if b.1 = 1 then p.failFace.getLsbD b.2 else p.failBench.getLsbD b.2

/-- Set or clear one bit of a register. -/
def putBit {n : Nat} (x : BitVec n) (i : Nat) (v : Bool) : BitVec n :=
  if v then x ||| BitVec.ofNat n (2 ^ i) else x &&& ~~~BitVec.ofNat n (2 ^ i)

def Plat.setReady (p : Plat) (b : Nat × Nat) (v : Bool) : Plat :=
  if b.1 = 0 then { p with readyIo := putBit p.readyIo b.2 v }
  else if b.1 = 1 then { p with readyFace := putBit p.readyFace b.2 v } else { p with readyBench := putBit p.readyBench b.2 v }
def Plat.setFail (p : Plat) (b : Nat × Nat) : Plat :=
  if b.1 = 0 then { p with failIo := putBit p.failIo b.2 true }
  else if b.1 = 1 then { p with failFace := putBit p.failFace b.2 true } else { p with failBench := putBit p.failBench b.2 true }

/-- The die a function lies on; the module's own functions count as die 0. -/
def funcDie (f : Func) : Nat :=
  match f with
  | .die n => n
  | .face n => n / 8
  | .bench n => n / 16
  | .gliron n _ _ => n % 4
  | _ => 0

/-- Offset of the FAIL register of a bit (R33). -/
def failOffset (b : Nat × Nat) : Nat := 0x120 + 8 * b.1

/-- The FUNC_FAIL event of a function (R31, 04 R118). -/
def State.funcFailed (s : State) (f : Func) (b : Nat × Nat) : State := s.event 64 1 0xff (failOffset b) (funcDie f) (leBytes 1 b.2)

/-- A function fails: its ready bit clears and its FAIL bit sets in one update, and the failure is posted (R31). [DESIGN CHOICE, log 13; UNVERIFIED, log 14] -/
def State.failOne (s : State) (f : Func) : State :=
  match funcBit f with
  | none => s
  | some b =>
    if !s.plat.isReady b then s
    else
      ({ s with plat := (s.plat.setReady b false).setFail b } : State).funcFailed f b

/-- The functions that fail with a function: those that lie on a die (R29), else itself alone. -/
def funcParts (f : Func) : List Func :=
  match f with
  | .die n => f :: (List.range 8).map (fun i => .face (8 * n + i)) ++ (List.range 16).map (fun i => .bench (16 * n + i))
  | _ => [f]

/-- A Gliron port that fails loses what it still holds (02 R47). -/
def State.dropPort (s : State) (f : Func) : State :=
  match f with
  | .gliron n _ _ => s.setPort n { s.port n with replay := [], waiting := [], spent := [], give := [], unacked := 0, retraining := false, naks := 0, nakked := false }
  | _ => s

/-- A function fails, with what depends on it. [DESIGN CHOICE, log 13] -/
def State.failFunc (s : State) (f : Func) : State := ((funcParts f).foldl State.failOne s).dropPort f

/-- FUNCTION_FAIL (.func f). -/
def execFunctionFail (s : State) : Out :=
  match s.arg with
  | .func f => .next (s.failFunc f)
  | _ => .next s

/-- READY_TIMEOUT (.func f): a function that has not come up in time sets its FAIL bit, and the failure is posted (R30, R31). -/
def execReadyTimeout (s : State) : Out :=
  match s.arg with
  | .func f =>
    match funcBit f, s.plat.since with
    | some b, some t0 =>
      if s.plat.isReady b || s.plat.isFailed b || s.now < t0 + funcTicks f then .next s
      else .next (({ s with plat := s.plat.setFail b } : State).funcFailed f b)
    | _, _ => .next s
  | _ => .next s

/-- What a function loads as it comes up: a bench its spare map, a port its peer (R30, 02 R43). -/
def State.comeUp (s : State) (f : Func) : State :=
  match f with
  | .bench n => s.setBench n { s.bench n with enabled := 0x1ff &&& ~~~BitVec.ofNat 9 (2 ^ (Config.spareCell n % 9)) }
  | .gliron n m p => s.setPort n { s.port n with peerId := m, peerPort := p }
  | _ => s

/-- May a function report ready: its die is, its peer differs from this module, and the firmware has booted (R29, 02 R43, 03 R75)? -/
def State.mayReady (s : State) (f : Func) : Bool :=
  (match f with
   | .face n => s.plat.isReady (0, 2 + n / 8)
   | .bench n => s.plat.isReady (0, 2 + n / 16)
   | .gliron _ m _ => m ≠ s.fab.modid
   | _ => true) && (!s.sec.bootfail || f = .mgmt)

/-- FUNCTION_READY (.func f): a face or bench waits for its die; past its longest time a function does not come up any more (R30). -/
def execFunctionReady (s : State) : Out :=
  match s.arg with
  | .func f =>
    match funcBit f with
    | none => .next s
    | some b =>
      if s.plat.since.all (fun t0 => t0 + funcTicks f < s.now) || s.plat.isReady b || s.plat.isFailed b then .next s
      else if s.mayReady f then .next { s.comeUp f with plat := s.plat.setReady b true }
      else
        match f with
        | .face _ | .bench _ => .next (if s.sec.bootfail then s else s.post (s.now + usTicks) .functionReady (.func f))
        | _ => .next s
  | _ => .next s

/-! ## Bring-up (R25, R29, 03 R67, R75) -/

/-- The bytes of a firmware slot's image; those that nothing wrote read zero (03 R74). -/
def FwSlot.bytes (x : FwSlot) : List Byte := Memory.readN x.data 0 x.len

/-- Is an image signed with the vendor's key (R67, R68, R75)? -/
def Sec.imageOk (x : Sec) (b : List Byte) : Bool :=
  sha384 (Config.imageKey b) = x.vendorHash && ecdsaOk (Config.imageKey b) (Config.imageSigned b) (Config.imageSig b)

/-- Is a slot's image one that the boot ROM starts (R75)? -/
def Sec.slotGood (x : Sec) (b : Bool) : Bool :=
  let f := if b then x.slotB else x.slotA
  f.valid && x.imageOk f.bytes && x.fuseSvn ≤ Config.imageSvn f.bytes

/-- The boot ROM's choice (R75, R84): the pending slot, or the active one, first; when both fail, that one stays the active slot. The
image that has booted may raise the fuse SVN to its own version, 64 bits at most (R67, R84). Under BOOTFAIL,
where no firmware runs, SVN reads 0 (R93). [DEDUCED, log 35; DESIGN CHOICE, log 109] -/
def Sec.boot (x : Sec) : Sec :=
  let first := if x.pending then !x.slot else x.slot
  let b := if x.slotGood first then some first else if x.slotGood (!first) then some (!first) else none
  match b with
  | some b =>
    let l := (if b then x.slotB else x.slotA).bytes
    { x with slot := b, bootfail := false, svn := Config.imageSvn l % 256
             fuseSvn := if Config.imageRaises l then max x.fuseSvn (min 64 (Config.imageSvn l)) else x.fuseSvn }
  | none => { x with slot := first, bootfail := true, svn := 0 }

/-- What survives Off and every reset (R67): keys, state, fuses and the slots. -/
def Sec.provisioned (x : Sec) : Sec :=
  { st := x.st, vendorHash := x.vendorHash, seed := x.seed, ownerHash := x.ownerHash, debugHash := x.debugHash, fuseSvn := x.fuseSvn
    slotA := x.slotA, slotB := x.slotB, slot := x.slot, pending := x.pending, update := x.update, draws := x.draws }

/-- The slot that an update writes: the one that is not active. -/
def Sec.target (x : Sec) : FwSlot := if x.slot then x.slotA else x.slotB
def Sec.setTarget (x : Sec) (f : FwSlot) : Sec := if x.slot then { x with slotA := f } else { x with slotB := f }

/-- An update that a trip, an Off or a reset cuts short leaves no valid image in its slot (R85). -/
def Sec.cut (x : Sec) : Sec :=
  match x.stage with
  | .receiving | .verifying => x.setTarget { x.target with valid := false }
  | _ => x

/-- All that the module holds is lost, but for the provisioned state and the trip record (R25, R27). -/
def State.lost (s : State) : State :=
  { now := s.now, free := s.free, sched := s.sched, inputs := s.inputs, out := s.out, arg := s.arg
    fab := { modid := s.fab.modid }, plat := { trip := s.plat.trip }, sec := s.sec.cut.provisioned }

/-- Every function a bring-up waits for. -/
def allFuncs : List Func :=
  [.mgmt, .hostPort] ++ (List.range 4).map .die ++ (List.range 32).map .face ++ (List.range 64).map .bench
    ++ (List.range 8).map (fun n => .gliron n 0 0)

/-- Bring-up begins: clocks start from zero, the boot ROM runs, and each function comes up by itself (R19, R29, R75). [DESIGN CHOICE, log 12] -/
def State.bringUp (s : State) : State :=
  let s := s.lost
  let s := { s with plat := { s.plat with cur := .p0, since := some s.now }
                    sec := { s.sec.boot with pending := false }
                    benches := (List.range 64).map (fun i => (i, { clk0 := s.now })) }
  allFuncs.foldl (fun s f => s.post (s.now + funcTicks f) .readyTimeout (.func f)) s

/-- POWER_GOOD: a cold bring-up (R25, R29). -/
def execPowerGood (s : State) : Out := if s.plat.since.isSome then .next s else .next s.bringUp

/-! ## Power states (R17 to R28) -/

/-- The code of a state in PWR_CTL and PWR_STATUS (R28). -/
def Power.code (p : Power) : Nat :=
  match p with
  | .p0 => 0
  | .p1 => 1
  | .retention => 2
  | .off => 3

/-- The module enters Off: all but the provisioned state is lost. [DESIGN CHOICE, log 9] -/
def State.powerOff (s : State) : State := s.lost

/-- A transition begins. [DESIGN CHOICE, log 10] -/
def State.beginPower (s : State) (into : Power) (dur : Nat) (i : Instr) : State :=
  { s with plat := { s.plat with busy := true, going := into, began := s.now } }.post (s.now + dur) i .none

/-- Between transitions, go towards the target that the forces allow (R20 to R22, R26). A request of Retention or Off is honoured
at once; one that leaves Retention first returns to the state before it. -/
def State.settlePower (s : State) : State :=
  let p := s.plat
  if p.busy || p.cur = .off then s
  else
    match p.cur, p.target with
    | _, .off => s.powerOff
    | .retention, .retention => s
    | .retention, _ => s.beginPower p.before (100 * usTicks) .retentionExitDone
    | c, .retention => ({ s with plat := { p with before := c } }).beginPower .retention 1 .retentionEntryDone
    | c, t =>
      let want := if p.therm || p.cap then .p1 else t
      if want = c then s else s.beginPower want (2 * usTicks) .powerTransitionDone

/-- An update under way ends with ABORTED when Retention or Off is requested (03 R85). -/
def Sec.abort (x : Sec) : Sec :=
  match x.stage with
  | .receiving | .verifying => { x.setTarget { x.target with valid := false } with stage := .aborted }
  | _ => x

/-- A request written to PWR_CTL.REQ (R26). -/
def State.powerReq (s : State) (r : Power) : State :=
  let p := s.plat
  if p.cur = .off then s
  else
    let s := if r = .retention || r = .off then { s with sec := s.sec.abort } else s
    { s with plat := { p with req := BitVec.ofNat 2 r.code, target := if p.busy && p.target = Power.off then Power.off else r } }.settlePower

/-- PWR_REQ_P0, PWR_REQ_P1, PWR_REQ_RETENTION, PWR_REQ_OFF. -/
def execPwrReqP0 (s : State) : Out := .next (s.powerReq .p0)
def execPwrReqP1 (s : State) : Out := .next (s.powerReq .p1)
def execPwrReqRetention (s : State) : Out := .next (s.powerReq .retention)
def execPwrReqOff (s : State) : Out := .next (s.powerReq .off)

/-- POWER_TRANSITION_DONE: the clock has changed; what was requested meanwhile takes effect (R20, R26). -/
def execPowerTransitionDone (s : State) : Out :=
  let p := s.plat
  if p.busy && (p.going = .p0 || p.going = .p1) && p.cur ≠ .retention then
    .next { s with plat := { p with cur := p.going, busy := false } }.settlePower
  else .next s

/-- THERMAL_FORCE, THERMAL_FORCE_END, POWER_CAP_FORCE, POWER_CAP_END (R26). -/
def execThermalForce (s : State) : Out :=
  if s.plat.cur = .off then .next s else .next { s with plat := { s.plat with therm := true } }.settlePower
def execThermalForceEnd (s : State) : Out :=
  if s.plat.cur = .off then .next s else .next { s with plat := { s.plat with therm := false } }.settlePower
def execPowerCapForce (s : State) : Out :=
  if s.plat.cur = .off then .next s else .next { s with plat := { s.plat with cap := true } }.settlePower
def execPowerCapEnd (s : State) : Out :=
  if s.plat.cur = .off then .next s else .next { s with plat := { s.plat with cap := false } }.settlePower

/-- TRIP_OFF (.nat reason 0 0): the trip record is written and the module enters Off (R27). -/
def execTripOff (s : State) : Out :=
  match s.arg with
  | .nat r _ _ =>
    if s.plat.cur = .off then .next s else .next { s with plat := { s.plat with trip := some (r, s.now) } }.powerOff
  | _ => .next s

/-! ## Die-to-die links (02 R59) -/

/-- The dies through which the traffic of a failed link can pass. [DESIGN CHOICE, log 15] -/
def State.detours (s : State) (a b : Nat) : List Nat :=
  let others := (List.range 4).filter (fun d => d ≠ a && d ≠ b)
  let up := others.filter (fun d => !(s.die d).linksDown.contains a && !(s.die d).linksDown.contains b)
  if up.isEmpty then others else up

/-- MESH_LINK_FAIL (.nat a b 0): traffic passes another die, which the module chooses; a die without links fails. -/
def execMeshLinkFail (s : State) : Out :=
  match s.arg with
  | .nat a b _ =>
    if 4 ≤ a || 4 ≤ b || a = b || (s.die a).linksDown.contains b || s.plat.cur = .off then .next s
    else
      let s := s.setDie a { s.die a with linksDown := insertNat (s.die a).linksDown b }
      let s := s.setDie b { s.die b with linksDown := insertNat (s.die b).linksDown a }
      let ds := s.detours a b
      let r := s.choose
      let s := r.2.event 64 2 0xff 0 (min a b) (leBytes 1 (min a b) ++ leBytes 1 (max a b) ++ leBytes 1 (ds.getD (r.1 % max 1 ds.length) 0))
      .next ([a, b].foldl (fun s d => if (s.die d).linksDown.length = 3 then s.failFunc (.die d) else s) s)
  | _ => .next s

end Sys2Proof.Machine
end

