-- ==== Sys2Proof/Machine/Links.lean ====
section
/-! DEFINITION. What arrives over Gliron ports: flits and retries, requests that are forwarded or performed, responses and their
requesters, timeouts, fault-task enqueues and notices of other modules (02 R44 to R66, 06 R171, 22 R536). -/
namespace Sys2Proof.Machine

/-! ## The link layer (R44 to R47) -/

/-- Take an acknowledgement: what it covers leaves the replay buffer. -/
def State.takeAck (s : State) (p : Nat) (ack : BitVec 12) : State :=
  let q := s.port p
  let keep := q.replay.dropWhile (fun e => decide ((ack - e.flit.seq).toNat < 2048))
  if keep.length = q.replay.length then s
  else (s.setPort p { q with replay := keep, progress := s.now, naks := 0 }).pump q.waiting.length p

/-- Credits that a flit brings back, for buffers of its class (R44, R45). [DESIGN CHOICE, log 16] -/
def State.takeCredits (s : State) (p : Nat) (cls : Bool) (credit : BitVec 16) : State :=
  let q := s.port p
  if credit = 0 then s
  else
    (s.setPort p { q with spent := (List.range 4).foldl (fun m v => tput 0 m (bufKey v cls) (tgetD q.spent (bufKey v cls) 0 - (credit.extractLsb' (4 * v) 4).toNat)) q.spent }).pump
      q.waiting.length p

/-- Send the flits of the replay buffer again, in order; a request pays for the time it has spent here, and one whose
lifetime has run out leaves a flit in its place that carries nothing (R46, R56). [DEDUCED, log 19] -/
def State.replay (s : State) (p : Nat) : State :=
  let r := (s.port p).replay.foldl (fun (a : List OutFlit × State) e =>
    match e.paid s.now with
    | some f => (a.1 ++ [{ e with flit := f, tick := s.now }], a.2.send (.flit p f))
    | none =>
      let f := { e.flit with req := none }
      (a.1 ++ [{ e with flit := f, tick := s.now }], (a.2.countDiscard (e.via.getD p)).send (.flit p f))) ([], s)
  r.2.setPort p { r.2.port p with replay := r.1 }

/-- Discard what arrives until the replay and send a NAK that carries the last good SEQ (R46). [DEDUCED, log 20] -/
def State.sendNak (s : State) (p : Nat) : State :=
  let q := s.port p
  (s.setPort p { q with nakked := true }).send (.flit p { kind := 3, ack := q.recvSeq - 1, nak := true })

/-- Is an acknowledgement due: 64 flits, or one for 1 µs (R46)? -/
def State.ackDue (s : State) (p : Nat) : Bool :=
  let q := s.port p
  !q.retraining && q.unacked ≠ 0 && (64 ≤ q.unacked || q.ackFrom + usTicks ≤ s.now)

/-- The flits of link control that return what a port owes, one for each class, unless one waits to leave already. -/
def Port.creditFlits (q : Port) : List Flit :=
  ([false, true].filter (fun cls => q.credits cls ≠ 0 && !q.waiting.any (fun e => e.flit.kind = 3 && e.flit.cls = cls))).map (fun cls => { kind := 3, cls })

/-- GL_ACK_TIMER (.nat port 0 0): what has been received is acknowledged after 64 flits or 1 µs (R46); credits that no flit has
taken back meanwhile go out in a flit of link control of their class, which stands in the sequence (R44, R45); where it cannot leave, the
acknowledgement goes alone. [DESIGN CHOICE, log 16] -/
def execGlAckTimer (s : State) : Out :=
  match s.arg with
  | .nat p _ _ =>
    let q := s.port p
    let s := q.creditFlits.foldl (fun s f => s.linkSend p [f] s.now none) s
    .next (if s.ackDue p then (s.setPort p { s.port p with unacked := 0 }).send (.flit p { kind := 3, ack := q.recvSeq - 1 }) else s)
  | _ => .next s

/-- The virtual device that a request names by its peering entry now (R55, R66). -/
def State.peeredAs (s : State) (modid : BitVec 12) (rvd : Nat) : Option Nat :=
  (s.fab.peering.find? (fun p => p.2.v && p.2.modid = modid && p.2.rvd.toNat = rvd)).map (·.2.lvd.toNat)

/-- A flit in order is accepted: the last one of a transaction hands it on, with the tick and the peering of its arrival; a reserved
KIND is discarded and counted (R44, R46, R66). [DEDUCED, log 18] -/
def State.accept (s : State) (p : Nat) (f : Flit) : State :=
  let q := s.port p
  let n := q.unacked + 1
  let s := s.setPort p { q with recvSeq := q.recvSeq + 1, nakked := false, unacked := n, ackFrom := if q.unacked = 0 then s.now else q.ackFrom }
  let s := if n = 1 then s.post (s.now + usTicks) .glAckTimer (.nat p 0 0) else if n = 64 then s.post s.now .glAckTimer (.nat p 0 0) else s
  let s := s.takeCredits p f.cls f.credit
  if 3 < f.kind.toNat then (s.countDiscard p).giveBack p (flitKey f) 1
  else if f.kind = 3 then s
  else
    match f.last, f.req, f.resp with
    | true, some r, _ => s.post s.now .glRequestArrive (.req p { r with came := some s.now, lvd := some (s.peeredAs r.srcMod r.rvd) })
    | true, none, some r => s.post s.now .glResponseArrive (.resp p { r with came := some s.now })
    | true, none, none => s.giveBack p (flitKey f) 1
    | false, _, _ => s

/-- GL_FLIT_RX (.flit port f). Idle flits, and link control without credits, stand outside the sequence. In Retention a request waits in
the buffer that its credit stands for, and the peer, without credits, sends no more (01 R17, R21, R23). [DEDUCED, log 17; DEDUCED, log 18; DEDUCED, log 20] -/
def execGlFlitRx (s : State) : Out :=
  match s.arg with
  | .flit p f =>
    if !s.portReady p then .next s
    else
      let q := s.port p
      if !flitOk f then
        let s := s.setPort p { q with crcErr := if q.crcErr = 4095 then 4095 else q.crcErr + 1 }
        .next (if q.nakked && f.seq ≠ q.recvSeq then s else s.sendNak p)
      else
        let s := if f.nak then s.post s.now .glNakRx (.nat p f.ack.toNat 0) else s.takeAck p f.ack
        if f.kind = 0 || (f.kind = 3 && f.credit = 0) then .next s
        else if f.seq = q.recvSeq then .next (s.accept p f)
        else .next (if q.nakked then s else s.sendNak p)
  | _ => .next s

/-- GL_NAK_RX (.nat port seq 0): go-back-N; the eighth NAK of one SEQ in a row retrains the port (R46, R47). -/
def execGlNakRx (s : State) : Out :=
  match s.arg with
  | .nat p seq _ =>
    if !s.portReady p then .next s
    else
      let a := BitVec.ofNat 12 seq
      let old := s.port p
      let s := s.takeAck p a
      let n := if old.nakSeq = a && old.naks ≠ 0 then old.naks + 1 else 1
      let s := s.setPort p { s.port p with nakSeq := a, naks := n }
      .next (if 8 ≤ n then s.post s.now .glRetrain (.nat p 0 0) else if old.retraining then s else s.replay p)
  | _ => .next s

/-- The longest time of a retrain, in ticks (R47). [DESIGN CHOICE, log 10] -/
def retrainTicks : Nat := 2000000

/-- A retrain begins, and is counted; whether it succeeds lies outside the module. [DESIGN CHOICE, log 21] -/
def State.retrain (s : State) (p : Nat) : State :=
  let q := s.port p
  let s := s.setPort p { q with retraining := true, naks := 0, retrain := if q.retrain = 255 then 255 else q.retrain + 1 }
  let r := s.choose
  r.2.post (s.now + retrainTicks) .glRetrainDone (.nat p (if r.1 % 2 = 0 then 1 else 0) 0)

/-- GL_RETRAIN (.nat port 0 0): after 8 NAKs of one SEQ, or 10 µs without an advancing acknowledgement while flits are out (R47). [DESIGN CHOICE, log 21] -/
def execGlRetrain (s : State) : Out :=
  match s.arg with
  | .nat p _ _ =>
    let q := s.port p
    if !s.portReady p || q.retraining || q.replay.isEmpty then .next s
    else if 8 ≤ q.naks || q.progress + 10 * usTicks ≤ s.now then .next (s.retrain p)
    else .next (s.postOnce (q.progress + 10 * usTicks) .glRetrain (.nat p 0 0))
  | _ => .next s

/-- GL_RETRAIN_DONE (.nat port ok 0): the replay buffer is sent again; after 3 failures in a row the port fails (R47). -/
def execGlRetrainDone (s : State) : Out :=
  match s.arg with
  | .nat p ok _ =>
    let q := s.port p
    if !q.retraining then .next s
    else if ok ≠ 0 then
      let s := (s.setPort p { q with retraining := false, fails := 0, progress := s.now }).replay p
      .next (((s.pump q.waiting.length p).postOnce (s.now + 10 * usTicks) .glRetrain (.nat p 0 0)).postOnce s.now .glAckTimer (.nat p 0 0))
    else if q.fails + 1 < 3 then .next ((s.setPort p { q with fails := q.fails + 1 }).retrain p)
    else .next ((s.setPort p { q with fails := 3 }).failFunc (.gliron p q.peerId q.peerPort))
  | _ => .next s

/-! ## The target performs (R55, R60, R61) -/

/-- The die at which a request is performed: of the memory, the queue or the record it names, else of its arrival port (R53). -/
def State.targetDie (s : State) (vdn p : Nat) (op : FabOp) : Nat :=
  match op with
  | .ratom _ _ _ _ a _ _ => ((s.vd vdn).phys a.toNat).elim (p % 4) (fun pa => faceOf pa / 8)
  | .enq h _ | .qstat h _ => (s.findQueue h).elim (p % 4) (fun q => dieOf (s.queue q).home)
  | .pkrd h _ | .pkwr h _ _ | .pkvget h _ _ _ | .pkvset h _ _ _ _ _ | .pkact h _ => bits h.toNat 51 50
  | _ => p % 4

/-- The stored result of a tagged request (R61). -/
def Die.recall (d : Die) (m : Nat) (sd tag : Nat) : Option FabResp :=
  match d.windows.find? (fun w => w.srcMod = m && w.srcDie = sd) with
  | some w => (w.entries.find? (fun e => e.1 = tag)).map (·.2)
  | none => none

/-- Put a result into the window of its requester: the last 1,024 of each, for 256 requesters, of which the one longest
inactive gives way (R61); only a request that is performed counts as activity of its requester. [DESIGN CHOICE, log 98] -/
def Die.remember (d : Die) (now m sd tag : Nat) (r : FabResp) : Die :=
  let mine := d.windows.find? (fun w => w.srcMod = m && w.srcDie = sd)
  let rest := d.windows.filter (fun w => !(w.srcMod = m && w.srcDie = sd))
  let rest := if mine.isNone && 256 ≤ rest.length then
      (match (rest.map (·.last)).min? with
       | some o => (match rest.findIdx? (fun w => w.last = o) with
         | some i => dropNth rest i
         | none => rest)
       | none => rest)
    else rest
  let w : Dedup := mine.getD { srcMod := m, srcDie := sd }
  { d with windows := { w with last := now, entries := ((tag, r) :: w.entries).take 1024 } :: rest }

/-- What a target answers: a response, nothing at all, or not yet. -/
inductive Served where
  | answer (status : FabStatus) (addr : Word) (mask : LaneMask) (data : List Word)
  | silent
  | later
  deriving DecidableEq, Repr

/-- Words of bytes, the last one filled with zeros. -/
def packWords (l : List Byte) : List Word := (List.range ((l.length + 7) / 8)).map (fun i => BitVec.ofNat 64 (fieldB l (8 * i) 8))

/-- Why a range of the performing device cannot be read or written (R55, 09 R267). -/
def State.farFault (s : State) (vdn a n need : Nat) : Option FabStatus :=
  let v := s.vd vdn
  if 2 ^ 57 < a + n then some .prot
  else if !v.mapsAll a n then some .pageMiss
  else if (need.testBit 0 && !v.allows a n 0) || (need.testBit 1 && !v.allows a n 1) then some .prot
  else if s.poisoned vdn a n then some .poison else none

/-- Is a cell named by a route literal there to be reached (07 R218, 01 R32)? -/
def State.cellThere (s : State) (b c : Nat) : Bool :=
  s.plat.readyBench.getLsbD b && (s.bench b).enabled.getLsbD c && !(s.bench b).failed.getLsbD c

/-- Is a fault task of a record pending: in its ring, copied, or dispatched and not complete (R64)? -/
def State.faultPending (s : State) (qk : Nat) (h : Word) : Bool :=
  s.tasks.any (fun p => p.2.trec.type = 2 && p.2.record = h && p.2.st ≠ .done)
    || s.ringHolds qk h

/-- The bytes of a fault task of another module's record (06 R172). -/
def farFaultTask (q : Queue) (args : List Word) : List Byte :=
  leBytes 1 2 ++ leBytes 1 q.prio ++ leBytes 2 2 ++ leBytes 6 q.tDeadline ++ leBytes 5 q.tBudget ++ leBytes 1 0
    ++ leBytes 8 q.tEntry.toNat ++ leBytes 8 q.tExtents.toNat
    ++ (List.range 5).flatMap (fun i => leBytes 8 (args.getD i 0).toNat) ++ leBytes 56 0

/-- A fault-task enqueue arrives: written once, acknowledged, held back, or NOT_FOUND (R64, 06 R171). What is left of the unit's
time comes with it: a task that it outlives undispatched completes with EXPIRED (05 R141, 06 R175). -/
def State.takeFaultTask (s : State) (vdn : Nat) (qh rh : Word) (args : List Word) (left : Option Nat) (passed : Bool) : State × Served :=
  match s.findQueue qh with
  | none => (s, .answer .notFound 0 0 [])
  | some qk =>
    let q := s.queue qk
    if q.vd ≠ vdn || q.kind ≠ 1 || q.st = .draining then (s, .answer .notFound 0 0 [])
    else if s.faultPending qk rh then (s, .answer .ok 0 0 [])
    else if q.st ≠ .active || !q.inited || (q.tail + 2 ^ 32 - q.head) % 2 ^ 32 = 2 ^ q.size then (s, .answer .held 0 0 [])
    else
      let at_ := q.base.toNat + 128 * (q.tail % 2 ^ q.size)
      match s.writeFail q.vd at_ 128, s.writeFail q.vd q.tailva.toNat 8 with
      | some e, _ => (s.queueError qk e, .answer .held 0 0 [])
      | none, some e => (s.queueError qk e, .answer .held 0 0 [])
      | none, none =>
        let t := (q.tail + 1) % 2 ^ 32
        let s := s.pokeVA q.vd none 4 at_ (farFaultTask q args)
        let s := s.pokeVA q.vd none 4 q.tailva.toNat (leBytes 8 t)
        let s := (s.setQueue qk { q with tail := t }).postOnce (s.now + 1) .ringRecordCopy (.nat qk 0 0)
        let s := match left with
          | some n => s.post (s.now + (if passed then 0 else n)) .parkedDeadlineKill (.nat (2 ^ 21) rh.toNat qk)
          | none => s
        (s, .answer .ok 0 0 [])

/-- A state access of another module. -/
def State.serveState (s : State) (vdn : Nat) (h : Word) (op : StateOp) : State × Served :=
  let r := s.stateAccess vdn h op
  (r.1, .answer .ok 0 0 (BitVec.ofNat 64 r.2.status :: r.2.value :: r.2.lanes.map (fun l => l.2.setWidth 64)))

/-- Perform a request for a virtual device of this module (R55, 17 R474, R478, 18 R516 to R525). -/
def State.serveOp (s : State) (vdn : Nat) (op : FabOp) : State × Served :=
  let bad := fun (st : FabStatus) (a : Word) => (s, Served.answer st a 0 [])
  match op with
  | .ratom o t evm pc a b c =>
    (match s.farFault vdn a.toNat (typeSize t) (atomNeed o) with
     | some st => bad st a
     | none =>
       let old := leNat (s.peekVA vdn a.toNat (typeSize t))
       let new := atomNew { evm, pc := pc.toNat } o t old b.toNat c.toNat
       let s := if o = 0 then s else s.pokeVA vdn none 4 a.toNat (leBytes (typeSize t) new)
       (s, .answer .ok 0 0 [BitVec.ofNat 64 old]))
  | .bankLoad b c n offs =>
    if !s.cellThere b c then bad .routeDead 0
    else
      (match s.bankLoad vdn b c n offs with
       | none => (s, .later)
       | some (s, r) => (s, .answer (if !r.bad.isEmpty then .prot else if r.ue.isEmpty then .ok else .poison) 0
           (maskOf ((if r.bad.isEmpty then r.ue else r.bad).map (·.1))) (r.got.map (·.2))))
  | .bankStore pc b c n vals =>
    if !s.cellThere b c then bad .routeDead 0
    else
      let f := s.bankForce vdn b c n vals { pc }
      (match if f.2 then f.1.bankStore vdn b c n vals else none with
       | none => (f.1, .later)
       | some (s, r) => (s, .answer (if r.bad.isEmpty then .ok else .prot) 0 (maskOf (r.bad.map (·.1))) []))
  | .copyRead a n =>
    (match s.farFault vdn a.toNat n 1 with
     | some st => bad st a
     | none => (s, .answer .ok 0 0 (packWords (s.peekVA vdn a.toNat n))))
  | .copyWrite a l _ =>
    (match s.farFault vdn a.toNat l.length 2 with
     | some st => bad st a
     | none => (s.pokeVA vdn none 4 a.toNat l, .answer .ok 0 0 []))
  | .enq h l =>
    let r := s.enqHere vdn none h l
    (r.1, .answer .ok 0 0 [r.2])
  | .qstat h sel => (s, .answer .ok 0 0 [s.qstatHere vdn h sel])
  | .pkrd h o => s.serveState vdn h (.pkrd o)
  | .pkwr h o v => s.serveState vdn h (.pkwr o v)
  | .pkvget h f r l => s.serveState vdn h (.pkvget f r l)
  | .pkvset h f r l vs sv => s.serveState vdn h (.pkvset f r l vs sv)
  | .pkact h a => s.serveState vdn h (.pkact a)
  | .faultEnq q h args left passed => s.takeFaultTask vdn q h args left passed
  | .notice h what st => (s.post s.now .faultNoticeRx (.notice h what st), .answer .ok 0 0 [])

/-- Is a virtual device stopped by a migration or a checkpoint, so that requests to it are neither performed nor answered (04 R125)? -/
def VDev.deaf (v : VDev) : Bool := v.mig = .stopping || v.mig = .stopped || v.ck ≠ .running

/-- Map a request, look into the dedup window, perform it (R55, R61, R82). -/
def State.serve1 (s : State) (p : Nat) (r : FabReq) : State × Served :=
  match r.op with
  | .notice _ _ _ => s.serveOp 0 r.op
  | _ =>
    match r.lvd.getD (s.peeredAs r.srcMod r.rvd) with
    | none => (s, .answer .prot 0 0 [])
    | some vdn =>
      match tget s.vds vdn with
      | none => (s, .answer .prot 0 0 [])
      | some v =>
        if v.conf && !(s.vdReg vdn).fab then (s, .answer .prot 0 0 [])
        else if v.deaf then (s, .silent)
        else
          let d := s.targetDie vdn p r.op
          match r.tagged, r.retry with
          | some tag, true =>
            (match (s.die d).recall r.srcMod.toNat r.srcDie tag.toNat with
             | some o => (s, .answer o.status o.addr o.mask o.data)
             | none => (s, .answer .refused 0 0 []))
          | some tag, false =>
            let x := s.serveOp vdn r.op
            (match x.2, r.op with
             | _, .faultEnq _ _ _ _ _ => x
             | .answer .ok a m l, _ =>
               (x.1.setDie d ((x.1.die d).remember s.now r.srcMod.toNat r.srcDie tag.toNat { tx := r.tx, addr := a, mask := m, data := l }), x.2)
             | _, _ => x)
          | none, _ => s.serveOp vdn r.op

/-- Send the response of a request back by its arrival port, on its channel (R45, R52); the request's buffer is free. -/
def State.respondTo (s : State) (p : Nat) (r : FabReq) (st : FabStatus) (a : Word) (m : LaneMask) (l : List Word) : State :=
  (s.sendResp p { tx := r.tx, die := r.srcDie, rvd := r.rvd, dst := r.srcMod, vc := if r.vc = 2 then 2 else 1, turns := r.taken.map turnBack, status := st
                  addr := a, mask := m, data := l }).giveBack p (bufKey r.vc r.cls) (flitsOf (reqData r))

/-- A request that arrived at a port is discarded: its flits are counted, and their buffers are free (R56, R65). -/
def State.dropReq (s : State) (p : Nat) (r : FabReq) : State :=
  ((List.range (flitsOf (reqData r))).foldl (fun s _ => s.countDiscard p) s).giveBack p (bufKey r.vc r.cls) (flitsOf (reqData r))

/-- Ticks that a request has spent at this module. -/
def reqSpent (r : FabReq) (now : Nat) : Nat := now - r.came.getD now

/-- GL_REQUEST_ARRIVE (.req port r): forwarded by its next turn, answered ROUTE_DEAD, discarded when its lifetime runs out,
or performed here (R50, R51, R56). One that has no turn left names no target, and is discarded. [DESIGN CHOICE, log 98] -/
def execGlRequestArrive (s : State) : Out :=
  match s.arg with
  | .req p r =>
    match r.turns with
    | [] => .next (s.dropReq p r)
    | t :: rest =>
      if r.life ≤ lifeSpent (reqSpent r s.now) then .next (s.dropReq p r)
      else if t = 3 then
        (match s.serve1 p r with
         | (s, .answer st a m l) => .next (s.respondTo p r st a m l)
         | (s, .silent) => .next (s.giveBack p (bufKey r.vc r.cls) (flitsOf (reqData r)))
         | (s, .later) => .next (s.post (s.now + usTicks) .glRequestArrive
             (.req p { r with came := some (r.came.getD s.now), lvd := some (r.lvd.getD (s.peeredAs r.srcMod r.rvd)), waits := true })))
      else
        let out := turnPort p t
        if !s.portReady out then .next (s.respondTo p r .routeDead 0 0 [])
        else .next ((s.sendOn out (r.came.getD s.now) (some p) { r with turns := rest, taken := t :: r.taken }).giveBack p (bufKey r.vc r.cls) (flitsOf (reqData r)))
  | _ => .next s

/-! ## The requester (R51, R57, R62) -/

/-- The cause that a response's status gives its requester. A retry that met a dead route, or a missing mapping, says nothing about the
request it repeats, whose outcome stays unknown (R62, R63). [DEDUCED, log 25] -/
def farCauseOf (st : FabStatus) (retry : Bool := false) : Nat :=
  match st with
  | .pageMiss => 1
  | .prot => if retry then 6 else 2
  | .poison => 3
  | .routeDead => if retry then 6 else 0x15
  | _ => 6

/-- A pending instruction of a course meets a late fault that came from another module. -/
def Course.farLate (c : Course) (p : Pend) (f : LateFault) : Course :=
  { c with stopping := true, pends := c.pends.map (fun q => if q.id = p.id then { p with late := some f, due := none } else q) }

/-- Values arrive: they are on their way to the registers, where a reader that does not wait for the flag may meet them (08 R234). -/
def Course.farDone (c : Course) (p : Pend) (ws : List RegWrite) (acq : Option Nat) : Course :=
  let c := match acq with
    | some sc => c.refresh sc
    | none => c
  { c with pends := c.pends.map (fun q => if q.id = p.id then { p with act := .none, writes := ws } else q) }

/-- What a response does to the pending instruction that waits for it; in event mode (`evm`) a float load's lanes that met uncorrectable
data become POISON NaNs (12 R352). -/
def Course.farLand (c : Course) (p : Pend) (now : Nat) (tag : Nat) (retry evm : Bool) (r : FabResp) : Course :=
  let cause := farCauseOf r.status retry
  let late := fun (a : Word) (m : LaneMask) => c.farLate p
    { cause, event := if r.status = .refused then 1 else 0, addr := a, mask := m, tick := now
      cx := if cause = 6 then BitVec.ofNat 64 tag else 0 }
  match p.act with
  | .remote route op dest type acq =>
    let lanes := match op with
      | .bankLoad _ _ _ offs => offs.map (·.1)
      | .bankStore _ _ _ _ vals => vals.map (·.1)
      | _ => [0]
    let got := (lanes.filter (fun l => !r.mask.getLsbD l)).zip r.data
    (match r.status with
     | .ok => c.farDone p (p.writes ++ gotWrites dest type got) acq
     | .poison =>
       let m := if r.mask = 0 then maskOf lanes else r.mask
       (match op with
        | .bankLoad _ _ _ _ =>
          let left := { p with writes := [], act := .remote route (FabOp.onlyLanes op m) dest type acq }
          if evm && floatType type && p.trapsPoison then
            (c.landAll (p.writes ++ gotWrites dest type got)).farLate left { poisonTrap m with tick := now }
          else if evm && floatType type then
            c.farDone p (p.writes ++ gotWrites dest type (got ++ (lanesOf m).map (fun l => (l, BitVec.ofNat 64 (newNaN type 7 p.pc))))) acq
          else (c.landAll (p.writes ++ gotWrites dest type got)).farLate left
            { cause := 3, addr := farAddrOf (FabOp.onlyLanes op m), mask := m, tick := now }
        | _ => late (if r.addr = 0 then farAddrOf op else r.addr) p.mask)
     | .prot =>
       if retry then late (farAddrOf op) p.mask else
       (match op with
        | .ratom _ _ _ _ a _ _ => late a p.mask
        | _ =>
          let m := if r.mask = 0 then maskOf lanes else r.mask
          let op := FabOp.onlyLanes op m
          ((if r.mask = 0 then c else c.landAll (p.writes ++ gotWrites dest type got)).farLate
            { p with writes := if r.mask = 0 then p.writes else [], act := .remote route op dest type acq }
            { cause := 2, addr := farAddrOf op, mask := m, tick := now }))
     | _ => late (if r.addr = 0 then farAddrOf op else r.addr) (match op with
         | .ratom _ _ _ _ _ _ _ => p.mask
         | _ => maskOf lanes))
  | .enq _ _ sd | .qstat _ _ sd => if r.status = .ok then c.farDone p [.s sd (r.data.getD 0 0)] none else late 0 p.mask
  | .state _ op st sd vl =>
    if r.status ≠ .ok then late 0 p.mask
    else
      let code := r.data.getD 0 0
      let vals : List RegWrite := if code ≠ 0 then [] else match op with
        | .pkrd _ => [.s sd (r.data.getD 1 0)]
        | .pkvget file _ lanes => if file = 0 || file = 3 then ((lanesOf lanes).zip (r.data.drop 2)).map (fun x => writeHalf vl x.1 (x.2.setWidth 32))
            else [.s sd (r.data.getD 1 0)]
        | _ => []
      c.farDone p (vals ++ [.s st code]) none
  | _ => c

/-- Apply what another module's answer does to the pending instruction it belongs to, and to the same instruction in the group's
shadow copy, where that holds it as well (07 R212). Poisoned data goes the way of data found here (07 R213). [DEDUCED, log 24; DEDUCED, log 79] -/
def State.onFar (s : State) (cid n : Nat) (f : Course → Pend → Course) : State :=
  match tget s.courses cid with
  | none => s
  | some c =>
    let g := s.group c.group
    match c.pend n with
    | none => s
    | some p =>
      let s := match g.shadow with
        | none => s
        | some sh =>
          match (tget sh.courses cid).bind (fun c => (c.pend n).map (fun q => (c, q))) with
          | some (c0, q) =>
            if q.pc = p.pc && q.act = p.act then
              s.setGroup c.group { g with shadow := some { sh with courses := tset sh.courses cid (f c0 q) } }
            else s
          | none => s
      let c1 := f c p
      let s := s.setCourse cid c1
      match (c1.pend n).bind (·.late) with
      | some f => s.post s.now (if f.cause = 3 then .instructionComplete else .lateFault) (.course cid n 0 0)
      | none => s.postOnce s.now .instructionComplete (.course cid n 0 0)

/-- A segment's response, or its timeout (cause 5). -/
def State.onSeg (s : State) (n i : Nat) (r : Option FabResp) : State :=
  match tget s.copies n with
  | none => s
  | some c =>
    match c.segs.find? (fun x => x.id = i) with
    | none => s
    | some x =>
      if x.done || x.parked || !x.sent then s
      else
        match r with
        | none => s.parkSeg n { x with sent := false } 5 x.addr
        | some r =>
          if farCauseOf r.status = 3 && r.status ≠ .ok then s.segPoison n { x with sent := false }
          else if r.status ≠ .ok then s.parkSeg n { x with sent := false } (farCauseOf r.status) x.addr
          else if c.out then s.segDone n x [c.group]
          else
            let bs := (r.data.flatMap (fun w => leBytes 8 w.toNat)).take x.len
            (s.setCopy n (c.setSeg { x with data := bs })).landSeg n { x with data := bs } bs

/-- The key of a record's enqueue in `Fabric.enqs`: it goes with the record's generation. -/
def enqKey (k gen : Nat) : Nat := k * 2 ^ 32 + gen
/-- The key of a notice there. [DEDUCED, log 22] -/
def noticeKey (n : Nat) : Nat := 2 ^ 60 + n

/-- Ticks of FAB_CFG.TMO. -/
def State.tmoTicks (s : State) : Nat := s.fab.timeout * usTicks

/-- The answer to a fault-task enqueue: QUEUED, or NOT_FOUND, which kills the unit; else it is sent again (R64, 06 R171). -/
def State.onEnq (s : State) (key sent : Nat) (r : Option FabResp) : State :=
  let k := key / 2 ^ 32
  let rc := s.record k
  if !rc.used || rc.gen ≠ key % 2 ^ 32 || rc.stage ≠ 1 then { s with fab := { s.fab with enqs := tdel s.fab.enqs key } }
  else
    match r.map (fun (r : FabResp) => r.status) with
    | some FabStatus.ok => ({ s with fab := { s.fab with enqs := tdel s.fab.enqs key } }).setRecord k { rc with stage := 2 }
    | some FabStatus.notFound => ({ s with fab := { s.fab with enqs := tdel s.fab.enqs key } }).killUnit k 1
    | _ => s.post (max s.now (sent + s.tmoTicks)) .faultEnqResend (.nat k 0 0)

/-- The next notice about a record goes out once the one before it is acknowledged (22 R536). [DEDUCED, log 22] -/
def State.onNotice (s : State) (n sent : Nat) (r : Option FabResp) : State :=
  match tget s.fab.notices n with
  | none => s
  | some x =>
    if r.map (fun (r : FabResp) => r.status) = some FabStatus.ok then
      let rest := tdel s.fab.notices n
      let s := { s with fab := { s.fab with notices := rest, enqs := tdel s.fab.enqs (noticeKey n) } }
      match rest.find? (fun p => p.2.record = x.record) with
      | some p => s.postOnce s.now .faultNoticeResend (.nat p.1 0 0)
      | none => s
    else s.post (max s.now (sent + s.tmoTicks)) .faultNoticeResend (.nat n 0 0)

/-- An outstanding request has its answer, or none in time (R57). -/
def State.settleOut (s : State) (o : Outstanding) (r : Option FabResp) : State :=
  let s := { s with fab := { s.fab with outs := s.fab.outs.filter (fun x => !(x.die = o.die && x.tx = o.tx)) } }
  let tag := o.tagged.getD 0
  let s := match o.course with
    | some (cid, n) =>
      (match r with
       | some r =>
         let h := (s.task (s.taskOf cid)).hdr
         s.onFar cid n (fun c p => c.farLand p s.now tag o.req.retry (h.evm && !h.shadow) r)
       | none => s.onFar cid n (fun c p => c.farLate p
           { cause := if o.tagged.isSome then 6 else 5, addr := farAddrOf o.req.op, mask := farMask o.req.op p.mask, tick := s.now
             cx := if o.tagged.isSome then BitVec.ofNat 64 tag else 0 }))
    | none => s
  let s := match o.seg with
    | some (n, i) => s.onSeg n i r
    | none => s
  let s := match o.record with
    | some key => s.onEnq key o.tick r
    | none => s
  match o.notice with
  | some n => s.onNotice n o.tick r
  | none => s

/-- Is a response the answer to an outstanding request of this module? -/
def Outstanding.answered (o : Outstanding) (r : FabResp) : Bool := o.die = r.die && o.tx = r.tx

/-- GL_RESPONSE_ARRIVE (.resp port r): passed on by its next turn, or delivered; one that comes later than the limit is discarded, and
one that comes during Retention is kept for the exit (R45, R52, R57, 17 R493, 01 R21). -/
def execGlResponseArrive (s : State) : Out :=
  match s.arg with
  | .resp p r =>
    let s1 := s.giveBack p (bufKey r.vc false) (flitsOf (respData r))
    match r.turns with
    | t :: rest => .next (s1.sendResp (turnPort p t) { r with turns := rest })
    | [] =>
      match s.fab.outs.find? (fun o => o.answered r) with
      | none => .next s1
      | some o =>
        if o.limit < r.came.getD s.now then .next s1
        else if s.plat.cur = .retention then .next { s1 with fab := { s1.fab with kept := s1.fab.kept ++ [(p, r)] } }
        else .next (s1.settleOut o (some r))
  | _ => .next s

/-- Has the response to an outstanding request been taken in time, and is about to be delivered? -/
def State.answerHere (s : State) (o : Outstanding) : Bool :=
  s.agenda.any (fun d => d.ev.i = .glResponseArrive && (match d.ev.arg with
    | .resp _ r => r.turns.isEmpty && o.answered r && decide (r.came.getD s.now ≤ o.limit)
    | _ => false))

/-- FABRIC_TIMEOUT (.nat die tx 0): no answer has come within FAB_CFG.TMO (R57). One that arrived by then counts (17 R493), and in
Retention the module's requesters wait for the exit (01 R21). -/
def execFabricTimeout (s : State) : Out :=
  match s.arg with
  | .nat d tx _ =>
    match s.fab.outs.find? (fun o => o.die = d && o.tx = tx) with
    | none => .next s
    | some o => if s.now < o.limit || s.answerHere o then .next s else .next (s.settleOut o none)
  | _ => .next s

/-! ## Fault-task enqueues and notices to other modules (R64, 06 R171, 22 R536) -/

/-- Send with the tag of the first sending (R64). [DEDUCED, log 24] -/
def State.sendTagged (s : State) (die : Nat) (route : Word) (vdn key : Nat) (op : FabOp) (o : Outstanding → Outstanding) : State :=
  let t : Nat × State := match tget s.fab.enqs key with
    | some t => (t, s)
    | none => s.takeTag die
  let s := { t.2 with fab := { t.2.fab with enqs := tset t.2.fab.enqs key t.1 } }
  s.request die route vdn op (some t.1) false o

/-- The arguments of a record's fault task (06 R172). -/
def State.faultArgs (s : State) (k : Nat) : List Word :=
  let r := s.record k
  [s.recHandle k, BitVec.ofNat 64 (r.cause + r.event * 256 + r.kind * 4096 + (r.nest + 1) * 65536), r.addr, r.pc, r.taskq]

/-- FAULT_ENQ_RESEND (.nat record 0 0): the fault task of a PARKED record goes to its queue's module, and again every TMO while the
route is dead or no answer settles it. -/
def execFaultEnqResend (s : State) : Out :=
  match s.arg with
  | .nat k _ _ =>
    let r := s.record k
    let h := s.faultQueueOf k
    if !r.used || r.stage ≠ 1 || h = 0 || bits h.toNat 63 52 = s.fab.modid.toNat then .next s
    else if s.fab.outs.any (fun o => o.record = some (enqKey k r.gen)) then .next s
    else
      match s.moduleRoute (bits h.toNat 63 52) with
      | none => .next (s.post (s.now + s.tmoTicks) .faultEnqResend (.nat k 0 0))
      | some route =>
        .next (s.sendTagged (k / 16384) route r.vd (enqKey k r.gen)
          (.faultEnq h (s.recHandle k) (s.faultArgs k) (r.deadline.map (fun t => t - s.now)) r.passed)
          (fun o => { o with record := some (enqKey k r.gen) }))
  | _ => .next s

/-- FAULT_NOTICE_RESEND (.nat notice 0 0): a notice goes out from its dispatcher's die, in the order of its record's notices, until it is acknowledged. [DEDUCED, log 22] -/
def execFaultNoticeResend (s : State) : Out :=
  match s.arg with
  | .nat n _ _ =>
    match tget s.fab.notices n with
    | none => .next s
    | some x =>
      if s.fab.notices.any (fun p => p.1 < n && p.2.record = x.record) || s.fab.outs.any (fun o => o.notice = some n) then .next s
      else
        match s.moduleRoute (bits x.record.toNat 63 52) with
        | none => .next (s.post (s.now + s.tmoTicks) .faultNoticeResend (.nat n 0 0))
        | some route =>
          .next (s.sendTagged x.die route 0 (noticeKey n) (.notice x.record x.what x.status) (fun o => { o with notice := some n }))
  | _ => .next s

/-- FAULT_NOTICE_RX (.notice record what status): the record's die applies it; a notice of an old generation is discarded. -/
def execFaultNoticeRx (s : State) : Out :=
  match s.arg with
  | .notice h what st => .next (s.applyNotice h what st)
  | _ => .next s

/-! ## Retention (01 R21, R22) -/

/-- Has what is in flight on this module completed: copy segments, evaluations, commits, and accepted requests? [DEDUCED, log 11] -/
def State.idleNow (s : State) : Bool :=
  s.copies.all (fun p => p.2.segs.all (fun x => x.done || x.parked || x.sent))
    && s.groups.all (fun p => p.2.ended || p.2.saved || p.2.demands.isEmpty)
    && !s.agenda.any (fun d => match d.ev.i with
      | .instructionComplete | .copySegmentComplete | .multicastFillLand | .nodeEvaluate | .glRequestArrive | .taskComplete | .shadowCopyDone => true
      | _ => false)

/-- RETENTION_ENTRY_DONE: the module enters Retention when it is idle, 50 µs after the request at the latest. [DEDUCED, log 11] -/
def execRetentionEntryDone (s : State) : Out :=
  let p := s.plat
  if !(p.busy && p.going = .retention) then .next s
  else if s.idleNow || p.began + 50 * usTicks ≤ s.now then .next { s with plat := { p with cur := .retention, busy := false } }.settlePower
  else .next (s.postOnce (s.now + 1) .retentionEntryDone .none)

/-- Kill the parked units whose deadline has passed, in ascending record order per die, and the units that wait for a record. [DEDUCED, log 60] -/
def State.killLate (s : State) : State :=
  let ks := (s.recs.filter (fun p => p.2.used && s.isPast p.2.deadline)).map (·.1)
  let s := ks.foldl (fun s k => if (s.record k).used then s.killRec k 2 else s) s
  (List.range 4).foldl (fun s d =>
    ((s.die d).waiting.filter (fun r => s.isPast r.deadline)).foldl (fun s r => s.killWaiting d r 2) s) s

/-- RETENTION_EXIT_DONE: deadline checks, the responses that came meanwhile, the requests that have passed their limit; then
the module goes on (R21, R22). -/
def execRetentionExitDone (s : State) : Out :=
  let p := s.plat
  if !(p.busy && p.cur = .retention) then .next s
  else
    let s := s.killLate
    let got := s.fab.kept
    let s := { s with fab := { s.fab with kept := [] } }
    let s := got.foldl (fun s x => match s.fab.outs.find? (fun o => o.die = x.2.die && o.tx = x.2.tx) with
      | some o => s.settleOut o (some x.2)
      | none => s) s
    let late := s.fab.outs.filter (fun o => decide (o.limit ≤ s.now) && !s.answerHere o)
    let s := late.foldl (fun s o => s.settleOut o none) s
    let s := { s with plat := { p with cur := p.before, busy := false } }
    .next ((s.chans.map (·.1)).foldl (fun s ch => s.flushChan ch) s).settlePower

end Sys2Proof.Machine
end

