-- ==== Sys2Proof/Machine/Ckpt.lean ====
section
/-! DEFINITION. Stopping a virtual device and starting it again: checkpoints (07 R204, R205), what live migration shares with them
(04 R125, R126), route variants and the retirement of cells (07 R203, R215 to R217). -/
namespace Sys2Proof.Machine

/-! ## What belongs to a virtual device -/

def State.vdTasks (s : State) (n : Nat) : FMap Task := s.tasks.filter (fun p => p.2.vd = n)
def State.vdGroups (s : State) (n : Nat) : FMap Group := s.groups.filter (fun p => (s.task p.2.task).vd = n)
def State.vdCourses (s : State) (n : Nat) : FMap Course := s.courses.filter (fun p => (s.task (s.group p.2.group).task).vd = n)
def State.vdCopies (s : State) (n : Nat) : FMap Copy := s.copies.filter (fun p => (s.task (s.group p.2.group).task).vd = n)
def State.vdQueues (s : State) (n : Nat) : FMap Queue := s.queues.filter (fun p => p.2.live && p.2.vd = n)
def State.vdRecs (s : State) (n : Nat) : FMap PRec := s.recs.filter (fun p => p.2.used && p.2.vd = n)

/-- The virtual address of a physical one, in a device's mappings. -/
def VDev.virt (v : VDev) (pa : Nat) : Option Nat :=
  v.maps.findSome? (fun m =>
    (m.phys.findIdx? (fun b => b ≤ pa && pa < b + pageBytes m.page)).map (fun i =>
      m.va + i * pageBytes m.page + (pa - m.phys.getD i 0)))

/-- The words of a device whose tag is full. -/
def State.fullWords (s : State) (n : Nat) : List Nat := s.full.filterMap (s.vd n).virt

/-! ## Stopping (04 R125 steps 2 to 6, 07 R204) -/

/-- Does a device have a resident group without an image slot (07 R196)? -/
def State.unsaveable (s : State) (n : Nat) : Bool := (s.vdGroups n).any (fun p => !p.2.ended && !p.2.saved && p.2.slot.isNone)

/-- Queues enter STOPPED; one in ERROR or DRAINING stays what it is (04 R115). Every resident group is saved. [DEDUCED, log 44] -/
def State.stopDevice (s : State) (n : Nat) : State :=
  let s := (s.vdQueues n).foldl (fun s p => if p.2.st = .active then s.setQueue p.1 { p.2 with st := .stopped } else s) s
  (s.vdGroups n).foldl (fun s p => s.beginSave p.1) s

/-- Has a device come to rest: groups saved, outgoing requests answered or timed out and their courses parked, no task about to
complete, and every notice of a tag taken (05 R137, R154)? -/
def State.deviceStill (s : State) (n : Nat) : Bool :=
  (s.vdGroups n).all (fun p => p.2.ended || p.2.saved)
    && s.fab.outs.all (fun o => match o.course, o.seg with
      | some (c, _), _ => decide ((s.task (s.group (s.course c).group).task).vd ≠ n)
      | none, some (k, _) => decide ((s.task (s.group (s.copy k).group).task).vd ≠ n)
      | none, none => true)
    && (s.vdTasks n).all (fun p => p.2.st ≠ .completing)
    && (s.vdCourses n).all (fun p => !(p.2.st = .saved && p.2.pends.any (·.late.isSome)))
    && !s.agenda.any (fun d => match d.ev.i, d.ev.arg with
      | .waitTagNotice, .nat v _ _ => decide (v = n)
      | _, _ => false)

/-- FEAT_VER with a MIGS field (04 R120). -/
def State.featVer (s : State) (migs : Nat) : Nat :=
  0x03 * 2 ^ 56 + 0x03 * 2 ^ 48 + Config.stepping * 2 ^ 40 + 0x03 * 2 ^ 32
    + (Config.fwid (if s.sec.slot then s.sec.slotB else s.sec.slotA).bytes % 65536) * 65536 + migs % 65536

/-- The state blob of a device (R125 step 6). -/
def State.blobOf (s : State) (n : Nat) : Blob :=
  { modid := s.fab.modid, keys := (s.vd n).keys, featVer := s.featVer (s.vd n).migs, queues := (s.vdQueues n).map (fun p => { idx := p.1, q := p.2 }), tasks := s.vdTasks n, groups := s.vdGroups n, courses := s.vdCourses n
    copies := s.vdCopies n, recs := s.vdRecs n
    waiting := (List.range 4).flatMap (fun d => (s.die d).waiting.filter (fun r => r.vd = n)), full := s.fullWords n, clock := s.now, migs := (s.vd n).migs, notes := (s.vd n).notes }

/-- Write a blob at an address of its device; its bytes are the implementation's own. [DESIGN CHOICE, log 43] -/
def State.writeBlob (s : State) (n va : Nat) : State :=
  let b := s.blobOf n
  let bs := Config.blobBytes b
  let s := s.pokeVA n none 3 va bs
  { s with blobs := (bs, b) :: s.blobs.filter (fun p => p.1 ≠ bs) }

/-- Queues that STOPPED held run again; saved groups are placed again by their dispatchers (R127, 07 R200). -/
def State.startDevice (s : State) (n : Nat) : State :=
  (s.vdQueues n).foldl (fun s p => if p.2.st = .stopped then s.setQueue p.1 { p.2 with st := .active } else s) s

/-! ## Reading a blob back -/

/-- Does a blob hold the unit of a record? -/
def Blob.holds (b : Blob) (r : PRec) : Bool :=
  match r.kind with
  | 0 => (tget b.courses r.uA).isSome
  | 1 => (tget b.groups r.uA).any (fun g => (tget g.nodes r.uB).isSome)
  | 2 => (tget b.copies r.uA).any (fun c => c.segs.any (fun x => x.id = r.uB))
  | 3 => b.queues.any (fun x => x.idx = r.uA)
  | 4 => (tget b.groups r.uA).isSome
  | _ => false

/-- What of a blob a device may take: whatever bytes host software has put in its place, they reach nothing of another device (00 R10): queues
of its own or at free indices and of its benches, tasks of those queues, groups that are saved, and what belongs to these. -/
def Blob.within (s : State) (n : Nat) (b : Blob) : Blob :=
  let v := s.vd n
  let queues := b.queues.filter (fun x => x.idx < 4096 && x.q.home < 64 && v.benches.getLsbD x.q.home && (!(s.queue x.idx).live || (s.queue x.idx).vd = n))
  let tasks := b.tasks.filter (fun p => queues.any (fun x => x.idx = p.2.queue))
  let groups := (b.groups.filter (fun p => (tget tasks p.2.task).isSome)).map (fun (p : Nat × Group) => (p.1, { p.2 with saved := p.2.saved || !p.2.ended, banks := [] }))
  let courses := b.courses.filter (fun p => (tget groups p.2.group).isSome)
  let copies := b.copies.filter (fun p => (tget groups p.2.group).isSome)
  let c : Blob := { b with queues, tasks, groups, courses, copies }
  { c with recs := b.recs.filter (fun p => c.holds p.2), waiting := b.waiting.filter c.holds }

/-- What the bytes at an address of a device hold: a blob that has been written here, or whatever they stand for. [DESIGN CHOICE, log 43] -/
def State.blobIn (s : State) (n va : Nat) : Blob :=
  match s.blobs.find? (fun p => s.peekVA n va p.1.length = p.1 && p.2.keys = (s.vd n).keys) with
  | some p => p.2
  | none => Config.readBlob (s.peekVA n va 65536)

/-- The blob that stands at an address of a device, none for a Confidential one whose bytes are no blob that it has written itself under its
keys (03 R82). [DESIGN CHOICE, log 43] -/
def State.blobAt (s : State) (n va : Nat) : Option Blob :=
  let v := s.vd n
  if v.conf && !s.blobs.any (fun p => s.peekVA n va p.1.length = p.1 && p.2.keys = v.keys) then none else some ((s.blobIn n va).within s n)

def Holder.shift (d : Nat) (h : Holder) : Holder :=
  match h with
  | .free => .free
  | .copy n => .copy (n + d)
  | .node g n => .node (g + d) n

def Copy.shift (d : Nat) (c : Copy) : Copy := { c with course := c.course + d, group := c.group + d, recv := c.recv.map (· + d), pend := c.pend + d }
def Node.shift (d : Nat) (x : Node) : Node := { x with course := x.course + d, seq := x.seq + d, forced := x.forced.map (· + d) }

def Pend.shift (d : Nat) (p0 : Pend) : Pend :=
  let p := { p0 with id := p0.id + d }
  match p.act with
  | .copy n => { p with act := .copy (n + d) }
  | .engine (.append n) => { p with act := .engine (.append (n.shift d)) }
  | .engine (.copy c sa off n) => { p with act := .engine (.copy (c.shift d) sa off n) }
  | _ => p

/-- A table with its keys moved. -/
def shiftKeys {α : Type} (d : Nat) (f : α → α) (m : FMap α) : FMap α := m.map (fun p => (p.1 + d, f p.2))
/-- A table with its values changed. -/
def mapVals2 {α : Type} (f : α → α) (m : FMap α) : FMap α := m.map (fun p => (p.1, f p.2))

def Wait.shift (d : Nat) (w : Wait) : Wait :=
  match w with
  | .boundary scope bar p => .boundary scope bar (p + d)
  | .copying scope p => .copying scope (p + d)
  | _ => w

def Split.shift (d : Nat) (x : Split) : Split :=
  { x with wait := x.wait.shift d, redo := x.redo.map (fun r => (r.1, r.2.1, r.2.2.1 + d, r.2.2.2.shift d)) }

def Held.shift (d : Nat) (h : Held) : Held :=
  { h with wait := h.wait.shift d, counts := h.counts.map (fun p => (p.1.map (· + d), p.2)) }

def Course.shift (d : Nat) (c : Course) : Course :=
  { c with group := c.group + d, pends := c.pends.map (Pend.shift d), splits := mapVals2 (Split.shift d) c.splits, held := c.held.map (Held.shift d) }
def Demand.shift (d : Nat) (x : Demand) : Demand :=
  { x with course := x.course + d, copy := x.copy.map (· + d), issued := x.issued + d }

def Shadow.shift (d : Nat) (x : Shadow) : Shadow :=
  { x with courses := shiftKeys d (Course.shift d) x.courses, owners := mapVals2 (Holder.shift d) x.owners
           nodes := mapVals2 (Node.shift d) x.nodes, demands := x.demands.map (Demand.shift d), copies := shiftKeys d (Copy.shift d) x.copies }

/-- A shadow copy without the older bytes that its courses' views held. -/
def Shadow.forget (x : Shadow) : Shadow := { x with courses := mapVals2 (fun (c : Course) => { c with stale := [], staleI := [], loopI := [], seen := [], wins := [], winsAt := [] }) x.courses }

def Group.shift (d : Nat) (g : Group) : Group :=
  { g with task := g.task + d, nodes := mapVals2 (Node.shift d) g.nodes, demands := g.demands.map (Demand.shift d)
           saveOwners := mapVals2 (Holder.shift d) g.saveOwners, recorded := g.recorded.map (Copy.shift d), shadow := g.shadow.map (Shadow.shift d) }

def PRec.shift (d : Nat) (r : PRec) : PRec := { r with task := r.task + d, uA := if r.kind = 3 then r.uA else r.uA + d, pend := r.pend.map (· + d), handler := r.handler.map (· + d) }

/-- The numbers that a blob uses for its units and their instructions. -/
def Blob.numbers (b : Blob) : List Nat :=
  let ofCourses := fun (m : FMap Course) => m.flatMap (fun p => p.1 :: p.2.pends.map (·.id))
  let ofNodes := fun (m : FMap Node) => m.map (·.2.seq)
  b.tasks.map (·.1) ++ b.groups.map (·.1) ++ b.copies.map (·.1) ++ ofCourses b.courses ++ b.groups.flatMap (fun p => ofNodes p.2.nodes
    ++ (match p.2.shadow with
        | some x => ofCourses x.courses ++ ofNodes x.nodes ++ x.copies.map (·.1)
        | none => []))

/-- What is left of a deadline after a blackout, from now on (05 R141, 04 R126 step 2). -/
def carryDeadline (now clock blackout : Nat) (d : Option Nat) : Option Nat := d.map (fun t => now + (t - clock - blackout))

/-- The next generation at a queue index (04 R108): multiples of 2^20 are skipped. -/
def nextGen (old : Option Nat) : Nat :=
  match old with
  | none => 1
  | some g =>
    let n := (g + 1) % 2 ^ 32
    if n % 2 ^ 20 = 0 then n + 1 else n

/-- A handle that a blob's queue had on its module, as this module's queue of the same index has it now; any other stays. -/
def State.newHandle (s : State) (b : Blob) (h : Word) : Word :=
  match b.queues.find? (fun x => bits h.toNat 63 52 = b.modid.toNat && x.idx = bits h.toNat 45 34 && x.q.gen = bits h.toNat 31 0 && x.q.vd = bits h.toNat 51 46) with
  | some x => s.queueHandle x.idx
  | none => h

/-- Rebuild the queues of a blob at their indices, STOPPED until all is done; `fresh` gives each the next generation (07 R205). -/
def State.rebuildQueues (s : State) (n : Nat) (b : Blob) (fresh : Bool) : State :=
  let s := b.queues.foldl (fun s x =>
    let g := if fresh then nextGen (tget s.qgens x.idx) else x.q.gen
    { s with queues := tset s.queues x.idx { x.q with vd := n, gen := g, live := true, st := if x.q.st = .error then .error else .stopped }
             qgens := tset s.qgens x.idx g }) s
  b.queues.foldl (fun s x =>
    let q := s.queue x.idx
    s.setQueue x.idx { q with statusq := s.newHandle b q.statusq, faultq := s.newHandle b q.faultq }) s

/-- Does a record's fault draw from the fatal reserve (06 R180)? -/
def PRec.isFatal (r : PRec) : Bool := r.cause = 3 || r.cause = 0x12 || (r.kind = 1 && bits r.cx.toNat 63 56 = 3)

/-- The courses of a blob that are stopped under a record, by its index there, or that wait with their unit for one. -/
def Blob.stopped (b : Blob) (k : Option Nat) (r : PRec) : List Nat :=
  (b.courses.filter (fun p => match k, p.2.st with
    | some k, .parked d i => decide (d = k / 16384 ∧ i = k % 16384)
    | none, .waiting => if r.kind = 0 then decide (p.1 = r.uA) else
      r.kind = 4 && p.2.group = r.uA && !b.waiting.any (fun x => x.kind = 0 && x.uA = p.1)
    | _, _ => false)).map (·.1)

/-- Put one record of a blob into a new record, whose unit it stops, the courses `cs` with it; its fault task, while undispatched, names the
new one (06 R185). A unit that waited for a record, with no handle, asks for one anew and waits again if there is none (06 R179). -/
def State.rebuildRec (s : State) (n : Nat) (b : Blob) (blackout : Nat) (old : Word) (cs : List Nat) (r0 : PRec) : State :=
  let r := { r0 with vd := n, deadline := carryDeadline s.now b.clock blackout r0.deadline
                     taskq := if (s.findQueue (s.newHandle b r0.taskq)).all (fun k => (s.queue k).vd = n) then s.newHandle b r0.taskq else 0
                     unit := if r0.kind = 3 then s.queueHandle r0.uA else r0.unit }
  let d := if r.kind = 3 then dieOf (s.queue r.uA).home else dieOf (bits r.unit.toNat 17 12)
  match s.draw d r.nest r.isFatal with
  | .record k =>
    let s := s.setRecord k { r with gen := (s.record k).gen, used := true, parkedAt := s.now }
    let h := s.recHandle k
    let s := cs.foldl (fun s c => s.setCourse c { s.course c with st := .parked d (k % 16384) }) s
    let s := match r.kind with
      | 1 =>
        let g := s.group r.uA
        s.setGroup r.uA { g with nodes := tmod g.nodes r.uB (fun x => { x with st := .parked d (k % 16384) }) }
      | _ => s
    let s := s.tasks.foldl (fun s p =>
      if old ≠ 0 && p.2.vd = n && p.2.trec.type = 2 && p.2.record = old && (p.2.st = .held || p.2.st = .ready) then
        s.setTask p.1 { p.2 with record := h, trec := { p.2.trec with args := p.2.trec.args.set 0 h } }
      else s) s
    let s := (s.vdQueues n).foldl (fun s p =>
      if old = 0 || p.2.kind ≠ 1 then s
      else (List.range (min ((p.2.tail + 2 ^ 32 - p.2.head) % 2 ^ 32) (2 ^ p.2.size))).foldl (fun s i =>
        let at_ := p.2.base.toNat + 128 * ((p.2.head + i) % 2 ^ p.2.size)
        if fieldB (s.peekVA n at_ 1) 0 1 % 16 = 2 && fieldB (s.peekVA n (at_ + 32) 8) 0 8 = old.toNat then
          s.pokeVA n none 3 (at_ + 32) (leBytes 8 h.toNat)
        else s) s) s
    let s := match r.deadline with
      | some t => s.post t .parkedDeadlineKill (.nat k (s.record k).gen 0)
      | none => s
    s.raiseFault k
  | .wait =>
    let s := s.setDie d { s.die d with waiting := (s.die d).waiting ++ [r] }
    let s := cs.foldl (fun s c => s.setCourse c { s.course c with st := .waiting }) s
    match r.deadline with
    | some t => s.post t .parkedDeadlineKill (.nat (2 ^ 20 + d) r.uA r.uB)
    | none => s
  | .nestKill => s.killWaiting d r 7
  | .deviceError => s.killGroup (s.recGroup r) 8

/-- The handle a record of a blob had on its module: the MODID of its task queue's handle there. -/
def blobHandle (k : Nat) (r : PRec) : Word :=
  BitVec.ofNat 64 (bits r.taskq.toNat 63 52 * 2 ^ 52 + (k / 16384) * 2 ^ 50 + (k % 16384) * 2 ^ 36 + r.gen)

/-- Rebuild tasks, groups, courses and copies of a blob under keys of their own, records anew, tags as they were; deadlines
carry on less the blackout; the wait tags of held tasks are read at their new dispatcher (04 R126 steps 1 to 4 and 6, 05 R154). -/
def State.rebuild (s : State) (n : Nat) (b : Blob) (fresh : Bool) (blackout : Nat) : State :=
  let s := s.rebuildQueues n b fresh
  let d := s.nextKey
  let s := { s with nextKey := d + 1 + b.numbers.foldl max 0 }
  let s := (sortBy (fun (x y : Nat × Task) => x.2.arrival ≤ y.2.arrival) b.tasks).foldl (fun s p =>
    let bn := s.bench p.2.home
    let dl := carryDeadline s.now b.clock blackout p.2.deadline
    let s := s.setTask (p.1 + d) { p.2 with vd := n, arrival := bn.arrivals, deadline := dl, ltod := none, copied := s.now
                                            qgen := if (b.queues.any (fun x => x.idx = p.2.queue && x.q.gen = p.2.qgen)) then (s.queue p.2.queue).gen else p.2.qgen }
    let s := s.setBench p.2.home { bn with arrivals := bn.arrivals + 1 }
    match dl with
    | some t => s.post t .taskLate (.nat (p.1 + d) 0 0)
    | none => s) s
  let s := b.groups.foldl (fun s p =>
    let g := p.2.shift d
    s.setGroup (p.1 + d) { g with shadow := g.shadow.map Shadow.forget }) s
  let s := b.courses.foldl (fun s p =>
    let c := p.2.shift d
    s.setCourse (p.1 + d) { c with deadline := carryDeadline s.now b.clock blackout c.deadline, stale := [], staleI := [], loopI := [], seen := [], wins := [], winsAt := [] }) s
  let s := b.copies.foldl (fun s p => s.setCopy (p.1 + d) (p.2.shift d)) s
  let s := b.recs.foldl (fun s p => s.rebuildRec n b blackout (blobHandle p.1 p.2) ((b.stopped (some p.1) p.2).map (· + d)) (p.2.shift d)) s
  let s := b.waiting.foldl (fun s r => s.rebuildRec n b blackout 0 ((b.stopped none r).map (· + d)) (r.shift d)) s
  let mine := s.fullWords n
  let s := mine.foldl (fun s va => s.setTag n va false) s
  let s := b.full.foldl (fun s va => s.setTag n va true) s
  ((b.tasks.filter (fun p => p.2.st = .held)).map (·.1)).foldl (fun s k =>
    let t := s.task (k + d)
    let new := ((t.trec.slotsOf 1).filter (fun x => !t.seen.contains x.1 && s.tagFull n x.2)).map (·.1)
    (s.setTask (k + d) { t with seen := t.seen ++ new }).settleHeld (k + d)) s

/-- Parked and waiting units of a device whose deadline has passed are killed, in record order (01 R22, 04 R126 step 3). -/
def State.killLateOf (s : State) (n : Nat) : State :=
  let s := (((s.vdRecs n).filter (fun p => s.isPast p.2.deadline)).map (·.1)).foldl (fun s k => if (s.record k).used then s.killRec k 2 else s) s
  (List.range 4).foldl (fun s d =>
    ((s.die d).waiting.filter (fun r => r.vd = n && s.isPast r.deadline)).foldl (fun s r => s.killWaiting d r 2) s) s

/-- Everything of a device in dispatchers, on cells and in records is discarded, without fault tasks (07 R205). -/
def State.discardDevice (s : State) (n : Nat) : State :=
  let s := ((s.vdRecs n).map (·.1)).foldl (fun s k => s.freeRec k) s
  let s := (List.range 4).foldl (fun s d => s.setDie d { s.die d with waiting := (s.die d).waiting.filter (fun r => r.vd ≠ n) }) s
  let s := ((s.vdGroups n).filter (fun p => !p.2.ended && !p.2.saved)).foldl (fun s p => s.unlease p.1) s
  let gs := (s.vdGroups n).map (·.1)
  { s with copies := s.copies.filter (fun p => !gs.contains p.2.group), courses := s.courses.filter (fun p => !gs.contains p.2.group)
           groups := s.groups.filter (fun p => !gs.contains p.1), tasks := s.tasks.filter (fun p => p.2.vd ≠ n) }

/-! ## Checkpoints (07 R204, R205) -/

/-- VD_CKST.RESULT and the state. -/
def State.ckDone (s : State) (n result : Nat) (st : CkSt) : State := s.setVd n { s.vd n with ck := st, ckResult := result }

/-- The command is refused with a status: the state stays. -/
def State.ckRefuse (s : State) (n result : Nat) : State := s.setVd n { s.vd n with ckResult := result }

/-- VD_CKPT_STOP (.nat vd 0 0): refused before anything stops when a group cannot be saved, or when the blob of now is larger than its
region. [DEDUCED, log 44] -/
def execVdCkptStop (s : State) : Out :=
  match s.arg with
  | .nat n _ _ =>
    match tget s.vds n with
    | none => .next s
    | some v =>
      if v.ck ≠ .running || v.mig ≠ .none || v.dbg = 2 || v.destroying then .next (s.ckRefuse n 3)
      else if s.unsaveable n || (s.vdReg n).svblob * 65536 < (Config.blobBytes (s.blobOf n)).length then .next (s.ckRefuse n 2)
      else .next (((s.setVd n { v with ck := .stopping }).stopDevice n).post (s.now + 1) .vdCkptStopComplete (.nat n 0 0))
  | _ => .next s

/-- VD_CKPT_STOP_COMPLETE (.nat vd 0 0): the blob is written at VD_SVBASE; when it is larger than its region nothing stays
stopped. [DEDUCED, log 44] -/
def execVdCkptStopComplete (s : State) : Out :=
  match s.arg with
  | .nat n _ _ =>
    let v := s.vd n
    if v.ck ≠ .stopping then .next s
    else if !s.deviceStill n then .next (s.postOnce (s.now + 1) .vdCkptStopComplete (.nat n 0 0))
    else
      let len := (Config.blobBytes (s.blobOf n)).length
      if (s.vdReg n).svblob * 65536 < len then .next ((s.ckDone n 2 .running).startDevice n)
      else
        let s := s.writeBlob n (s.vdReg n).svbase.toNat
        .next ((s.setVd n { s.vd n with blobLen := len }).ckDone n 1 .stopped)
  | _ => .next s

/-- VD_CKPT_RESUME (.nat vd 0 0). -/
def execVdCkptResume (s : State) : Out :=
  match s.arg with
  | .nat n _ _ =>
    match tget s.vds n with
    | none => .next s
    | some v => if v.ck ≠ .stopped then .next (s.ckRefuse n 3) else .next ((s.ckDone n 1 .running).startDevice n)
  | _ => .next s

/-- VD_CKPT_RESTORE (.nat vd 0 0). -/
def execVdCkptRestore (s : State) : Out :=
  match s.arg with
  | .nat n _ _ =>
    match tget s.vds n with
    | none => .next s
    | some v =>
      if v.ck ≠ .stopped then .next (s.ckRefuse n 3)
      else .next ((s.setVd n { v with ck := .restoring }).post (s.now + 1) .vdCkptRestoreComplete (.nat n 0 0))
  | _ => .next s

/-- Has every saved group of a device been restored that its blob held? -/
def State.revived (s : State) (n : Nat) : Bool := !(s.vdGroups n).any (fun p => p.2.saved && !p.2.ended && !p.2.fresh)

/-- VD_CKPT_RESTORE_COMPLETE (.nat vd 0 0): first the device as its blob has it, in place, whose saved groups may be placed; once they are all
restored its queues are ACTIVE and it runs (R205). A Confidential device whose bytes are no blob of its own stays as it is, with
DEVICE_ERROR (03 R82). [DESIGN CHOICE, log 43; DEDUCED, log 44] -/
def execVdCkptRestoreComplete (s : State) : Out :=
  match s.arg with
  | .nat n _ _ =>
    let v := s.vd n
    let again := fun (s : State) => s.postOnce (s.now + 1) .vdCkptRestoreComplete (.nat n 0 0)
    match v.ck with
    | .restoring =>
      (match s.blobAt n (s.vdReg n).svbase.toNat with
       | none => .next (s.ckDone n 5 .stopped)
       | some b =>
         let old := (s.vdQueues n).map (fun p => (p.1, p.2.gen))
         let s := s.discardDevice n
         let s := { s with queues := s.queues.filter (fun p => p.2.vd ≠ n), qgens := old.foldl (fun (m : FMap Nat) (p : Nat × Nat) => tset m p.1 p.2) s.qgens }
         let s := (s.rebuild n b true 0).killLateOf n
         let good := (s.vdGroups n).all (fun p => p.2.ended || p.2.fresh || !p.2.saved || s.imageGood p.1)
         .next (again (s.ckDone n (if good then 1 else 5) .reviving)))
    | .reviving => if s.revived n then .next ((s.setVd n { s.vd n with ck := .running }).startDevice n) else .next (again s)
    | _ => .next s
  | _ => .next s

/-! ## Variants and cells (07 R203, R215 to R217) -/

/-- CELL_MAP_VARIANT_WRITE (.nat bench variant 0): the bench's instruction caches are invalid and its loop buffers stale, and the bench
fetches the variant from now on, a course in a stale loop buffer from its next taken backward branch on; a variant that the loader has added
is one that its kernels now have. [DEDUCED, log 45] -/
def execCellMapVariantWrite (s : State) : Out :=
  match s.arg with
  | .nat b v _ =>
    if 64 ≤ b then .next s
    else
      let tks := ((s.groups.filter (fun p => p.2.bench = b && !p.2.ended)).map (·.2.task)).eraseDups
      let s := tks.foldl State.readVariants (s.staleLoops (fun c => (s.group (s.course c).group).bench = b))
      .next (s.setBench b { s.bench b with variant := BitVec.ofNat 16 v })
  | _ => .next s

/-- A resident group of a retired cell (R217 step 2). -/
def State.leaveCell (s : State) (gk : Nat) (readable : Bool) : State :=
  let g := s.group gk
  if readable then s.beginSave gk
  else if (s.task g.task).hdr.shadow then (s.groupUE gk 0).beginSave gk
  else (s.coursesOf gk).foldl (fun s cid => s.unitUE (.course cid) 0) s

/-- The bench's spare comes in once the groups of the retired cell are saved (R217 step 3). -/
def State.enableSpare (s : State) (b c : Nat) : State :=
  let bn := s.bench b
  if ((s.groupsOn b c).any (fun p => p.2.saving)) then s.postOnce (s.now + 1) .cellRetire (.nat b c 2)
  else
    let bn := { bn with retiring := putBit bn.retiring c false }
    match (List.range 9).find? (fun i => !bn.enabled.getLsbD i && !bn.failed.getLsbD i) with
    | some i => s.setBench b { bn with enabled := putBit bn.enabled i true }
    | none => s.setBench b bn

/-- CELL_RETIRE (.nat bench cell how): the cell leaves service, its state readable (1) or not (0), its groups move, the spare comes in (2).
A readable cell waits for the groups that cannot be saved, and takes no other meanwhile. -/
def execCellRetire (s : State) : Out :=
  match s.arg with
  | .nat b c how =>
    let bn := s.bench b
    if 64 ≤ b || 9 ≤ c then .next s
    else if how = 2 then .next (if bn.failed.getLsbD c && bn.retiring.getLsbD c then s.enableSpare b c else s)
    else if bn.failed.getLsbD c then .next s
    else if how ≠ 0 && (s.groupsOn b c).any (fun p => p.2.slot.isNone) then
      .next ((s.setBench b { bn with retiring := putBit bn.retiring c true }).postOnce (s.now + 1) .cellRetire (.nat b c how))
    else
      let was := bn.enabled.getLsbD c
      let s := s.setBench b { bn with enabled := putBit bn.enabled c false, failed := putBit bn.failed c true, retiring := putBit bn.retiring c was }
      let s := s.event 64 1 0xff (0x2400 + 8 * b) (dieOf b) (leBytes 1 (16 + c))
      let s := ((s.groupsOn b c).map (·.1)).foldl (fun s g => s.leaveCell g (how ≠ 0)) s
      .next (s.post (s.now + 1) .cellRetire (.nat b c 2))
  | _ => .next s

end Sys2Proof.Machine
end

