-- ==== Sys2Proof/Machine/Lanes.lean ====
section
/-! DEFINITION. What every vector instruction shares (16 R443 to R448): the fields of an S form, element by element
computation with PAIR (12 R340), and the issue of results with events and traps (12 R353). -/
namespace Sys2Proof.Machine

/-- The fields of a binary S form: SA := VD, SB := VS (R444). -/
def sBinary (t : Nat) (x : SVec) : XFields := { sch := x.sch, vd := x.vd, sa := x.vd, sb := x.vs, type := BitVec.ofNat 4 t }
/-- The fields of an S unary form: SA := VS (R444). -/
def sUnary (t : Nat) (x : SVec) : XFields := { sch := x.sch, vd := x.vd, sa := x.vs, type := BitVec.ofNat 4 t }

/-- One lane's result: its pattern and the events it raised. -/
structure LaneRes where
  lane : Nat
  x    : Nat
  evs  : List Nat := []
  deriving DecidableEq, Repr

/-- The environment of a float operation of the issuing instruction. -/
def Ctx.fenv (k : Ctx) : FEnv := { evm := k.t.hdr.evm, pc := k.pc }

/-- The element type of a PAIR (R340). -/
def Ctx.pairType (k : Ctx) : Nat := (k.x.ext.extractLsb' 0 4).toNat

/-- One lane of an elementwise operation on sources SA, SB and SC; each 16-bit element apart under PAIR. [DEDUCED, log 87] -/
def Ctx.laneOp (k : Ctx) (f : Nat → Nat → Nat → Nat → FRes) (l : Nat) : LaneRes :=
  let t := k.x.type.toNat
  if t = 13 then
    let e := k.pairType
    let a := (k.srcV k.x.sa l).toNat
    let b := (k.srcV k.x.sb l).toNat
    let c := (k.srcV k.x.sc l).toNat
    let r0 := f e (a % 65536) (b % 65536) (c % 65536)
    let r1 := f e (a / 65536) (b / 65536) (c / 65536)
    { lane := l, x := r0.x + 65536 * r1.x, evs := [r0.ev, r1.ev] }
  else
    let r := f t (k.srcT t k.x.sa l) (k.srcT t k.x.sb l) (k.srcT t k.x.sc l)
    { lane := l, x := r.x, evs := [r.ev] }

/-- The order of R345. [DEDUCED, log 81] -/
def eventOrder : List Nat := [7, 1, 2, 3, 4, 8, 6, 5]

/-- The first trapped event of a list, 0 when none is trapped. [DEDUCED, log 81] -/
def trappedEvent (mask : BitVec 16) (evs : List Nat) : Nat :=
  (eventOrder.find? (fun e => mask.getLsbD e && evs.contains e)).getD 0

/-- Issue results whose events may trap (R353): the lanes that raised a trapped event are not written, and the course
parks with ARITH at completion. `ws` gives the register writes of the lanes that are written. [DEDUCED, log 65] -/
def Ctx.deliver (k : Ctx) (rs : List LaneRes) (ws : List LaneRes → List RegWrite) (xbar : Bool := false) : State :=
  let tm := k.c.trapmask
  let bad := rs.filter (fun r => trappedEvent tm r.evs ≠ 0)
  match bad with
  | [] => (k.issueAt k.next (ws rs) .none (xbar := xbar)).1
  | r :: _ =>
    let f : LateFault := { cause := 4, event := trappedEvent tm r.evs, mask := maskOf (bad.map (·.lane)) }
    (k.issueAt k.next (ws (rs.filter (fun r => trappedEvent tm r.evs = 0))) .none (xbar := xbar) (late := some f)).1

/-- Deliver lane results of a type to VD. -/
def Ctx.deliverV (k : Ctx) (t : Nat) (rs : List LaneRes) : State :=
  k.deliver rs (fun rs => k.writeV t (rs.map (fun r => (r.lane, r.x))))

/-- Deliver comparison bits to the mask register kd. -/
def Ctx.deliverK (k : Ctx) (rs : List LaneRes) : State :=
  k.deliver rs (fun rs => k.writeK (rs.map (fun r => (r.lane, r.x ≠ 0))))

/-- An elementwise integer instruction: a pattern from the element type and the sources. No event (R447). -/
def laneInt (f : Nat → Nat → Nat → Nat → Nat) (i : Instr) (x : XFields) (s : State) : Out :=
  withIssue i s (fun k0 =>
    let k := { k0 with x := x }
    .next (k.deliverV x.type.toNat (k.lanes.map (k.laneOp (fun t a b c => { x := f t a b c })))))

/-- An elementwise float instruction. -/
def laneFloat (f : FEnv → Nat → Nat → Nat → Nat → FRes) (i : Instr) (x : XFields) (s : State) : Out :=
  withIssue i s (fun k0 =>
    let k := { k0 with x := x }
    .next (k.deliverV x.type.toNat (k.lanes.map (k.laneOp (f k.fenv)))))

end Sys2Proof.Machine
end

