-- ==== Sys2Proof/Machine/VectorInt.lean ====
section
/-! DEFINITION. Vector integer and address instructions (16 R449 to R453). -/
namespace Sys2Proof.Machine

/-- A two-operand instruction as R423 computes its scalar twin; the shift count is the whole unsigned element of b. -/
def vec2 (op : IntOp) (i : Instr) (x : XFields) (s : State) : Out :=
  laneInt (fun t a b _ => op.result (x.sat ≠ 0) t a b b) i x s

/-- A one-operand instruction on the w-bit pattern. -/
def vec1 (f : Nat → Nat → Nat) (i : Instr) (x : XFields) (s : State) : Out :=
  laneInt (fun t a _ _ => f (typeWidth t) (a % 2 ^ typeWidth t)) i x s

/-- The complement of a w-bit pattern. -/
def complement (w a : Nat) : Nat := 2 ^ w - 1 - a

/-- |a| and -a, narrowed (R450). -/
def absOp (sat : Bool) (t a : Nat) : Nat := narrow sat t (intVal t a).natAbs
def negOp (sat : Bool) (t a : Nat) : Nat := narrow sat t (-(intVal t a))

/-- VADD, S form. -/
def execVaddS (x : SVec) (s : State) : Out := vec2 .add (.vaddS x) (sBinary 4 x) s
/-- VADD. -/
def execVaddX (x : XFields) (s : State) : Out := vec2 .add (.vaddX x) x s
/-- VSUB, S form. -/
def execVsubS (x : SVec) (s : State) : Out := vec2 .sub (.vsubS x) (sBinary 4 x) s
/-- VSUB. -/
def execVsubX (x : XFields) (s : State) : Out := vec2 .sub (.vsubX x) x s
/-- VAND, S form. -/
def execVandS (x : SVec) (s : State) : Out := vec2 .and (.vandS x) (sBinary 4 x) s
/-- VAND. -/
def execVandX (x : XFields) (s : State) : Out := vec2 .and (.vandX x) x s
/-- VOR, S form. -/
def execVorS (x : SVec) (s : State) : Out := vec2 .or (.vorS x) (sBinary 4 x) s
/-- VOR. -/
def execVorX (x : XFields) (s : State) : Out := vec2 .or (.vorX x) x s
/-- VXOR, S form. -/
def execVxorS (x : SVec) (s : State) : Out := vec2 .xor (.vxorS x) (sBinary 4 x) s
/-- VXOR. -/
def execVxorX (x : XFields) (s : State) : Out := vec2 .xor (.vxorX x) x s
/-- VMUL, S form. -/
def execVmulS (x : SVec) (s : State) : Out := vec2 .mul (.vmulS x) (sBinary 4 x) s
/-- VMUL. -/
def execVmulX (x : XFields) (s : State) : Out := vec2 .mul (.vmulX x) x s
/-- VMULH, S form. -/
def execVmulhS (x : SVec) (s : State) : Out := vec2 .mulh (.vmulhS x) (sBinary 4 x) s
/-- VMULH. -/
def execVmulhX (x : XFields) (s : State) : Out := vec2 .mulh (.vmulhX x) x s
/-- VSHL, S form. -/
def execVshlS (x : SVec) (s : State) : Out := vec2 .shl (.vshlS x) (sBinary 4 x) s
/-- VSHL. -/
def execVshlX (x : XFields) (s : State) : Out := vec2 .shl (.vshlX x) x s
/-- VSHR, S form. -/
def execVshrS (x : SVec) (s : State) : Out := vec2 .shr (.vshrS x) (sBinary 4 x) s
/-- VSHR. -/
def execVshrX (x : XFields) (s : State) : Out := vec2 .shr (.vshrX x) x s
/-- VSAR, S form. -/
def execVsarS (x : SVec) (s : State) : Out := vec2 .sar (.vsarS x) (sBinary 4 x) s
/-- VSAR. -/
def execVsarX (x : XFields) (s : State) : Out := vec2 .sar (.vsarX x) x s
/-- VMIN, S form. -/
def execVminS (x : SVec) (s : State) : Out := vec2 .min (.vminS x) (sBinary 4 x) s
/-- VMIN. -/
def execVminX (x : XFields) (s : State) : Out := vec2 .min (.vminX x) x s
/-- VMAX, S form. -/
def execVmaxS (x : SVec) (s : State) : Out := vec2 .max (.vmaxS x) (sBinary 4 x) s
/-- VMAX. -/
def execVmaxX (x : XFields) (s : State) : Out := vec2 .max (.vmaxX x) x s
/-- VNOT, S unary form. -/
def execVnotS (x : SVec) (s : State) : Out := vec1 complement (.vnotS x) (sUnary 4 x) s
/-- VNOT. -/
def execVnotX (x : XFields) (s : State) : Out := vec1 complement (.vnotX x) x s
/-- VCLZ, S unary form. -/
def execVclzS (x : SVec) (s : State) : Out := vec1 clz (.vclzS x) (sUnary 4 x) s
/-- VCLZ. -/
def execVclzX (x : XFields) (s : State) : Out := vec1 clz (.vclzX x) x s
/-- VPOPC, S unary form. -/
def execVpopcS (x : SVec) (s : State) : Out := vec1 popc (.vpopcS x) (sUnary 4 x) s
/-- VPOPC. -/
def execVpopcX (x : XFields) (s : State) : Out := vec1 popc (.vpopcX x) x s
/-- VBREV, S unary form. -/
def execVbrevS (x : SVec) (s : State) : Out := vec1 brev (.vbrevS x) (sUnary 4 x) s
/-- VBREV. -/
def execVbrevX (x : XFields) (s : State) : Out := vec1 brev (.vbrevX x) x s
/-- VABS, S unary form. -/
def execVabsS (x : SVec) (s : State) : Out := laneInt (fun t a _ _ => absOp false t a) (.vabsS x) (sUnary 4 x) s
/-- VABS. -/
def execVabsX (x : XFields) (s : State) : Out := laneInt (fun t a _ _ => absOp (x.sat ≠ 0) t a) (.vabsX x) x s
/-- VNEG, S unary form. -/
def execVnegS (x : SVec) (s : State) : Out := laneInt (fun t a _ _ => negOp false t a) (.vnegS x) (sUnary 4 x) s
/-- VNEG. -/
def execVnegX (x : XFields) (s : State) : Out := laneInt (fun t a _ _ => negOp (x.sat ≠ 0) t a) (.vnegX x) x s
/-- VMAD: a × b + c, one narrowing. -/
def execVmad (x : XFields) (s : State) : Out :=
  laneInt (fun t a b c => narrow (x.sat ≠ 0) t (intVal t a * intVal t b + intVal t c)) (.vmad x) x s

/-- The field of R451: position, length, and the bits of a; none when it is empty. -/
def bitField (w b c : Nat) : Option (Nat × Nat) :=
  let pos := b % 256
  let len := c % 256
  if w ≤ pos || len = 0 then none else some (pos, min len (w - pos))

/-- VBFE: extract a bit field (R451). -/
def execVbfe (x : XFields) (s : State) : Out :=
  laneInt (fun t a b c => match bitField (typeWidth t) b c with
    | none => 0
    | some (p, n) =>
      let f := a / 2 ^ p % 2 ^ n
      if signedType t then wrapTo (typeWidth t) (sext n f) else f) (.vbfe x) x s

/-- VBFI: insert a bit field into VD (R451). -/
def execVbfi (x : XFields) (s : State) : Out :=
  withIssue (.vbfi x) s (fun k =>
    let t := x.type.toNat
    .next (k.deliverV t (k.lanes.map (fun l =>
      let a := k.srcT t x.sa l
      let d := k.srcT t x.vd l
      match bitField (typeWidth t) (k.srcT t x.sb l) (k.srcT t x.sc l) with
      | none => { lane := l, x := d }
      | some (p, n) => { lane := l, x := d - (d / 2 ^ p % 2 ^ n) * 2 ^ p + (a % 2 ^ n) * 2 ^ p }))))

/-- VCMP (R452). -/
def execVcmp (x : XFields) (s : State) : Out :=
  withIssue (.vcmp x) s (fun k =>
    let t := x.type.toNat
    let c := (x.ext.extractLsb' 0 4).toNat
    .next (k.deliverK (k.lanes.map (fun l =>
      { lane := l, x := if condInt c (intVal t (k.srcT t x.sa l)) (intVal t (k.srcT t x.sb l)) then 1 else 0 }))))

/-- The type under which whole registers or pairs move unchanged (R452, R463). -/
def moveType (t : Nat) : Nat := if wide64 t then 7 else 5

/-- VSEL (R452). -/
def execVsel (x : XFields) (s : State) : Out :=
  withIssue (.vsel x) s (fun k =>
    let t := moveType x.type.toNat
    let m := k.kreg x.sc.toNat
    .next (k.deliverV t (k.lanes.map (fun l =>
      { lane := l, x := if m.getLsbD l then k.srcT t x.sa l else k.srcT t x.sb l }))))

/-- VMOV from a register: the w bits move unchanged (R452). -/
def vmov (i : Instr) (x : XFields) (s : State) : Out := laneInt (fun _ a _ _ => a) i x s

/-- VMOV, S unary form: INT32. -/
def execVmovS (x : SVec) (s : State) : Out := vmov (.vmovS x) (sUnary 4 x) s
/-- VMOV. -/
def execVmovX (x : XFields) (s : State) : Out := vmov (.vmovX x) x s
/-- VMOV of a literal. -/
def execVmovXl (x : XFields) (lit : Word) (s : State) : Out :=
  withIssue (.vmovXl x lit) s (fun k =>
    let t := x.type.toNat
    .next (k.deliverV t (k.lanes.map (fun l => { lane := l, x := lit.toNat % 2 ^ typeWidth t }))))

/-- VLEA (R453). -/
def vlea (i : Instr) (x : XFields) (off : Word) (s : State) : Out :=
  withIssue i s (fun k =>
    let t := x.type.toNat
    let sh := (x.ext.extractLsb' 0 3).toNat
    .next (k.deliverV 7 (k.lanes.map (fun l =>
      { lane := l, x := (k.srcP x.sa l + BitVec.ofInt 64 (intVal t (k.srcT t x.sb l)) * BitVec.ofNat 64 (2 ^ sh) + off).toNat }))))

/-- VLEA. -/
def execVleaX (x : XFields) (s : State) : Out := vlea (.vleaX x) x 0 s
/-- VLEA with an offset. -/
def execVleaXl (x : XFields) (lit : Word) (s : State) : Out := vlea (.vleaXl x lit) x lit s

end Sys2Proof.Machine
end

