-- ==== Sys2Proof/Machine/CrossLane.lean ====
section
/-! DEFINITION. Cross-lane instructions: movement, reductions, scans and ballots (12 R362, R363, 16 R462 to R464, 09 R279
to R281, 08 R255). A source lane is read when the instruction issues. -/
namespace Sys2Proof.Machine

/-! ## Movement (R463) -/

/-- Deliver moved registers: each active lane receives SA of its source lane. -/
def Ctx.move (k : Ctx) (src : Nat → Nat) (xbar : Bool) : State :=
  let t := moveType k.x.type.toNat
  k.deliver (k.lanes.map (fun l => { lane := l, x := k.srcT t k.x.sa (src l) }))
    (fun rs => k.writeV t (rs.map (fun r => (r.lane, r.x)))) xbar

/-- Source lane of VSHFL: MODE, N, and lane l of a set of n lanes from a base. -/
def shuffleLane (lw : Bool) (mode n l : Nat) : Nat :=
  let w := if lw then 16 else 32
  let base := l / w * w
  let p := l % w
  match mode with
  | 0 => base + n % w
  | 1 => if n ≤ p then base + (p - n) else l
  | 2 => if p + n < w then base + (p + n) else l
  | _ => base + (p ^^^ n) % w

/-- VSHFL. -/
def execVshfl (x : XFields) (s : State) : Out :=
  withIssue (.vshfl x) s (fun k =>
    .next (k.move (shuffleLane k.lw (x.ext.extractLsb' 0 2).toNat (x.ext.extractLsb' 2 5).toNat) true))

/-- VPERM. -/
def execVperm (x : XFields) (s : State) : Out :=
  withIssue (.vperm x) s (fun k =>
    .next (k.move (fun l => shuffleLane k.lw 0 ((k.srcV x.sb l).toNat % 32) l) true))

/-- VBCAST. -/
def execVbcast (x : XFields) (s : State) : Out :=
  withIssue (.vbcast x) s (fun k => .next (k.move (shuffleLane k.lw 0 (x.ext.extractLsb' 0 5).toNat) true))

/-- A register of another course as VNBR reads it: its own number, in its own profile; zero at or above its demand (R280). [DEDUCED, log 92] -/
def State.neighbourV (s : State) (cid reg lane : Nat) : Half :=
  let c := s.course cid
  let t := s.task (s.taskOf cid)
  if t.hdr.demand c.prof ≤ reg then 0 else c.readV t.interlock s.free reg lane

/-- The neighbour course in bench-group order (R225, R280): `d` is 1 for the next one and -1 for the previous one. -/
def State.neighbour (s : State) (cid : Nat) (d : Int) : Option Nat :=
  let c := s.course cid
  let g := s.group c.group
  let e := (s.task g.task).trec.extents
  let n : Int := ((extCX e + 1) * (extKX e + 1) : Nat)
  let at_ : Nat := ((((g.g * (extKX e + 1) + c.c : Nat) : Int) + d) % n).toNat
  ((s.courses.filter (fun p => p.2.c = at_ % (extKX e + 1) &&
      (let h := s.group p.2.group
       h.task = g.task && h.f = g.f && h.b = g.b && h.g = at_ / (extKX e + 1)))).map (·.1)).getLast?

/-- Can a neighbour be read: it is neither saved nor migrating (R281)? -/
def State.nbrReady (s : State) (cid : Nat) : Bool :=
  let c := s.course cid
  !(s.group c.group).saved && (match c.st with
    | .saved | .migrating _ => false
    | _ => true)

/-- VNBR: the neighbour lane, wrapping within the half under LW16, otherwise along the ring of the bench group. [DEDUCED, log 92] -/
def vnbr (left : Bool) (i : Instr) (x : XFields) (s : State) : Out :=
  withIssue i s (fun k =>
    let t := moveType x.type.toNat
    let reg := x.sa.toNat
    if k.lw then
      .next (k.move (fun l => l / 16 * 16 + (if left then l % 16 + 15 else l % 16 + 1) % 16) false)
    else
      let edge := if left then 0 else 31
      let far := if left then 31 else 0
      let crosses := k.active.getLsbD edge
      let nb := s.neighbour k.cid (if left then -1 else 1)
      let ok : Bool := match nb with
        | some n => s.nbrReady n
        | none => true
      if crosses && !ok then .next k.blocked
      else
        let other := fun (r : Nat) => match nb with
          | some n => s.neighbourV n r far
          | none => 0
        .next (k.deliver (k.lanes.map (fun l =>
            { lane := l
              x := if l = edge then
                     (if wide64 t then (other (reg + 1) ++ other reg).toNat else (other reg).toNat)
                   else k.srcT t x.sa (if left then l - 1 else l + 1) }))
          (fun rs => k.writeV t (rs.map (fun r => (r.lane, r.x))))))

/-- VNBR.left. -/
def execVnbrLeft (x : XFields) (s : State) : Out := vnbr true (.vnbrLeft x) x s
/-- VNBR.right. -/
def execVnbrRight (x : XFields) (s : State) : Out := vnbr false (.vnbrRight x) x s

/-! ## The reduction tree (R362, R363) -/

/-- A value in the tree and the events met in forming it. -/
structure TVal where
  x   : Nat
  evs : List Nat := []
  deriving DecidableEq, Repr

/-- One level: adjacent values combine; a lone value passes unchanged. -/
def pairUp (op : Nat → Nat → FRes) : List (Option TVal) → List (Option TVal)
  | a :: b :: r =>
    (match a, b with
     | some x, some y => let z := op x.x y.x; some { x := z.x, evs := x.evs ++ y.evs ++ [z.ev] }
     | some x, none => some x
     | none, y => y) :: pairUp op r
  | l => l

/-- n levels, to the root. -/
def treeRoot (op : Nat → Nat → FRes) : Nat → List (Option TVal) → Option TVal
  | 0, l => (l.head?).getD none
  | n + 1, l => treeRoot op n (pairUp op l)

/-- The operation of a node (R464): OP on a type, under RM or SAT. -/
def redOp (n : FEnv) (op t rm : Nat) (sat : Bool) (a b : Nat) : FRes :=
  if floatType t then
    (match op with
     | 0 => fadd n t rm a b
     | 1 => fminmax n t false a b
     | _ => fminmax n t true a b)
  else
    { x := (match op with
      | 0 => IntOp.result .add sat t a b 0
      | 1 => IntOp.result .min false t a b 0
      | 2 => IntOp.result .max false t a b 0
      | 3 => a &&& b
      | 4 => a ||| b
      | _ => a ^^^ b) }

/-- The identity of an operation (R363): EMPTY for a float minimum or maximum. -/
def redIdentity (op t : Nat) (pc : Word) : FRes :=
  if floatType t then (if op = 0 then { x := 0 } else { x := newNaN t 5 pc, ev := 5 })
  else { x := match op with
    | 1 => wrapTo (typeWidth t) (intMax t)
    | 2 => wrapTo (typeWidth t) (intMin t)
    | 3 => 2 ^ typeWidth t - 1
    | _ => 0 }

/-- Reduce the leaves that a set of lanes holds; `leaf` gives a lane's value, `lanes` the leaves in tree order. -/
def reduce (n : FEnv) (op t rm : Nat) (sat : Bool) (lanes : List Nat) (held : Nat → Bool) (leaf : Nat → Nat) : TVal :=
  match treeRoot (redOp n op t rm sat) 5 (lanes.map (fun l => if held l then some { x := leaf l } else none)) with
  | some v => v
  | none => let r := redIdentity op t n.pc; { x := r.x, evs := [r.ev] }

/-- The leaves of the issuing split's tree: all lanes, or those of its half (R362). -/
def Ctx.leaves (k : Ctx) : List Nat := lanesOf k.halfLanes

/-- Reduce over held lanes, each element position apart under PAIR. -/
def Ctx.reduction (k : Ctx) (held : Nat → Bool) : TVal :=
  let op := (k.x.ext.extractLsb' 4 3).toNat
  let t := k.x.type.toNat
  let go := fun (t : Nat) (leaf : Nat → Nat) => reduce k.fenv op t k.x.rm.toNat (k.x.sat ≠ 0) k.leaves held leaf
  if t = 13 then
    let a := go k.pairType (fun l => (k.srcV k.x.sa l).toNat % 65536)
    let b := go k.pairType (fun l => (k.srcV k.x.sa l).toNat / 65536)
    { x := a.x + 65536 * b.x, evs := a.evs ++ b.evs }
  else go t (fun l => k.srcT t k.x.sa l)

/-- VRED: a trapped event parks the course with all active lanes in MASK, and sd is not written. -/
def execVred (x : XFields) (s : State) : Out :=
  withIssue (.vred x) s (fun k =>
    let r := k.reduction (fun l => k.active.getLsbD l)
    let ws : List RegWrite := if x.nwb ≠ 0 then [] else [.s (k.skey x.vd.toNat) (fillScalar x.type.toNat r.x)]
    let e := trappedEvent k.c.trapmask r.evs
    if e = 0 then .next (k.issue ws)
    else .next (k.issueAt k.next [] .none (late := some { cause := 4, event := e, mask := k.active })).1)

/-- VSCAN, inclusive, or exclusive by EXT [26]. -/
def execVscan (x : XFields) (s : State) : Out :=
  withIssue (.vscan x) s (fun k =>
    let excl := x.ext.getLsbD 7
    .next (k.deliverV x.type.toNat (k.lanes.map (fun i =>
      let r := k.reduction (fun j => k.active.getLsbD j && (if excl then j < i else j ≤ i))
      { lane := i, x := r.x, evs := r.evs }))))

/-- VBALLOT: the active lanes whose 32-bit value is nonzero. -/
def execVballot (x : XFields) (s : State) : Out :=
  withIssue (.vballot x) s (fun k =>
    let m := (maskOf (k.lanes.filter (fun l => k.srcV x.sa l ≠ 0))).toNat
    .next (k.issue (if x.nwb ≠ 0 then [] else [.s (k.skey x.vd.toNat) (BitVec.ofNat 64 (m / 2 ^ (16 * k.half)))])))

end Sys2Proof.Machine
end

