-- ==== Sys2Proof/Machine/Host.lean ====
section
/-! DEFINITION. The host port and the host's commands: RoCEv2 packets, command messages, virtual devices, mappings, memory regions,
queue pairs, queues, live migration and events (02 R34 to R40, 04 R94 to R127). -/
namespace Sys2Proof.Machine

/-! ## RoCEv2 packets (02 R36 to R39, 01 R17, R32) -/

/-- A count that saturates at 48 bits (04 R122). -/
def bump (n : Nat) : Nat := min (n + 1) (2 ^ 48 - 1)

def State.hostReady (s : State) : Bool := s.plat.readyIo.getLsbD 0
def State.countFrame (s : State) : State := { s with host := { s.host with rxfrm := bump s.host.rxfrm } }
def State.setQp (s : State) (n : Nat) (q : Qp) : State := { s with host := { s.host with qps := tset s.host.qps n q } }
/-- An RNR NAK is sent and counted. -/
def State.sendRnr (s : State) (qpn : Nat) : State := { s with host := { s.host with rnr := bump s.host.rnr } }.send (.rnr qpn)
/-- A packet meets an RNR NAK: its queue pair expects it again, so that no later packet is performed before it (R38). -/
def State.rnrPkt (s : State) (p : RocePkt) : State := (s.setQp p.qpn { tgetD s.host.qps p.qpn {} with psn := p.psn }).sendRnr p.qpn
/-- A NAK (remote access error): the queue pair enters the error state (R37). -/
def State.nakAccess (s : State) (qpn : Nat) (q : Qp) : State := (s.setQp qpn { q with err := true }).send (.nak qpn 2)

/-- A marked packet draws one notification at most per queue pair and 50 µs (R36). -/
def State.notifyEcn (s : State) (qpn : Nat) (p : RocePkt) : State :=
  let q := tgetD s.host.qps qpn {}
  let due := match q.cnp with
    | some t => decide (t + 50 * usTicks ≤ s.now)
    | none => true
  if !p.ecn || !due then s
  else
    let s := s.setQp qpn { q with cnp := some s.now }
    { s with host := { s.host with cnp := bump s.host.cnp } }.send (.cnp qpn)

/-- Bytes of a packet's payload on a queue pair at most (R36, 04 R99). -/
def Qp.mtuBytes (q : Qp) : Nat := 1024 * 2 ^ q.mtu.toNat

/-- Packets of n bytes of data, at least one. -/
def Qp.packets (q : Qp) (n : Nat) : Nat := max 1 ((n + q.mtuBytes - 1) / q.mtuBytes)

/-- A frame that the port does not take is discarded and counted (R35, 04 R122). -/
def State.dropLong (s : State) : State := { s with host := { s.host with badtype := bump s.host.badtype } }

/-- Is the frame of a packet longer than the port takes: Ethernet header and FCS, IPv4 or IPv6 by the peer's GID, UDP, BTH, RETH or
immediate, ICRC, and its data (R35)? [PRESUMED, log 102] -/
def longPkt (p : RocePkt) : Bool := 9216 < 78 + p.data.length

/-- What a packet meets before it is performed: nothing while the port is down, nothing without a queue pair, RNR in Retention; a NAK when
it comes before one that is missing, and an acknowledgement alone when it has been performed; a NAK (invalid request) above the path MTU.
The queue pair then expects the packet after it, `n` further on (R36, R38). [PRESUMED, log 102] -/
def State.withPkt (s : State) (n : RocePkt → Qp → Nat) (again : Bool) (f : State → RocePkt → Qp → State) : Out :=
  match s.arg with
  | .pkt p =>
    let s := s.countFrame
    if !s.hostReady then .next s
    else if longPkt p then .next s.dropLong
    else
      match tget s.host.qps p.qpn with
      | none => .next s
      | some q =>
        let ahead := (p.psn - q.psn).toNat
        if q.err then .next s
        else if s.plat.cur = .retention then .next (s.sendRnr p.qpn)
        else
          let s := s.notifyEcn p.qpn p
          let q := tgetD s.host.qps p.qpn {}
          if ahead = 0 then
            if q.mtuBytes < p.data.length then .next ((s.setQp p.qpn { q with err := true }).send (.nak p.qpn 1))
            else
              let q := { q with psn := q.psn + BitVec.ofNat 24 (n p q) }
              .next (f (s.setQp p.qpn q) p q)
          else if ahead < 2 ^ 23 then .next (s.send (.nak p.qpn 0))
          else .next (if again then f s p q else s.send (.ack p.qpn))
  | _ => .next s

/-- One packet. -/
def onePkt (_ : RocePkt) (_ : Qp) : Nat := 1

/-- Does a region, or a migration's rkey, grant an access of n bytes (04 R107, R123)? -/
def State.granted (s : State) (q : Qp) (n : Nat) (p : RocePkt) (len bit : Nat) : Bool :=
  (match tget s.host.mrs p.rkey.toNat with
   | some m => decide (m.vd = n) && decide (m.va.toNat ≤ p.va.toNat) && decide (p.va.toNat + len ≤ m.va.toNat + m.len) && m.perm.testBit bit
   | none => false)
  || (q.mig && bit = 0 && (s.vd n).migKey = some p.rkey)

/-- Write a packet's bytes as immediate writes at system scope (R38, 21 R533). [DEDUCED, log 37] -/
def State.rdmaWrite (s : State) (p : RocePkt) (q : Qp) (needKey : Bool) : State :=
  match q.vd with
  | none => s.nakAccess p.qpn q
  | some n =>
    let v := s.vd n
    let len := p.data.length
    if (needKey && !s.granted q n p len 1) || 2 ^ 57 < p.va.toNat + len || !v.mapsAll p.va.toNat len || !v.allows p.va.toNat len 1 then s.nakAccess p.qpn q
    else if s.faceDown n p.va.toNat len then s.rnrPkt p
    else (s.pokeVA n none 4 p.va.toNat p.data).send (.ack p.qpn)

/-- ROCE_RDMA_WRITE and ROCE_RDMA_WRITE_IMM (.pkt p). -/
def execRoceRdmaWrite (s : State) : Out := s.withPkt onePkt false (fun s p q => s.rdmaWrite p q true)
def execRoceRdmaWriteImm (s : State) : Out := s.withPkt onePkt false (fun s p q => s.rdmaWrite p q true)

/-- The packets of an RDMA READ response (R36). -/
def State.sendRead (s : State) (qpn : Nat) (q : Qp) (l : List Byte) : State :=
  (List.range (q.packets l.length)).foldl (fun s i =>
    s.send (.readResp qpn (sliceB l (i * q.mtuBytes) (min q.mtuBytes (l.length - i * q.mtuBytes))) (i + 1 = q.packets l.length))) s

/-- RDMA READs of a queue pair whose responses wait for its priority: each counts until its last packet has left (R36). -/
def State.readsHeld (s : State) (qpn : Nat) : Nat :=
  s.host.held.countP (fun m => match m with
    | .readResp q _ last => q = qpn && last
    | _ => false)

/-- ROCE_RDMA_READ (.pkt p): committed memory with every write performed so far (R39); a range with uncorrectable data is refused
as one that fails; more than 64 outstanding responses are refused (R36). [DEDUCED, log 38; PRESUMED, log 102] -/
def execRoceRdmaRead (s : State) : Out :=
  s.withPkt (fun p q => q.packets p.len) true (fun s p q =>
    match q.vd with
    | none => s.nakAccess p.qpn q
    | some n =>
      let v := s.vd n
      if !s.granted q n p p.len 0 || 2 ^ 57 < p.va.toNat + p.len || !v.mapsAll p.va.toNat p.len || !(q.mig || v.allows p.va.toNat p.len 0) then
        s.nakAccess p.qpn q
      else if s.faceDown n p.va.toNat p.len then s.rnrPkt p
      else if s.poisoned n p.va.toNat p.len then s.nakAccess p.qpn q
      else if 64 ≤ s.readsHeld p.qpn then (s.setQp p.qpn { q with err := true }).send (.nak p.qpn 1)
      else s.sendRead p.qpn q (s.peekVA n p.va.toNat p.len))

/-- ROCE_ATOMIC_VERB (.pkt p): not supported; NAK (invalid request) (R36). [DEDUCED, log 39] -/
def execRoceAtomicVerb (s : State) : Out := s.withPkt onePkt false (fun s p _ => s.send (.nak p.qpn 1))

/-- The command that an opcode names (04 R98). -/
def cmdInstr (opc : Nat) : Option Instr :=
  match opc with
  | 0x01 => some .vdCreate
  | 0x02 => some .vdDestroy
  | 0x03 => some .vdQuery
  | 0x08 => some .migStart
  | 0x09 => some .migDirty
  | 0x0a => some .migStop
  | 0x0b => some .migResume
  | 0x0c => some .migAbort
  | 0x10 => some .regRead
  | 0x20 => some .qpCreate
  | 0x21 => some .qpDestroy
  | 0x22 => some .map
  | 0x23 => some .unmap
  | 0x24 => some .mrReg
  | 0x25 => some .mrDereg
  | 0x28 => some .queueCreate
  | 0x29 => some .queueDestroy
  | 0x2a => some .queueQuery
  | 0x2b => some .queueReset
  | 0x2c => some .featQuery
  | _ => none

/-- A command message from the bytes of a SEND (04 R96). -/
def cmdOf (qpn : Nat) (l : List Byte) : Cmd :=
  { qpn, ver := BitVec.ofNat 8 (fieldB l 0 1), opc := BitVec.ofNat 8 (fieldB l 1 1), flags := BitVec.ofNat 16 (fieldB l 2 2)
    tag := BitVec.ofNat 32 (fieldB l 4 4), len := fieldB l 8 2, params := l.drop 16, sendLen := l.length }

/-- Is a queue pair number a command channel's (04 R95)? -/
def isCmdQp (n : Nat) : Bool := n = 0x100 || (2 ^ 20 ≤ n && n % 256 = 0)

/-- A SEND: a command message starts its command in arrival order; on another queue pair its bytes are written where its
receive buffer lies, which the packet names (02 R38). [DEDUCED, log 37] -/
def State.takeSend (s : State) (p : RocePkt) (q : Qp) : State :=
  if !isCmdQp p.qpn then s.rdmaWrite p q false
  else
    let s := s.send (.ack p.qpn)
    let c := cmdOf p.qpn p.data
    if p.data.length < 16 || 256 < p.data.length then s.respond c 3 []
    else
      match cmdInstr c.opc.toNat with
      | some i => s.post s.now i (.cmd c)
      | none => s.respond c (if c.ver = 2 || c.ver = 3 then 2 else 1) []

/-- ROCE_SEND and ROCE_SEND_IMM (.pkt p). -/
def execRoceSend (s : State) : Out := s.withPkt onePkt false (fun s p q => s.takeSend p q)
def execRoceSendImm (s : State) : Out := s.withPkt onePkt false (fun s p q => s.takeSend p q)

/-- Send what waits on priorities that are no longer paused, in order (R36). -/
def State.resumeSends (s : State) : State :=
  let l := s.host.held
  l.foldl (fun s m => s.send m) { s with host := { s.host with held := [] } }

/-- PFC_PAUSE_RX (.nat prios 0 0): the peer pauses these priorities, and no others (02 R36, 04 R122). [DEDUCED, log 40] -/
def execPfcPauseRx (s : State) : Out :=
  match s.arg with
  | .nat p _ _ =>
    let s := s.countFrame
    .next (if s.hostReady then ({ s with host := { s.host with pfcrx := bump s.host.pfcrx, pause := BitVec.ofNat 8 p } } : State).resumeSends else s)
  | _ => .next s

/-- The EtherTypes that the port takes (R35). -/
def portTypes : List Nat := [0x0800, 0x86dd, 0x88b5, 0x8808]

/-- FRAME_DISCARD_ETHERTYPE (.nat etype bytes bad): a frame with another EtherType, or longer than 9,216 B, or an IPv4 or IPv6 frame that is not
UDP to port 4791 (`bad` 2), is discarded and counted, as is one with an uncorrectable FEC error or a bad FCS (`bad` 1); any other is none
to discard (02 R35, 04 R122). [DEDUCED, log 40] -/
def execFrameDiscardEthertype (s : State) : Out :=
  match s.arg with
  | .nat etype bytes bad =>
    let s := s.countFrame
    .next (if !s.hostReady then s
           else if bad = 1 then { s with host := { s.host with fcserr := bump s.host.fcserr } }
           else if !portTypes.contains etype || 9216 < bytes || bad = 2 then s.dropLong
           else s)
  | _ => .next s

/-- EVENT_SPACE_RETURN (.nat chan buffers 0): host software posts receive buffers (04 R119). -/
def execEventSpaceReturn (s : State) : Out :=
  match s.arg with
  | .nat ch n _ =>
    let c := tgetD s.chans ch {}
    let there := if ch = 64 then (tget s.host.qps 0x100).isSome else (tget s.vds ch).isSome
    if !there then .next s
    else .next ({ s with chans := tset s.chans ch { c with space := c.space + n } }.flushChan ch)
  | _ => .next s

/-! ## Commands (04 R96 to R102) -/

/-- Does a command wait on an object: a virtual device, or a range of one (R101)? -/
def State.vdWaits (s : State) (n : Nat) : Bool :=
  s.waits.any (fun w => w.vd = n && (w.cmd.opc = 0x02 || w.cmd.opc = 0x0a || w.cmd.opc = 0x0b || w.cmd.opc = 0x0c))
def State.rangeWaits (s : State) (n a len : Nat) : Bool :=
  s.waits.any (fun w => w.vd = n && w.cmd.opc = 0x23 && decide (w.obj < a + len) && decide (a < w.obj + w.len))
def State.queueWaits (s : State) (k : Nat) : Bool := s.waits.any (fun w => w.cmd.opc = 0x29 && w.obj = k)

/-- A field of a command's parameters. -/
def Cmd.field (c : Cmd) (off n : Nat) : Nat := fieldB c.params off n

/-- The first status that a message's form gives: version, opcode and channel, length (R96, R98, R100). -/
def Cmd.formStatus (c : Cmd) (opc : Nat) (modch v2 : Bool) (len : Nat) : Nat :=
  if c.ver ≠ 2 && c.ver ≠ 3 then 1
  else if c.opc.toNat ≠ opc || (c.ver = 2 && !v2) || decide (c.qpn = 0x100) ≠ modch then 2
  else if c.sendLen ≠ 16 + c.len || c.len ≠ len then 3 else 0

/-- What a command meets before its own checks: a port that is down, Retention, no command queue pair, a form that is refused.
`f` takes the device of the channel (0 on the module's) and performs the command with its answer. -/
def State.withCmd (s : State) (opc : Nat) (modch v2 : Bool) (len : Nat) (f : State → Cmd → Nat → State) : Out :=
  match s.arg with
  | .cmd c =>
    if !s.hostReady then .next s
    else
      match tget s.host.qps c.qpn with
      | none => .next s
      | some q =>
        if q.err || !isCmdQp c.qpn then .next s
        else if s.plat.cur = .retention then .next (s.sendRnr c.qpn)
        else
          let st := Cmd.formStatus c opc modch v2 len
          if st ≠ 0 then .next (s.respond c st [])
          else .next (f s c (q.vd.getD 0))
  | _ => .next s

/-- Does a device await the end of MIG_RESUME (R126)? -/
def VDev.awaits (v : VDev) : Bool := v.mig = .incoming || v.mig = .resuming || v.mig = .restoring

/-- A command on a virtual device's own channel: while the device is destroyed only QUEUE_QUERY (R101); while it awaits MIG_RESUME, only
what R126 accepts. -/
def State.withVd (s : State) (opc : Nat) (len : Nat) (early : Bool) (f : State → Cmd → Nat → State) : Out :=
  s.withCmd opc false true len (fun s c n =>
    let v := s.vd n
    if v.destroying && opc ≠ 0x2a then s.respond c 9 []
    else if !early && v.awaits then s.respond c 0xe []
    else f s c n)

/-- A command of the module's channel that names a virtual device in byte 0: NOT_FOUND without one, BUSY while one waits on it. -/
def State.withNamed (s : State) (opc : Nat) (v2 : Bool) (len : Nat) (always : Bool) (f : State → Cmd → Nat → VDev → State) : Out :=
  s.withCmd opc true v2 len (fun s c _ =>
    let n := Cmd.field c 0 1
    match tget s.vds n with
    | none => s.respond c 7 []
    | some v => if !always && (s.vdWaits n || v.destroying) then s.respond c 9 [] else f s c n v)

/-- A queue-pair block (R99); none when its MTU is refused. -/
def qpBlock (l : List Byte) (vd : Option Nat) : Option Qp :=
  if 2 < fieldB l 24 1 then none
  else some { vd, hqpn := BitVec.ofNat 24 (fieldB l 0 3), gid := sliceB l 4 16, psn := BitVec.ofNat 24 (fieldB l 20 3)
              mtu := BitVec.ofNat 2 (fieldB l 24 1), prio := BitVec.ofNat 3 (fieldB l 25 1) }

/-- Queue pairs of a device that count against its quota, and all of them, which count against the limit of 02 R36 (R95). -/
def State.vdQps (s : State) (n : Nat) : FMap Qp := s.host.qps.filter (fun p => p.2.vd = some n && !p.2.mig)
def State.allQps (s : State) (n : Nat) : FMap Qp := s.host.qps.filter (fun p => p.2.vd = some n)

/-- Move queue pairs to the error state. -/
def State.errQps (s : State) (ok : Nat → Qp → Bool) : State :=
  { s with host := { s.host with qps := s.host.qps.map (fun p => if ok p.1 p.2 then (p.1, { p.2 with err := true }) else p) } }

/-! ## Virtual devices (R103, R104) -/

/-- 2 MiB units of the module's memory: 32 faces of 48 GiB (00 R2). -/
def moduleUnits : Nat := 786432

/-- The next random bytes of the module's generator (03 R80, R86). -/
def State.drawRandom (s : State) (n : Nat) : List Byte × State :=
  (Config.random s.sec.draws n, { s with sec := { s.sec with draws := s.sec.draws + 1 } })

/-- VD_CREATE (.cmd c): two keys are drawn for a Confidential device (03 R80). -/
def execVdCreate (s : State) : Out :=
  s.withCmd 0x01 true true 64 (fun s c _ =>
    let conf := c.flags.getLsbD 0
    let memq := Cmd.field c 0 8
    let queues := Cmd.field c 8 2
    let qps := Cmd.field c 10 2
    let benches := Cmd.field c 16 8
    if s.sec.st = .unprovisioned then s.respond c 6 []
    else
      match qpBlock (c.params.drop 24) none with
      | none => s.respond c 3 []
      | some q =>
        if queues = 0 || 256 < queues || qps = 0 || 256 < qps || benches = 0 || (c.ver = 2 && conf) then s.respond c 3 []
        else if conf && s.sec.st ≠ .locked then s.respond c 6 []
        else
          match (List.range 64).find? (fun n => (tget s.vds n).isNone) with
          | none => s.respond c 4 []
          | some n =>
            if moduleUnits < ((s.vds.map (·.2.memq)).foldl (· + ·) 0) + memq || 8192 ≤ s.host.qps.length then s.respond c 4 []
            else
              let migin := c.flags.getLsbD 1
              let k := s.drawRandom 64
              let s := if conf then k.2 else s
              let s := s.setVd n { asid := n + 1, memq, queueq := queues, qpq := qps, benches := BitVec.ofNat 64 benches, conf, migin
                                   keys := if conf then some (sliceB k.1 0 32, sliceB k.1 32 32) else none
                                   mig := if migin then .incoming else .none }
              let s := { s with chans := tset s.chans n {} }
              (s.setQp (0x100000 + 256 * n) { q with vd := some n }).respond c 0 (leBytes 4 n ++ leBytes 4 (0x100000 + 256 * n)))

/-- Debug sessions go; each device keeps the highest level of those that are left. [DEDUCED, log 34] -/
def State.dropSessions (s : State) (ok : Nat → Dbg → Bool) : State :=
  let dbg := s.sec.dbg.filter (fun p => !ok p.1 p.2)
  { s with sec := { s.sec with dbg }
           vds := s.vds.map (fun (p : Nat × VDev) => (p.1, { p.2 with dbg := ((dbg.filter (fun d => d.2.vd = p.1)).map (·.2.level)).foldl max 0 })) }

/-- Debug sessions end, with a notice for each (03 R73, R92). -/
def State.endSessions (s : State) (ok : Dbg → Bool) (status : Nat) : State :=
  let gone := s.sec.dbg.filter (fun p => ok p.2)
  let s := gone.foldl (fun s p => s.mgmtNotice p.2.mac 0x22 status (leBytes 8 p.1)) s
  s.dropSessions (fun _ d => ok d)

/-- A command that waits for its completion. -/
def State.addWait (s : State) (w : CmdWait) : State := { s with waits := s.waits ++ [w] }

/-- Destruction begins: every queue drains with FORCE (R104). -/
def State.beginDestroy (s : State) (n : Nat) : State :=
  let s := s.setVd n { s.vd n with destroying := true }
  let s := ((s.vdQueues n).map (·.1)).foldl (fun s k => s.drainQueue k true) s
  s.postOnce (s.now + 1) .vdDestroyComplete (.nat n 0 0)

/-- VD_DESTROY (.cmd c); a device that awaits MIG_RESUME refuses it as every command that R126 does not accept. -/
def execVdDestroy (s : State) : Out :=
  s.withNamed 0x02 true 8 false (fun s c n v => if v.awaits then s.respond c 0xe [] else (s.addWait { cmd := c, vd := n }).beginDestroy n)

/-- A course whose view remembers nothing of some physical addresses. -/
def Course.without (out : Nat → Bool) (c : Course) : Course :=
  { c with stale := c.stale.filter (fun e => out e.addr), staleI := c.staleI.filter (fun e => out e.addr)
           loopI := c.loopI.filter (fun e => out e.addr), seen := c.seen.filter (fun e => out (e.1 % 2 ^ 64)) }

/-- Zero the backing of a device and give it back (R104): nothing of it is left to see in any view (00 R10). -/
def State.zeroBacking (s : State) (ms : List Mapping) : State :=
  let ps : List (Nat × Nat) := ms.flatMap (fun m => m.phys.map (fun b => (b, pageBytes m.page)))
  let out := fun (a : Nat) => ps.all (fun p => a < p.1 || p.1 + p.2 ≤ a)
  { s with dram := ps.foldl (fun d p => Memory.zero d p.1 p.2) s.dram, full := s.full.filter out, poison := s.poison.filter out
           courses := s.courses.map (fun (p : Nat × Course) => (p.1, p.2.without out))
           groups := s.groups.map (fun (p : Nat × Group) => (p.1, { p.2 with shadow := p.2.shadow.map (fun x => { x with courses := mapVals2 (Course.without out) x.courses }) })) }

/-- A device whose queues are gone: what is left of it, its queue pairs, memory, translations and debug sessions go; the keys of a
Confidential one are discarded once its memory is zero (03 R82); and its commands respond. -/
def State.finishDestroy (s : State) (n : Nat) : State :=
  let ms := (s.vd n).maps
  let s := s.discardDevice n
  let s := (s.zeroBacking ms).dropLines n 0 (2 ^ 64)
  let s := s.endSessions (fun d => d.vd = n) 0x13
  let mine := s.waits.filter (fun w => w.vd = n)
  let s : State := { s with vds := tdel s.vds n, waits := s.waits.filter (fun w => w.vd ≠ n), chans := tdel s.chans n
                            atlb := s.atlb.map (fun (p : Nat × List AtlbEntry) => (p.1, p.2.filter (fun e => e.vd ≠ n)))
                            host := { s.host with qps := s.host.qps.filter (fun p => p.2.vd ≠ some n), mrs := s.host.mrs.filter (fun p => p.2.vd ≠ n) } }
  mine.foldl (fun s w => s.respond w.cmd 0 []) s

/-- A line of 256 bytes as the stack holds it (03 R80): under AES-XTS-256 with a device's keys, the tweak being its physical address divided by 256. -/
def sealLine (k : List Byte × List Byte) (mem : List Host.Cell) (line : Nat) : List Byte := xtsEnc k.1 k.2 line (Memory.readN mem (line * 256) 256)

/-- A byte as the stack holds it (03 R80): of a page of a Confidential device, that of its line as encrypted; of any other, the byte itself.
`State.dram` keeps what a face controller gives for the byte: decrypted while the device maps the page. [DESIGN CHOICE, log 107] -/
def State.stored (s : State) (pa : Nat) : Byte :=
  match s.vds.findSome? (fun p => if (p.2.virt pa).isSome then p.2.keys else none) with
  | some k => (sealLine k s.dram (pa / 256)).getD (pa % 256) 0
  | none => Memory.read s.dram pa

/-- Pages that leave a Confidential device hold its ciphertext from then on, which no key decrypts any more (03 R80). -/
def State.sealPages (s : State) (n : Nat) (ps : List (Nat × Nat)) : State :=
  match (s.vd n).keys with
  | none => s
  | some k =>
    let lines := ps.flatMap (fun p => (List.range (p.2 / 256)).map (fun i => p.1 / 256 + i))
    { s with dram := lines.foldl (fun m l => Memory.writeL m (l * 256) (sealLine k m l)) s.dram }

/-- The pages, with their sizes, that a device's mappings hold in a range. -/
def VDev.pagesIn (v : VDev) (va len : Nat) : List (Nat × Nat) :=
  v.maps.flatMap (fun m => (List.range m.phys.length).filterMap (fun i =>
    let a := m.va + i * pageBytes m.page
    if va ≤ a && a < va + len then m.phys[i]?.map (fun b => (b, pageBytes m.page)) else none))

/-- VD_DESTROY_COMPLETE (.nat vd 0 0): the device goes once its queues are gone. -/
def execVdDestroyComplete (s : State) : Out :=
  match s.arg with
  | .nat n _ _ =>
    if !(s.vd n).destroying then .next s
    else if !(s.vdQueues n).isEmpty || (s.vdTasks n).any (fun p => p.2.st ≠ .done) then .next (s.postOnce (s.now + 1) .vdDestroyComplete (.nat n 0 0))
    else .next (s.finishDestroy n)
  | _ => .next s

/-- STATE of VD_QUERY (R100). -/
def VDev.stateCode (v : VDev) : Nat :=
  if v.destroying then 4
  else if v.awaits then 3
  else if v.mig = .stopped then 2
  else if v.ck = .stopped then 1 else 0

/-- VD_QUERY (.cmd c). -/
def execVdQuery (s : State) : Out :=
  s.withNamed 0x03 true 8 true (fun s c n v =>
    let attr := (if v.conf then 1 else 0) + (if v.migin then 2 else 0) + (if v.mig = .tracking || v.mig = .stopping || v.mig = .stopped then 4 else 0)
    s.respond c 0 (leBytes 1 n ++ leBytes 1 v.stateCode ++ leBytes 1 attr ++ leBytes 1 0 ++ leBytes 4 v.asid ++ leBytes 8 v.memq ++ leBytes 8 v.used
      ++ leBytes 2 v.queueq ++ leBytes 2 (s.vdQueues n).length ++ leBytes 2 v.qpq ++ leBytes 2 (s.vdQps n).length
      ++ leBytes 8 v.benches.toNat ++ leBytes 8 (s.featVer v.migs)))

/-- FEAT_QUERY (.cmd c). -/
def execFeatQuery (s : State) : Out :=
  s.withVd 0x2c 0 false (fun s c n => s.respond c 0 (leBytes 8 (s.featVer (s.vd n).migs) ++ leBytes 8 0x3f))

/-! ## Queue pairs and memory regions (R95, R100, R107) -/

/-- QP_CREATE (.cmd c): the lowest number that is free. -/
def execQpCreate (s : State) : Out :=
  s.withVd 0x20 32 true (fun s c n =>
    match qpBlock c.params (some n) with
    | none => s.respond c 3 []
    | some q =>
      let free := (List.range 256).find? (fun i => (tget s.host.qps (0x100000 + 256 * n + i)).isNone)
      match free with
      | some i =>
        if (s.vd n).qpq ≤ (s.vdQps n).length || 256 ≤ (s.allQps n).length || 8192 ≤ s.host.qps.length then s.respond c 4 []
        else (s.setQp (0x100000 + 256 * n + i) q).respond c 0 (leBytes 4 (0x100000 + 256 * n + i) ++ leBytes 4 0)
      | none => s.respond c 4 [])

/-- QP_DESTROY (.cmd c); the device's migration queue pair is none that it names: NOT_FOUND (R100). [DESIGN CHOICE, log 109] -/
def execQpDestroy (s : State) : Out :=
  s.withVd 0x21 8 false (fun s c n =>
    let k := Cmd.field c 0 4
    match tget s.host.qps k with
    | some q =>
      if q.vd ≠ some n || q.mig then s.respond c 7 []
      else if k % 256 = 0 then s.respond c 3 []
      else ({ s with host := { s.host with qps := tdel s.host.qps k } }).respond c 0 []
    | none => s.respond c 7 [])

/-- An rkey that is not in use: the module chooses it. [DESIGN CHOICE, log 41] -/
def State.newRkey (s : State) : Nat × State :=
  let r := s.choose
  let used := s.host.mrs.map (·.1) ++ s.vds.filterMap (fun p => p.2.migKey.map (·.toNat))
  let k := (List.range (used.length + 1)).find? (fun i => !used.contains ((s.host.nextKey + r.1 + i) % 2 ^ 32))
  let key := (s.host.nextKey + r.1 + k.getD 0) % 2 ^ 32
  (key, { r.2 with host := { r.2.host with nextKey := (key + 1) % 2 ^ 32 } })

/-- MR_REG (.cmd c). -/
def execMrReg (s : State) : Out :=
  s.withVd 0x24 24 true (fun s c n =>
    if 1024 ≤ (s.host.mrs.filter (fun p => p.2.vd = n)).length then s.respond c 4 []
    else
      let r := s.newRkey
      let m : MemRegion := { vd := n, va := BitVec.ofNat 64 (Cmd.field c 0 8), len := Cmd.field c 8 8, perm := Cmd.field c 16 1 % 4, rkey := BitVec.ofNat 32 r.1 }
      ({ r.2 with host := { r.2.host with mrs := tset r.2.host.mrs r.1 m } }).respond c 0 (leBytes 4 r.1 ++ leBytes 4 0))

/-- MR_DEREG (.cmd c). -/
def execMrDereg (s : State) : Out :=
  s.withVd 0x25 8 false (fun s c n =>
    let k := Cmd.field c 0 4
    match tget s.host.mrs k with
    | some m => if m.vd ≠ n then s.respond c 7 [] else ({ s with host := { s.host with mrs := tdel s.host.mrs k } }).respond c 0 []
    | none => s.respond c 7 [])

/-! ## Mappings (R105, R106) -/

/-- 2 MiB units that mappings use: their total length, rounded up (R105). [DESIGN CHOICE, log 109] -/
def unitsOf (ms : List Mapping) : Nat := ((ms.map (·.len)).foldl (· + ·) 0 + 2097151) / 2097152

/-- The allocated intervals of a face: base and end. -/
def State.faceUsed (s : State) (f : Nat) (more : List (Nat × Nat)) : List (Nat × Nat) :=
  (s.vds.flatMap (fun p => p.2.maps.flatMap (fun m => m.phys.map (fun b => (b, b + pageBytes m.page)))) ++ more).filter (fun p => faceOf p.1 = f)

/-- The lowest free page of a face: 48 GiB (00 R2). [DESIGN CHOICE, log 8] -/
def State.freePage (s : State) (f size : Nat) (more : List (Nat × Nat)) : Option Nat :=
  let used := s.faceUsed f more
  let base := f * 2 ^ 36
  let cand := base :: used.map (fun p => (p.2 + size - 1) / size * size)
  (sortBy (fun (a b : Nat) => a ≤ b) cand).find? (fun a => a + size ≤ base + 51539607552 && used.all (fun p => a + size ≤ p.1 || p.2 ≤ a))

/-- Backing for n pages, round-robin on the faces in ascending order; none when a face has no room. [DESIGN CHOICE, log 8] -/
def State.backing (s : State) (faces : List Nat) (size : Nat) : Nat → Nat → List (Nat × Nat) → Option (List Nat)
  | 0, _, _ => some []
  | n + 1, i, got =>
    match s.freePage (faces.getD (i % max 1 faces.length) 0) size got with
    | none => none
    | some a => (s.backing faces size n (i + 1) ((a, a + size) :: got)).map (fun r => a :: r)

/-- Mappings in rising order. -/
def putMap (m : Mapping) : List Mapping → List Mapping
  | [] => [m]
  | x :: r => if m.va < x.va then m :: x :: r else x :: putMap m r

/-- MAP (.cmd c). With (.object vd va len stepping) it is the loader's word that it has placed a code object there, in the order of loading (13
R397). [DESIGN CHOICE, log 108] -/
def execMap (s : State) : Out :=
  match s.arg with
  | .object n va len step => .next (if (tget s.vds n).isSome then s.setVd n { s.vd n with notes := (s.vd n).notes ++ [(va, len, step)] } else s)
  | _ =>
  s.withVd 0x22 32 true (fun s c n =>
    let va := Cmd.field c 0 8
    let len := Cmd.field c 8 8
    let page := Cmd.field c 16 1
    let size := pageBytes page
    let faces := (List.range 32).filter (fun i => (Cmd.field c 20 4).testBit i)
    let v := s.vd n
    if 2 < page || len = 0 || va % size ≠ 0 || len % size ≠ 0 || 2 ^ 57 < va + len || faces.isEmpty then s.respond c 3 []
    else if s.rangeWaits n va len then s.respond c 9 []
    else if v.maps.any (fun m => m.va < va + len && va < m.va + m.len) then s.respond c 8 []
    else
      let m : Mapping := { va, len, page, perm := BitVec.ofNat 3 (Cmd.field c 17 1) }
      let units := unitsOf (m :: v.maps)
      if v.memq < units then s.respond c 4 []
      else
        match s.backing faces size (len / size) 0 [] with
        | none => s.respond c 4 []
        | some phys =>
          let m := { m with phys }
          let s := s.zeroBacking [m]
          let s := s.setVd n { s.vd n with maps := putMap m (s.vd n).maps, used := units, unmaps := (s.vd n).unmaps.filter (fun u => !(va ≤ u.1 && u.1 + u.2 ≤ va + len)) }
          (s.respond c 0 []).initQueues n)

/-- What is left of a mapping outside a range of whole pages. -/
def Mapping.without (m : Mapping) (a e : Nat) : List Mapping :=
  let size := pageBytes m.page
  let lo := if m.va < a then [{ m with len := min m.len (a - m.va), phys := m.phys.take ((a - m.va) / size) }] else []
  let hi := if e < m.va + m.len then
      [{ m with va := max e m.va, len := m.va + m.len - max e m.va, phys := m.phys.drop ((max e m.va - m.va) / size) }] else []
  if m.va + m.len ≤ a || e ≤ m.va then [m] else lo ++ hi

/-- Buffered stores of a device to a range of which an UNMAP takes hold: they are discarded when they commit, whatever is mapped there
by then (R106). -/
def State.loseStores (s : State) (n va len : Nat) : State :=
  { s with courses := s.courses.map (fun (p : Nat × Course) =>
      if (s.task (s.group p.2.group).task).vd ≠ n then p
      else (p.1, { p.2 with buf := p.2.buf.map (fun e => match e.loc with
        | .glob a => if va ≤ a && a < va + len && e.lost.isNone then { e with lost := some va } else e
        | _ => e) })) }

/-- UNMAP (.cmd c): new translations fail from now on; cached translations are dropped; the answer follows (R106). -/
def execUnmap (s : State) : Out :=
  s.withVd 0x23 16 false (fun s c n =>
    let va := Cmd.field c 0 8
    let len := Cmd.field c 8 8
    let v := s.vd n
    let whole := v.maps.all (fun m => m.va + m.len ≤ va || va + len ≤ m.va ||
      ((max va m.va - m.va) % pageBytes m.page = 0 && (min (va + len) (m.va + m.len) - m.va) % pageBytes m.page = 0))
    if !whole then s.respond c 3 []
    else if s.rangeWaits n va len then s.respond c 9 []
    else
      let maps := v.maps.flatMap (fun m => m.without va (va + len))
      let s := (s.sealPages n (v.pagesIn va len)).setVd n { v with maps, used := unitsOf maps, unmaps := (va, len) :: v.unmaps }
      let s : State := { s with atlb := s.atlb.map (fun (p : Nat × List AtlbEntry) => (p.1, p.2.filter (fun e => !(e.vd = n && va ≤ e.granule * 65536 && e.granule * 65536 < va + len))))
                                waits := s.waits ++ [{ cmd := c, vd := n, obj := va, len }] }
      (((s.loseStores n va len).dropUnmapped n).dropLines n va len).post (s.now + 1) .unmapComplete (.nat n va len))

/-- UNMAP_COMPLETE (.nat vd va len): the command responds. -/
def execUnmapComplete (s : State) : Out :=
  match s.arg with
  | .nat n va len =>
    let mine := s.waits.filter (fun w => w.cmd.opc = 0x23 && w.vd = n && w.obj = va && w.len = len)
    let s := { s with waits := s.waits.filter (fun w => !(w.cmd.opc = 0x23 && w.vd = n && w.obj = va && w.len = len)) }
    .next (mine.foldl (fun s w => s.respond w.cmd 0 []) s)
  | _ => .next s

/-! ## Queues (R108 to R117) -/

/-- The version 2 form of a handle (R102). -/
def handleV2 (h : Word) : Nat := bits h.toNat 45 34 * 2 ^ 20 + h.toNat % 2 ^ 20

/-- A handle as a command's version writes it. -/
def Cmd.handleBytes (c : Cmd) (h : Word) : List Byte := leBytes 8 (if c.ver = 2 then (if h = 0 then 0 else handleV2 h) else h.toNat)

/-- A handle field of a command: BAD_PARAM (none) when a version 2 message sets its upper half; the full handle, or 0 when a
version 2 form names no current queue (R102). -/
def Cmd.handle (c : Cmd) (s : State) (x : Nat) : Option Word :=
  if c.ver ≠ 2 then some (BitVec.ofNat 64 x)
  else if 2 ^ 32 ≤ x then none
  else
    let k := bits x 31 20
    let q := s.queue k
    some (if q.live && q.gen % 2 ^ 20 = x % 2 ^ 20 then s.queueHandle k else 0)

/-- Is a fault queue or status queue handle usable: 0, another module's fault queue, or current and of the kind (R110); a version 2
message names a fault queue of the same device alone (R102)? -/
def State.namesKind (s : State) (c : Cmd) (n : Nat) (h : Word) (kind : Nat) : Bool :=
  if bits h.toNat 63 52 ≠ s.fab.modid.toNat && kind = 1 && c.ver ≠ 2 then true
  else
    match s.findQueue h with
    | some k => (s.queue k).kind = kind && !(c.ver = 2 && kind = 1 && (s.queue k).vd ≠ n)
    | none => false

/-- QUEUE_CREATE (.cmd c): the checks in the order of R110. [DEDUCED, log 44] -/
def execQueueCreate (s : State) : Out :=
  s.withVd 0x28 128 false (fun s c n =>
    let v := s.vd n
    let base := Cmd.field c 0 8
    let tailva := Cmd.field c 8 8
    let headva := Cmd.field c 16 8
    let resv := BitVec.ofNat 64 (Cmd.field c 40 8)
    let size := Cmd.field c 48 1 % 32
    let kind := Cmd.field c 49 1 % 4
    let home := Cmd.field c 50 1 % 64
    let expect := Cmd.field c 96 8
    let f0 := Cmd.field c 24 8
    let s0 := Cmd.field c 32 8
    match Cmd.handle c s f0, Cmd.handle c s s0 with
    | some fh, some sh =>
      if base % 4096 ≠ 0 || 2 ^ 57 ≤ base || (kind ≠ 2 && (tailva % 8 ≠ 0 || headva % 8 ≠ 0)) || size < 4 || (if c.ver = 2 then 16 else 20) < size
          || kind = 3 || !v.benches.getLsbD home || resv &&& ~~~v.benches ≠ 0 then s.respond c 3 []
      else if v.mig = .stopping || v.mig = .stopped then s.respond c 0xe []
      else
        (match (List.range 4096).find? (fun k => !(s.queue k).live) with
        | none => s.respond c 4 []
        | some k =>
          if v.queueq ≤ (s.vdQueues n).length then s.respond c 4 []
          else if !s.plat.readyBench.getLsbD home then s.respond c 5 []
          else if s.queues.any (fun p => p.2.live && p.2.resv &&& resv ≠ 0) then s.respond c 8 []
          else if (f0 ≠ 0 && !s.namesKind c n fh 1) || (s0 ≠ 0 && !s.namesKind c n sh 2) then s.respond c 7 []
          else if c.ver = 3 && expect ≠ 0 && expect ≠ s.featVer v.migs then s.respond c 0xb []
          else
            let g := nextGen (tget s.qgens k)
            let q : Queue := { vd := n, gen := g, kind, prio := bits (Cmd.field c 49 1) 6 4, size, base := BitVec.ofNat 64 base
                               tailva := BitVec.ofNat 64 tailva, headva := BitVec.ofNat 64 headva, home, faultq := if f0 = 0 then 0 else fh
                               statusq := if s0 = 0 then 0 else sh, resv, tEntry := BitVec.ofNat 64 (Cmd.field c 64 8)
                               tBudget := Cmd.field c 72 (if c.ver = 2 then 4 else 5), tDeadline := Cmd.field c 80 6, tExtents := BitVec.ofNat 64 (Cmd.field c 88 8)
                               inited := kind = 2, expect := BitVec.ofNat 64 expect, st := if v.ck = .running then .active else .stopped }
            let s := { s with queues := tset s.queues k q, qgens := tset s.qgens k g }
            let s := s.initQueue k
            s.respond c 0 (Cmd.handleBytes c (s.queueHandle k)))
    | _, _ => s.respond c 3 [])

/-- A command on a queue: NOT_FOUND for a handle that is stale or of another device. -/
def State.withQueue (s : State) (c : Cmd) (n : Nat) (f : Nat → State) : State :=
  match Cmd.handle c s (Cmd.field c 0 8) with
  | none => s.respond c 3 []
  | some h =>
    match s.findQueue h with
    | none => s.respond c 7 []
    | some k => if (s.queue k).vd ≠ n then s.respond c 7 [] else f k

/-- QUEUE_DESTROY (.cmd c): waits until no unit of the queue is left; a second one with FORCE joins the first (R101, R117). -/
def execQueueDestroy (s : State) : Out :=
  s.withVd 0x29 8 false (fun s c n =>
    s.withQueue c n (fun k =>
      let force := c.flags.getLsbD 0
      if s.queueWaits k && !force then s.respond c 9 []
      else if s.queueNamed k then s.respond c 8 []
      else (s.addWait { cmd := c, vd := n, obj := k }).drainQueue k force))

/-- QUEUE_QUERY (.cmd c): the descriptor of R109. -/
def execQueueQuery (s : State) : Out :=
  s.withVd 0x2a 8 false (fun s c n =>
    s.withQueue c n (fun k =>
      let q := s.queue k
      s.respond c 0 (leBytes 8 q.base.toNat ++ leBytes 8 q.tailva.toNat ++ leBytes 8 q.headva.toNat ++ Cmd.handleBytes c q.faultq ++ Cmd.handleBytes c q.statusq
        ++ leBytes 8 q.resv.toNat ++ leBytes 1 q.size ++ leBytes 1 (q.kind + 16 * q.prio) ++ leBytes 1 q.home ++ leBytes 1 q.st.code
        ++ leBytes 4 (if q.inited then q.head else 0) ++ Cmd.handleBytes c (s.queueHandle k) ++ leBytes 8 q.tEntry.toNat ++ leBytes 8 q.tBudget
        ++ leBytes 8 q.tDeadline ++ leBytes 8 q.tExtents.toNat ++ leBytes 8 (s.featVer (s.vd n).migs) ++ leBytes 24 0)))

/-- QUEUE_RESET (.cmd c) (R115). -/
def execQueueReset (s : State) : Out :=
  s.withVd 0x2b 8 false (fun s c n =>
    s.withQueue c n (fun k =>
      if s.queueWaits k then s.respond c 9 []
      else if (s.queue k).st ≠ .error then s.respond c 6 []
      else (s.resetQueue k (c.flags.getLsbD 0)).respond c 0 []))

/-! ## Live migration (R123 to R127) -/

/-- The number of a device's migration queue pair (R95). -/
def migQp (n : Nat) : Nat := 0x200 + n

/-- MIG_START (.cmd c): tracking begins; a migration queue pair and an rkey that reads every mapping. While a migration is in force it is
answered WRONG_STATE (R123). [DESIGN CHOICE, log 109] -/
def execMigStart (s : State) : Out :=
  s.withNamed 0x08 false 40 false (fun s c n v =>
    match qpBlock (c.params.drop 8) (some n) with
    | none => s.respond c 3 []
    | some q =>
      if v.conf then s.respond c 0xa []
      else if v.dbg ≠ 0 then s.respond c 0xd []
      else if v.awaits then s.respond c 0xe []
      else if v.mig ≠ .none then s.respond c 6 []
      else if 256 ≤ (s.allQps n).length || 8192 ≤ s.host.qps.length then s.respond c 4 []
      else
        let r := s.newRkey
        let s := r.2.setVd n { v with mig := .tracking, dirty := [], migKey := some (BitVec.ofNat 32 r.1) }
        (s.setQp (migQp n) { q with mig := true }).respond c 0 (leBytes 4 (migQp n) ++ leBytes 4 r.1))

/-- MIG_DIRTY (.cmd c): the dirty bits of N granules are read and cleared (R124); without a migration it is answered WRONG_STATE. [DESIGN CHOICE, log 109] -/
def execMigDirty (s : State) : Out :=
  s.withNamed 0x09 false 16 false (fun s c n v =>
    let cnt := Cmd.field c 4 2
    let va := Cmd.field c 8 8
    if va % 65536 ≠ 0 || cnt = 0 || 1536 < cnt then s.respond c 3 []
    else if v.awaits then s.respond c 0xe []
    else if v.mig ≠ .tracking && v.mig ≠ .stopped then s.respond c 6 []
    else
      let g := va / 65536
      let on := fun (i : Nat) => v.dirty.contains (g + i) && (v.phys ((g + i) * 65536)).isSome
      let val := ((List.range cnt).map (fun i => if on i then 2 ^ i else 0)).foldl (· + ·) 0
      let s := s.setVd n { v with dirty := v.dirty.filter (fun x => x < g || g + cnt ≤ x) }
      s.respond c 0 (leBytes ((cnt + 7) / 8) val))

/-- MIG_STOP (.cmd c) (R125). [DEDUCED, log 42] -/
def execMigStop (s : State) : Out :=
  s.withNamed 0x0a false 24 false (fun s c n v =>
    if v.conf then s.respond c 0xa []
    else if v.awaits then s.respond c 0xe []
    else if v.mig ≠ .tracking || v.ck ≠ .running then s.respond c 6 []
    else if s.unsaveable n then s.respond c 4 []
    else
      let s := s.addWait { cmd := c, vd := n }
      let s := s.errQps (fun k q => q.vd = some n && !q.mig && k % 256 ≠ 0)
      ((s.setVd n { v with mig := .stopping }).stopDevice n).post (s.now + 1) .migStopComplete (.nat n 0 0))

/-- End tracking: queues and groups run again where MIG_STOP had stopped them (R127). [DEDUCED, log 42] -/
def State.abortMig (s : State) (n : Nat) : State :=
  let stopped := (s.vd n).mig = .stopped
  let s := s.setVd n { s.vd n with mig := .none, dirty := [], migKey := none }
  let s : State := { s with host := { s.host with qps := tdel s.host.qps (migQp n) } }
  if stopped then s.startDevice n else s

/-- Respond to the commands of an opcode that wait on a device. -/
def State.respondWaits (s : State) (n opc status : Nat) (params : List Byte) : State :=
  let mine := s.waits.filter (fun w => w.vd = n && w.cmd.opc.toNat = opc)
  mine.foldl (fun s w => s.respond w.cmd status params) { s with waits := s.waits.filter (fun w => !(w.vd = n && w.cmd.opc.toNat = opc)) }

/-- MIG_STOP_COMPLETE (.nat vd 0 0): the blob is written at BLOBVA; a MIG_ABORT that came meanwhile then takes effect. -/
def execMigStopComplete (s : State) : Out :=
  match s.arg with
  | .nat n _ _ =>
    if (s.vd n).mig ≠ .stopping then .next s
    else if !s.deviceStill n then .next (s.postOnce (s.now + 1) .migStopComplete (.nat n 0 0))
    else
      match s.waits.find? (fun w => w.vd = n && w.cmd.opc = 0x0a) with
      | none => .next s
      | some w =>
        let len := (Config.blobBytes (s.blobOf n)).length
        let s := if Cmd.field w.cmd 16 8 < len then
            (s.setVd n { s.vd n with mig := .stopped }).respondWaits n 0x0a 4 []
          else
            let s := s.writeBlob n (Cmd.field w.cmd 8 8)
            (s.setVd n { s.vd n with mig := .stopped }).respondWaits n 0x0a 0 (leBytes 8 len)
        .next (if s.waits.any (fun w => w.vd = n && w.cmd.opc = 0x0c) then (s.abortMig n).respondWaits n 0x0c 0 [] else s)
  | _ => .next s

/-- MIG_ABORT (.cmd c): it waits for a MIG_STOP under way. [DEDUCED, log 42] -/
def execMigAbort (s : State) : Out :=
  s.withNamed 0x0c false 8 true (fun s c n v =>
    match v.mig with
    | .tracking | .stopped => (s.abortMig n).respond c 0 []
    | .stopping => { s with waits := s.waits ++ [{ cmd := c, vd := n }] }
    | .incoming | .resuming | .restoring => s.respond c 0xe []
    | .none => s.respond c 6 [])

/-- Is an index that a blob's queues need taken on this module (R126 step 1)? -/
def State.taken (s : State) (n va : Nat) : Bool := (s.blobIn n va).queues.any (fun x => (s.queue x.idx).live)

/-- MIG_RESUME (.cmd c) (R126); a Confidential device does not migrate (03 R82). [DEDUCED, log 42] -/
def execMigResume (s : State) : Out :=
  s.withNamed 0x0b false 24 false (fun s c n v =>
    if v.conf then s.respond c 0xa []
    else if !v.migin || v.mig ≠ .incoming then s.respond c 6 []
    else
      if s.taken n (Cmd.field c 8 8) then s.respond c 8 []
      else ((s.addWait { cmd := c, vd := n }).setVd n { v with mig := .resuming }).post (s.now + 1) .migResumeComplete (.nat n 0 0))

/-- MIG_RESUME_COMPLETE (.nat vd 0 0): first the device is rebuilt from its blob, and its saved groups may be placed (R126 steps 1 to 3); an
index that another queue has taken meanwhile refuses the command. Once they are all restored, MIGS counts, its queues are ACTIVE, the command responds and MIG_DONE is posted (steps 4 to 7), with the clock of die 0 (R118). [DESIGN CHOICE, log 109] -/
def execMigResumeComplete (s : State) : Out :=
  match s.arg with
  | .nat n _ _ =>
    let again := fun (s : State) => s.postOnce (s.now + 1) .migResumeComplete (.nat n 0 0)
    match s.waits.find? (fun w => w.vd = n && w.cmd.opc = 0x0b) with
    | none => .next s
    | some w =>
      match (s.vd n).mig with
      | .resuming =>
        if s.taken n (Cmd.field w.cmd 8 8) then .next ((s.setVd n { s.vd n with mig := .incoming }).respondWaits n 0x0b 8 [])
        else
          let b := (s.blobIn n (Cmd.field w.cmd 8 8)).within s n
          let s := (s.rebuild n b false (Cmd.field w.cmd 16 6)).killLateOf n
          .next (again (s.setVd n { s.vd n with mig := .restoring, migsIn := b.migs, notes := b.notes }))
      | .restoring =>
        if !s.revived n then .next (again s)
        else
          let migs := ((s.vd n).migsIn + 1) % 65536
          let s := s.setVd n { s.vd n with mig := .none, migs }
          let s := (s.startDevice n).respondWaits n 0x0b 0 []
          .next (s.event n 6 n 0 0 (leBytes 8 (s.featVer migs) ++ leBytes 8 0))
      | _ => .next s
  | _ => .next s

end Sys2Proof.Machine
end

