-- ==== Sys2Proof/Machine/Masks.lean ====
section
/-! DEFINITION. Mask operations (15 R430). Under LW16 a half's bits are read at bits [15:0] and written at their place. -/
namespace Sys2Proof.Machine

/-- Bits a mask operation sees of a register: the half's own at [15:0] under LW16. [DEDUCED, log 80] -/
def Ctx.maskBits (k : Ctx) (n : Nat) : Nat :=
  if k.lw then ((k.kreg n).toNat >>> (16 * k.half)) % 2 ^ 16 else (k.kreg n).toNat

/-- Number of mask bits an instruction sees. -/
def Ctx.maskWidth (k : Ctx) : Nat := if k.lw then 16 else 32

/-- The write of a mask register from bits as seen. [DEDUCED, log 80] -/
def Ctx.maskWrite (k : Ctx) (n : Nat) (x : Nat) : RegWrite :=
  .k n k.halfLanes (BitVec.ofNat 32 (if k.lw then (x % 2 ^ 16) <<< (16 * k.half) else x))

/-- A mask operation of two sources. -/
def mask2 (f : Nat → Nat → Nat) (i : Instr) (s : State) : Out :=
  regInstr i s (fun k => [k.maskWrite k.x.vd.toNat (f (k.maskBits k.x.sa.toNat) (k.maskBits k.x.sb.toNat))])

/-- A scalar result from one mask: a function of the width and the bits. -/
def maskToScalar (f : Nat → Nat → Nat) (i : Instr) (s : State) : Out :=
  regInstr i s (fun k => [.s (k.skey k.x.vd.toNat) (BitVec.ofNat 64 (f k.maskWidth (k.maskBits k.x.sa.toNat)))])

/-- KAND. -/
def execKand (x : XFields) (s : State) : Out := mask2 (· &&& ·) (.kand x) s
/-- KOR. -/
def execKor (x : XFields) (s : State) : Out := mask2 (· ||| ·) (.kor x) s
/-- KXOR. -/
def execKxor (x : XFields) (s : State) : Out := mask2 (· ^^^ ·) (.kxor x) s
/-- KNOT. -/
def execKnot (x : XFields) (s : State) : Out := mask2 (fun a _ => 2 ^ 32 - 1 - a) (.knot x) s
/-- KMOV. -/
def execKmov (x : XFields) (s : State) : Out := mask2 (fun a _ => a) (.kmov x) s
/-- KFROMS: bits [31:0] of the scalar, [15:0] into a half. -/
def execKfroms (x : XFields) (s : State) : Out :=
  regInstr (.kfroms x) s (fun k => [k.maskWrite x.vd.toNat ((k.srcS x.sa).toNat % 2 ^ 32)])
/-- KTOS. -/
def execKtos (x : XFields) (s : State) : Out := maskToScalar (fun _ a => a) (.ktos x) s
/-- KPOPC. -/
def execKpopc (x : XFields) (s : State) : Out := maskToScalar popc (.kpopc x) s
/-- KFIRST: the lowest set bit, or the number of bits when there is none. -/
def execKfirst (x : XFields) (s : State) : Out :=
  maskToScalar (fun w a => ((List.range w).find? (fun i => a.testBit i)).getD w) (.kfirst x) s

end Sys2Proof.Machine
end

