-- ==== Sys2Proof/Machine/Regs.lean ====
section
/-! DEFINITION. The registers of the management address space: what each offset reads as, and what a write does (01 R28, R33,
02 R65, 03 R93, 04 R120, R122, 05 R158, 06 R186, 07 R221, R223, 08 R257, 09 R283). -/
namespace Sys2Proof.Machine

/-- Index n of a register array with `count` entries of `step` bytes from `base`; none for an offset of another register. -/
def arrayIndex (base step count off : Nat) : Option Nat :=
  if base ≤ off && off < base + step * count && (off - base) % step = 0 then some ((off - base) / step) else none

/-- The registers that exist, by name. -/
inductive Reg where
  | readyIo | readyFace | readyBench | failIo | failFace | failBench
  | pwrCtl | pwrStatus | fabId | fabCfg
  | glStat (n : Nat)
  | secStatus | dbgStatus | fwStatus
  | vdSec (n : Nat)
  | hpStat (n : Nat)
  | featVer | featMask
  | fltCfg (d : Nat) | fltStat (d : Nat)
  | preCfg
  | vdSvbase (n : Nat) | vdSvsize (n : Nat) | vdCkpt (n : Nat) | vdCkst (n : Nat)
  | dspCfg (b : Nat) | dspStat (b : Nat) | cellMap (b : Nat) | migCfg (b : Nat) | bankCfg (b : Nat)
  | route (m : Nat) | peering (e : Nat)
  /-- the words of the trip record (01 R27), whose place the spec does not give -/
  | trip (n : Nat)
  deriving DecidableEq, Repr

/-- The first of some register arrays that has the offset. -/
def firstReg (off : Nat) : List (Nat × Nat × Nat × (Nat → Reg)) → Option Reg
  | [] => none
  | (base, step, count, f) :: r =>
    match arrayIndex base step count off with
    | some n => some (f n)
    | none => firstReg off r

/-- The register at an offset. The trip record can be read, at a place that is left open (01 R27). [DESIGN CHOICE, log 9] -/
def regAt (off : Nat) : Option Reg :=
  firstReg off
    [(0x100, 8, 1, fun _ => .readyIo), (0x108, 8, 1, fun _ => .readyFace), (0x110, 8, 1, fun _ => .readyBench),
     (0x120, 8, 1, fun _ => .failIo), (0x128, 8, 1, fun _ => .failFace), (0x130, 8, 1, fun _ => .failBench),
     (0x180, 8, 1, fun _ => .pwrCtl), (0x188, 8, 1, fun _ => .pwrStatus), (0x200, 8, 1, fun _ => .fabId), (0x208, 8, 1, fun _ => .fabCfg),
     (0x240, 8, 8, .glStat), (0x300, 8, 1, fun _ => .secStatus), (0x308, 8, 1, fun _ => .dbgStatus), (0x310, 8, 1, fun _ => .fwStatus),
     (0x400, 8, 64, .vdSec), (0x600, 8, 6, .hpStat), (0x700, 8, 1, fun _ => .featVer), (0x708, 8, 1, fun _ => .featMask),
     (0x800, 16, 4, .fltCfg), (0x808, 16, 4, .fltStat), (0x900, 8, 1, fun _ => .preCfg),
     (0xa00, 32, 64, .vdSvbase), (0xa08, 32, 64, .vdSvsize), (0xa10, 32, 64, .vdCkpt), (0xa18, 32, 64, .vdCkst),
     (0x2000, 16, 64, .dspCfg), (0x2008, 16, 64, .dspStat), (0x2400, 8, 64, .cellMap), (0x2800, 8, 64, .migCfg), (0x2c00, 8, 64, .bankCfg),
     (0x100000, 8, 4096, .route), (0x108000, 8, 1024, .peering), (Config.tripAt * 8, 8, 2, .trip)]

/-! ## Reading -/

/-- A flag at a bit. -/
def flagBit (b : Bool) (n : Nat) : Nat := if b then 2 ^ n else 0

/-- The module debug level (03 R88). -/
def Sec.level (x : Sec) : Nat := (x.dbg.map (·.2.level)).foldl max 0

/-- Codes of SEC_STATUS.STATE, FW_STATUS.STAGE and VD_CKST.STATE. -/
def SecSt.code (x : SecSt) : Nat :=
  match x with
  | .unprovisioned => 0
  | .openState => 1
  | .locked => 2
def FwStage.code (x : FwStage) : Nat :=
  match x with
  | .idle => 0
  | .receiving => 1
  | .verifying => 2
  | .staged => 3
  | .rejected => 4
  | .aborted => 5
def CkSt.code (x : CkSt) : Nat :=
  match x with
  | .running => 0
  | .stopping => 1
  | .stopped => 2
  | .restoring => 3
  | .reviving => 3

/-- Records in use of a die, at indices from lo below hi (06 R186). -/
def State.recsUsed (s : State) (d lo hi : Nat) : Nat :=
  (s.recs.filter (fun p => p.2.used && recKey d lo ≤ p.1 && p.1 < recKey d hi)).length

/-- The count that HP_STAT register n holds (04 R122). -/
def HostPort.count (h : HostPort) (n : Nat) : Nat :=
  match n with
  | 0 => h.rxfrm
  | 1 => h.badtype
  | 2 => h.fcserr
  | 3 => h.rnr
  | 4 => h.cnp
  | _ => h.pfcrx

/-- What a register reads as. -/
def State.regValue (s : State) (r : Reg) : Nat :=
  match r with
  | .readyIo => s.plat.readyIo.toNat
  | .readyFace => s.plat.readyFace.toNat
  | .readyBench => s.plat.readyBench.toNat
  | .failIo => s.plat.failIo.toNat
  | .failFace => s.plat.failFace.toNat
  | .failBench => s.plat.failBench.toNat
  | .pwrCtl => s.plat.req.toNat
  | .pwrStatus => flagBit s.plat.therm 9 + flagBit s.plat.cap 8 + s.plat.target.code * 16 + flagBit s.plat.busy 3 + s.plat.cur.code
  | .fabId => s.fab.modid.toNat
  | .fabCfg => s.fab.dateline.toNat * 2 ^ 24 + s.fab.tmo.toNat
  | .glStat n =>
    let p := s.port n
    p.peerId.toNat * 2 ^ 40 + p.peerPort.toNat * 2 ^ 37 + p.retrain.toNat * 2 ^ 24 + p.crcErr.toNat * 2 ^ 12 + p.discard.toNat
  | .secStatus => s.sec.svn % 256 * 2 ^ 16 + s.sec.fuseSvn % 256 * 2 ^ 8 + flagBit s.sec.bootfail 4 + flagBit s.sec.slot 3 + s.sec.st.code
  | .dbgStatus => s.sec.level * 2 ^ 8 + s.sec.dbg.length * 16 + flagBit (s.plat.cur = .retention && !s.sec.dbg.isEmpty) 0
  | .fwStatus => s.sec.reason * 2 ^ 8 + s.sec.stage.code
  | .vdSec n => flagBit (s.vdReg n).fab 1 + flagBit (s.vd n).conf 0
  | .hpStat n => s.host.count n
  | .featVer => s.featVer 0
  | .featMask => 0x3f
  | .fltCfg d => (s.die d).resv.toNat
  | .fltStat d => s.recsUsed d 8448 8452 * 2 ^ 48 + min 65535 (s.die d).waiting.length * 2 ^ 32 + s.recsUsed d 8192 8448 * 2 ^ 23 + s.recsUsed d 0 8192
  | .preCfg => s.preDrain.toNat
  | .vdSvbase n => (s.vdReg n).svbase.toNat
  | .vdSvsize n => (s.vdReg n).svblob * 2 ^ 24 + (s.vdReg n).svsize
  | .vdCkpt _ => 0
  | .vdCkst n => (s.vd n).blobLen % 2 ^ 32 * 2 ^ 32 + (s.vd n).ckResult * 16 + (s.vd n).ck.code
  | .dspCfg b => (s.bench b).ageThr.toNat
  | .dspStat b => (s.buffered b).length * 2 ^ 48 + s.clock b
  | .cellMap b => (s.bench b).variant.toNat * 2 ^ 48 + (s.bench b).failed.toNat * 2 ^ 16 + (s.bench b).enabled.toNat
  | .migCfg b =>
    let x := s.bench b
    x.migLive.toNat * 2 ^ 16 + flagBit x.ltod 2 + flagBit x.dtol 1 + flagBit x.migEn 0
  | .bankCfg b => (s.bench b).minc.toNat * 16 + (s.bench b).spill.toNat
  | .route m => (tgetD s.fab.routes m 0).toNat
  | .peering e =>
    let x := tgetD s.fab.peering e {}
    flagBit x.v 63 + x.modid.toNat * 2 ^ 18 + x.rvd.toNat * 2 ^ 12 + x.lvd.toNat
  | .trip n => (Config.tripWord n s.plat.trip).toNat

/-- What a read clears: the RC fields (00 R8). -/
def State.regCleared (s : State) (r : Reg) : State :=
  match r with
  | .glStat n => if (tget s.fab.ports n).isNone then s else s.setPort n { s.port n with retrain := 0, crcErr := 0, discard := 0 }
  | .hpStat 0 => { s with host := { s.host with rxfrm := 0 } }
  | .hpStat 1 => { s with host := { s.host with badtype := 0 } }
  | .hpStat 2 => { s with host := { s.host with fcserr := 0 } }
  | .hpStat 3 => { s with host := { s.host with rnr := 0 } }
  | .hpStat 4 => { s with host := { s.host with cnp := 0 } }
  | .hpStat _ => { s with host := { s.host with pfcrx := 0 } }
  | _ => s

/-- The bytes of some registers, each read and then cleared in turn. -/
def State.readRegs (s : State) : List Reg → List Byte × State
  | [] => ([], s)
  | r :: rs =>
    let x := (s.regCleared r).readRegs rs
    (leBytes 8 (s.regValue r) ++ x.1, x.2)

/-! ## Writing -/

/-- Is a write to the register more than an update of fields: a power request, a checkpoint command, a variant or a retirement? -/
def Reg.acts (r : Reg) : Bool :=
  match r with
  | .pwrCtl | .vdCkpt _ | .cellMap _ => true
  | _ => false

/-- Withdraw the posted migration requests of a bench (08 R257). -/
def State.withdraw (s : State) (b : Nat) : State :=
  { s with courses := s.courses.map (fun (p : Nat × Course) => if (s.group p.2.group).bench = b then (p.1, { p.2 with migReq := false }) else p) }

/-- Is an image slot reserved in the save area of a device (07 R195)? -/
def State.slotsReserved (s : State) (n : Nat) : Bool := s.groups.any (fun p => (s.task p.2.task).vd = n && !p.2.ended && p.2.slot.isSome)

/-- A write to a register without behaviour of its own: its writable fields take the value, the rest is ignored (00 R8). [DEDUCED, log 47] -/
def State.writeFields (s : State) (r : Reg) (v : Word) : State :=
  match r with
  | .fabId => if s.plat.readyIo.extractLsb' 8 8 ≠ 0 then s else { s with fab := { s.fab with modid := v.extractLsb' 0 12 } }
  | .fabCfg => { s with fab := { s.fab with dateline := v.extractLsb' 24 8, tmo := v.extractLsb' 0 17 } }
  | .vdSec n => s.setVdReg n { s.vdReg n with fab := v.getLsbD 1 }
  | .fltCfg d => s.setDie d { s.die d with resv := v.extractLsb' 0 9 }
  | .preCfg => { s with preDrain := v.extractLsb' 0 32 }
  | .vdSvbase n => if s.slotsReserved n then s else s.setVdReg n { s.vdReg n with svbase := v &&& 0x01ffffffffff0000 }
  | .vdSvsize n => if s.slotsReserved n then s else s.setVdReg n { s.vdReg n with svblob := (v.extractLsb' 24 24).toNat, svsize := (v.extractLsb' 0 24).toNat }
  | .dspCfg b => s.setBench b { s.bench b with ageThr := v.extractLsb' 0 16 }
  | .migCfg b =>
    let s := s.setBench b { s.bench b with migLive := v.extractLsb' 16 8, ltod := v.getLsbD 2, dtol := v.getLsbD 1, migEn := v.getLsbD 0 }
    if v.getLsbD 0 then s else s.withdraw b
  | .bankCfg b => s.setBench b { s.bench b with minc := v.extractLsb' 4 4, spill := v.extractLsb' 0 4 }
  | .route m => { s with fab := { s.fab with routes := tput 0 s.fab.routes m v } }
  | .peering e =>
    let x : Peering := { v := v.getLsbD 63, modid := v.extractLsb' 18 12, rvd := v.extractLsb' 12 6, lvd := v.extractLsb' 0 6 }
    { s with fab := { s.fab with peering := tput {} s.fab.peering e x } }
  | _ => s

/-- The power state that a code names. -/
def powerOf (n : Nat) : Power :=
  match n with
  | 0 => .p0
  | 1 => .p1
  | 2 => .retention
  | _ => .off

/-- A write to a register that acts (01 R28, 07 R203, R217, R221, R223). RETCELL above 8 makes a write to CELL_MAP ignored. [DEDUCED, log 32] -/
def State.writeActs (s : State) (r : Reg) (v : Word) : State :=
  match r with
  | .pwrCtl => s.powerReq (powerOf (v.extractLsb' 0 2).toNat)
  | .vdCkpt n =>
    match (v.extractLsb' 0 2).toNat with
    | 1 => s.post s.now .vdCkptStop (.nat n 0 0)
    | 2 => s.post s.now .vdCkptResume (.nat n 0 0)
    | 3 => s.post s.now .vdCkptRestore (.nat n 0 0)
    | _ => s
  | .cellMap b =>
    let cell := (v.extractLsb' 9 4).toNat
    if 8 < cell then s
    else
      let s := s.post s.now .cellMapVariantWrite (.nat b (v.extractLsb' 48 16).toNat 0)
      if v.getLsbD 13 then s.post s.now .cellRetire (.nat b cell 1) else s
  | _ => s

/-- A write of a register. -/
def State.writeReg (s : State) (r : Reg) (v : Word) : State := if r.acts then s.writeActs r v else s.writeFields r v

/-- REG_READ (.cmd c): the registers of 01 R33 and 04 R120 alone. -/
def execRegRead (s : State) : Out :=
  s.withCmd 0x10 true true 16 (fun s c _ =>
    let off := Cmd.field c 0 8
    let count := Cmd.field c 8 2
    let ok := fun (r : Reg) => r = .readyIo || r = .readyFace || r = .readyBench || r = .failIo || r = .failFace || r = .failBench || r = .featVer || r = .featMask
    if off % 8 ≠ 0 || count = 0 || 30 < count then s.respond c 3 []
    else
      let rs := (List.range count).map (fun i => regAt (off + 8 * i))
      if rs.all (fun r => r.elim false ok) then s.respond c 0 (s.readRegs (rs.filterMap id)).1 else s.respond c 3 [])

end Sys2Proof.Machine
end

