-- ==== Sys2Proof/Machine/Mgmt.lean ====
section
/-! DEFINITION. The management channel and what its requests do: registers, the module command queue pair, warm reset, sessions,
provisioning, firmware update and debug sessions (03 R67 to R93, 04 R94). -/
namespace Sys2Proof.Machine

/-! ## Frames (R69, R70) -/

/-- A response to a request. -/
def State.answer (s : State) (f : MgmtFrame) (status : Nat) (body : List Byte) : State :=
  s.send (.mgmt f.src f.opc f.tag status f.session body)

/-- A frame of the host port is counted, but not what a SECURED frame carried. -/
def State.countMgmt (s : State) (f : MgmtFrame) : State := if f.session.isNone then s.countFrame else s

/-- Does the management function answer (01 R17, R29)? -/
def State.mgmtUp (s : State) : Bool := s.plat.cur ≠ .off && s.plat.readyIo.getLsbD 1

/-- Body field. -/
def bodyAt (f : MgmtFrame) (off n : Nat) : Nat := fieldB f.body off n

/-- The standing of the session that carried a request: 0 none, 1 owner, 2 debug. -/
def State.standing (s : State) (f : MgmtFrame) : Nat :=
  match f.session with
  | some n => (tgetD s.sec.spdm n {}).standing
  | none => 0

/-- The session that carried a request, by its number in the order of opening: a number that is free again names another session (R73). -/
def State.sessionId (s : State) (f : MgmtFrame) : Option Nat := f.session.bind (fun n => (tget s.sec.spdm n).map (·.id))

/-- Is a frame longer than the port takes: 34 bytes of Ethernet and management header and FCS, and its body (R69, 02 R35)? -/
def longFrame (f : MgmtFrame) : Bool := f.session.isNone && 9216 < 34 + f.body.length

/-- What every request meets: no answer while the function is down; BAD_VERSION; BAD_PARAM for a length that does not fit;
WRONG_STATE under BOOTFAIL, unless `boot` holds (R75). `g` performs the request. [DEDUCED, log 26] -/
def State.withFrame (s : State) (opc : Nat) (fits : Nat → Bool) (boot : MgmtFrame → Bool) (g : State → MgmtFrame → State) : Out :=
  match s.arg with
  | .frame f =>
    if f.opc.toNat ≠ opc then .next s
    else
      let s := s.countMgmt f
      if longFrame f then .next s.dropLong
      else if !s.mgmtUp then .next s
      else if f.ver ≠ 1 then .next (s.answer f 1 [])
      else if f.short || !fits f.body.length then .next (s.answer f 3 [])
      else if s.sec.bootfail && !boot f then .next (s.answer f 6 [])
      else .next (g s f)
  | _ => .next s

/-- Does a request lack the owner session that Locked asks for (R70, R77)? -/
def State.needsOwner (s : State) (f : MgmtFrame) : Bool := s.sec.st = .locked && s.standing f ≠ 1

/-! ## Registers -/

/-- A read of registers, of those that `ok` names alone; an offset or a COUNT that R70 does not admit is answered BAD_PARAM. [DESIGN CHOICE, log 109] -/
def State.mregRead (s : State) (f : MgmtFrame) (ok : Reg → Bool) : State :=
  let off := bodyAt f 0 8
  let count := bodyAt f 8 2
  if off % 8 ≠ 0 || count = 0 || 128 < count then s.answer f 3 []
  else
    let rs := (List.range count).map (fun i => regAt (off + 8 * i))
    if rs.any (·.isNone) then s.answer f 7 []
    else if !(rs.filterMap id).all ok then s
    else
      let x := s.readRegs (rs.filterMap id)
      x.2.answer f 0 x.1

/-- Does a read under BOOTFAIL name SEC_STATUS or FW_STATUS alone (R75)? -/
def bootRead (f : MgmtFrame) : Bool := bodyAt f 8 2 = 1 && (bodyAt f 0 8 = 0x300 || bodyAt f 0 8 = 0x310)

/-- MREG_READ (.frame f). -/
def execMregRead (s : State) : Out := s.withFrame 0x01 (· = 16) bootRead (fun s f => s.mregRead f (fun _ => true))

/-- GL_STAT_READ (.frame f): a read of GL_STAT registers; the counts clear (02 R65). -/
def execGlStatRead (s : State) : Out :=
  s.withFrame 0x01 (· = 16) bootRead (fun s f => s.mregRead f (fun r => match r with
    | .glStat _ => true
    | _ => false))

/-- HP_STAT_READ (.frame f): a read of host port statistics; the counts clear (04 R122). -/
def execHpStatRead (s : State) : Out :=
  s.withFrame 0x01 (· = 16) bootRead (fun s f => s.mregRead f (fun r => match r with
    | .hpStat _ => true
    | _ => false))

/-- A write of a register, of those that `ok` names alone (R70, R77); an offset that R70 does not admit is answered BAD_PARAM. [DESIGN CHOICE, log 109] -/
def State.mregWrite (s : State) (f : MgmtFrame) (ok : Reg → Bool) : State :=
  if bodyAt f 0 8 % 8 ≠ 0 then s.answer f 3 []
  else
    match regAt (bodyAt f 0 8) with
    | none => s.answer f 7 []
    | some r =>
      if !ok r then s
      else if r ≠ .pwrCtl && s.needsOwner f then s.answer f 0xc []
      else (s.answer f 0 []).writeReg r (BitVec.ofNat 64 (bodyAt f 8 8))

/-- MREG_WRITE (.frame f). -/
def execMregWrite (s : State) : Out := s.withFrame 0x02 (· = 16) (fun _ => false) (fun s f => s.mregWrite f (fun _ => true))

/-- REGISTER_WRITE (.frame f): a write of a register without behaviour of its own (00 R8). -/
def execRegisterWrite (s : State) : Out := s.withFrame 0x02 (· = 16) (fun _ => false) (fun s f => s.mregWrite f (fun r => !r.acts))

/-! ## The command queue pair and warm reset -/

/-- CMDQP_OPEN (.frame f): the queue pair 0x100, in place of any earlier one (04 R94). [DEDUCED, log 36] -/
def execCmdqpOpen (s : State) : Out :=
  s.withFrame 0x03 (· = 32) (fun _ => false) (fun s f =>
    if s.needsOwner f then s.answer f 0xc []
    else if !s.hostReady then s.answer f 5 []
    else
      match qpBlock f.body none with
      | none => s.answer f 3 []
      | some q =>
        let s := s.setQp 0x100 q
        let ch := tgetD s.chans 64 {}
        ({ s with chans := tset s.chans 64 { ch with space := 0 } } : State).answer f 0 (leBytes 4 0x100))

/-- WARM_RESET (.frame f): the answer leaves first; sessions end without notice (R73, 01 R29). [DESIGN CHOICE, log 12] -/
def execWarmReset (s : State) : Out :=
  s.withFrame 0x04 (· = 0) (fun _ => true) (fun s f =>
    if s.needsOwner f && !s.sec.bootfail then s.answer f 0xc []
    else
      let p := s.plat
      let s := (s.answer f 0 []).bringUp
      ({ s with plat := { s.plat with therm := p.therm, cap := p.cap } } : State).settlePower)

/-! ## Signed requests (R68, R71) -/

/-- The firmware image that runs. -/
def Sec.image (x : Sec) : List Byte := (if x.slot then x.slotB else x.slotA).bytes

/-- The module's identity key: derived from the seed and the SHA-384 measurement of the running firmware (R76). -/
def Sec.identityKey (x : Sec) : List Byte := Config.identity x.seed (sha384 x.image)

/-- The digest of the module's identity key; 48 zero bytes under BOOTFAIL (R71, R75). -/
def Sec.identity (x : Sec) : List Byte := if x.bootfail then List.replicate 48 0 else sha384 x.identityKey

/-- The trailer's counter, its key and the status that a signature check gives (R68, R71). -/
def Sec.signedBy (x : Sec) (f : MgmtFrame) : Nat :=
  let n := f.body.length - 201
  let t := f.body.drop n
  let key := sliceB t 0 97
  let said := [f.ver, f.opc] ++ f.body.take n ++ key ++ sliceB t 97 8 ++ x.identity
  if sha384 key ≠ x.ownerHash || !ecdsaOk key said (sliceB t 105 96) then 0xf
  else if fieldB t 97 8 ≤ x.counter then 0x10 else 0

/-- The counter of a request that is accepted stands. [DEDUCED, log 26] -/
def State.takeCounter (s : State) (f : MgmtFrame) : State :=
  { s with sec := { s.sec with counter := fieldB (f.body.drop (f.body.length - 201)) 97 8 } }

/-- A signed request: the first of some refusals that holds; else the signature and the counter; then the rest. [DEDUCED, log 26] -/
def State.signed (s : State) (f : MgmtFrame) (early late : List (Bool × Nat)) (g : State → State) : State :=
  match early.find? (·.1) with
  | some e => s.answer f e.2 []
  | none =>
    let st := s.sec.signedBy f
    if st ≠ 0 then s.answer f st []
    else
      match late.find? (·.1) with
      | some e => s.answer f e.2 []
      | none => g (s.takeCounter f)

/-- Does an update run (R85)? -/
def Sec.updating (x : Sec) : Bool := x.stage = .receiving || x.stage = .verifying

/-- SEC_PROVISION (.frame f) (R78); in Retention an Unprovisioned module has management only, and answers POWER_STATE (R90). [DESIGN CHOICE, log 98] -/
def execSecProvision (s : State) : Out :=
  s.withFrame 0x10 (· = 152) (fun _ => false) (fun s f =>
    if s.sec.st ≠ .unprovisioned then s.answer f 6 []
    else if s.plat.cur = .retention then s.answer f 0x11 []
    else
      ({ s with sec := { s.sec with st := .openState, ownerHash := sha384 (sliceB f.body 0 97)
                                    debugHash := sliceB f.body 97 48 } } : State).answer f 0 [])

/-- SEC_LOCK (.frame f) (R78, R85). -/
def execSecLock (s : State) : Out :=
  s.withFrame 0x11 (· = 201) (fun _ => false) (fun s f =>
    s.signed f [(s.sec.st ≠ .openState, 6)] [(s.sec.updating, 0x12), (s.sec.level = 2, 0xd)] (fun s =>
      ({ s with sec := { s.sec with st := .locked } } : State).answer f 0 []))

/-- A device is destroyed as with FORCE, at once. [DEDUCED, log 31] -/
def State.destroyNow (s : State) (n : Nat) : State :=
  let qs := (s.vdQueues n).map (·.1)
  let s := qs.foldl (fun s k => s.drainQueue k true) s
  let s := qs.foldl (fun s k => { s with qgens := tset s.qgens k (s.queue k).gen, queues := tdel s.queues k }) s
  s.finishDestroy n

/-- SEC_UNLOCK (.frame f): sessions end with REVOKED, every device is destroyed, and memory is zeroed (R78, R85, R92). [DEDUCED, log 31] -/
def execSecUnlock (s : State) : Out :=
  s.withFrame 0x12 (· = 201) (fun _ => false) (fun s f =>
    s.signed f [(s.sec.st ≠ .locked, 6), (s.needsOwner f, 0xc)] [(s.sec.updating, 0x12)] (fun s =>
      let s := s.endSessions (fun _ => true) 0x13
      let s := (s.vds.map (·.1)).foldl (fun s n => s.destroyNow n) s
      ({ s with dram := [], full := [], poison := [], sram := [], sramPoison := [], sec := { s.sec with st := .openState } } : State).answer f 0 []))

/-- SEC_SETDBG (.frame f) (R78). -/
def execSecSetdbg (s : State) : Out :=
  s.withFrame 0x13 (· = 249) (fun _ => false) (fun s f =>
    s.signed f [(s.sec.st = .unprovisioned, 6), (s.needsOwner f, 0xc)] [] (fun s =>
      ({ s with sec := { s.sec with debugHash := sliceB f.body 0 48 } } : State).answer f 0 []))

/-! ## Firmware update (R74, R83 to R85) -/

/-- An update begins: RECEIVING, into the inactive slot, which keeps no image meanwhile. [DESIGN CHOICE, log 41] -/
def State.startUpdate (s : State) (f : MgmtFrame) : State :=
  let x := s.sec.setTarget { len := bodyAt f 0 4, data := [], valid := false }
  let x := { x with stage := .receiving, reason := 0, pending := false, update := (x.update + 1) % 2 ^ 32, updLen := bodyAt f 0 4, updSession := s.sessionId f }
  ({ s with sec := x } : State).answer f 0 (leBytes 4 x.update)

/-- FW_UPDATE (.frame f): unsigned only for an Unprovisioned module under BOOTFAIL (R75). [DEDUCED, log 35] -/
def execFwUpdate (s : State) : Out :=
  let free := s.sec.bootfail && s.sec.st = .unprovisioned
  s.withFrame 0x18 (· = (if free then 8 else 209)) (fun _ => true) (fun s f =>
    let late := [(!s.sec.dbg.isEmpty, 0xd), (!(s.plat.cur = .p0 || s.plat.cur = .p1) || s.plat.busy, 0x11), (s.sec.updating, 9)]
    if free then
      match late.find? (·.1) with
      | some e => s.answer f e.2 []
      | none => s.startUpdate f
    else
      s.signed f [(s.sec.st = .unprovisioned, 6), (s.needsOwner f && !s.sec.bootfail, 0xc)] late (fun s => s.startUpdate f))

/-- A request of the current update: while RECEIVING; in Locked, in the session that opened it; with its identifier. The state is looked at
before the identifier. [DESIGN CHOICE, log 98] -/
def State.withUpdate (s : State) (f : MgmtFrame) (g : State → State) : State :=
  if s.sec.stage ≠ .receiving then s.answer f 6 []
  else if s.sec.st = .locked && s.sessionId f ≠ s.sec.updSession then s.answer f 0xc []
  else if bodyAt f 0 4 ≠ s.sec.update then s.answer f 3 []
  else g s

/-- FW_DATA (.frame f); an offset that is no multiple of 4,096 is answered BAD_PARAM (R74). [DESIGN CHOICE, log 109] -/
def execFwData (s : State) : Out :=
  s.withFrame 0x19 (fun n => 8 ≤ n && n ≤ 8200) (fun _ => true) (fun s f =>
    s.withUpdate f (fun s =>
      let off := bodyAt f 4 4
      let d := f.body.drop 8
      if off % 4096 ≠ 0 || s.sec.updLen < off + d.length then s.answer f 3 []
      else
        let t := s.sec.target
        ({ s with sec := s.sec.setTarget { t with data := Memory.writeL t.data off d } } : State).answer f 0 []))

/-- FW_END (.frame f): VERIFYING; an image that is too large is refused here (R74). [DEDUCED, log 35] -/
def execFwEnd (s : State) : Out :=
  s.withFrame 0x1a (· = 4) (fun _ => true) (fun s f =>
    s.withUpdate f (fun s =>
      if 33554432 < s.sec.updLen then
        ({ s with sec := { s.sec with stage := .rejected, reason := 3 } } : State).answer f 0 []
      else (({ s with sec := { s.sec with stage := .verifying } } : State).answer f 0 []).post (s.now + 1) .fwVerifyDone .none))

/-- FW_VERIFY_DONE: STAGED, or REJECTED with its reason (R84, R93). -/
def execFwVerifyDone (s : State) : Out :=
  if s.sec.stage ≠ .verifying then .next s
  else
    let b := s.sec.target.bytes
    let reason := if Config.imageMalformed b then 4 else if !s.sec.imageOk b then 1 else if Config.imageSvn b < s.sec.fuseSvn then 2 else 0
    if reason ≠ 0 then .next { s with sec := { s.sec with stage := .rejected, reason } }
    else .next { s with sec := { s.sec.setTarget { s.sec.target with valid := true } with stage := .staged, pending := true } }

/-! ## Debug sessions (R73, R88 to R92) -/

/-- The status that a request for a session meets (R85, R89, R91); 0 when it is granted. A level or a range that does not fit is answered
BAD_PARAM. [DESIGN CHOICE, log 98] -/
def State.dbgStatus (s : State) (f : MgmtFrame) (n level buf len : Nat) : Nat :=
  let unprov := decide (s.sec.st = .unprovisioned)
  let v := s.vd n
  if level = 0 || 2 < level then 3
  else if decide (n = 255) ≠ unprov then 6
  else if n ≠ 255 && (tget s.vds n).isNone then 7
  else if n ≠ 255 && v.conf && level = 2 then 0xa
  else if s.sec.st = .locked && s.standing f ≠ 2 then 0xc
  else if s.plat.cur = .retention then 0x11
  else if s.sec.updating then 0x12
  else if 8 ≤ s.sec.dbg.length then 4
  else if n = 255 then (if buf = 0 && len = 0 then 0 else 3)
  else if len = 0 || len % 4096 ≠ 0 || 2 ^ 57 < buf + len || !v.mapsAll buf len || !v.allows buf len 1 then 3 else 0

/-- DBG_OPEN (.frame f). [DEDUCED, log 33] -/
def execDbgOpen (s : State) : Out :=
  s.withFrame 0x20 (· = 24) (fun _ => false) (fun s f =>
    let n := bodyAt f 0 1
    let level := bodyAt f 1 1
    let st := s.dbgStatus f n level (bodyAt f 8 8) (bodyAt f 16 8)
    if st ≠ 0 then s.answer f st []
    else
      let k := ((List.range 8).find? (fun i => (tget s.sec.dbg i).isNone)).getD 0
      let d : Dbg := { vd := n, level, mac := f.src, session := f.session, buf := BitVec.ofNat 64 (bodyAt f 8 8), len := bodyAt f 16 8 }
      (({ s with sec := { s.sec with dbg := tset s.sec.dbg k d } } : State).dropSessions (fun _ _ => false)).answer f 0 (leBytes 1 k))

/-- DBG_CLOSE (.frame f): by the address that opened the session, in Locked in the SPDM session that did; any other is answered
NOT_AUTHORISED. [DEDUCED, log 33; DEDUCED, log 34; DESIGN CHOICE, log 98] -/
def execDbgClose (s : State) : Out :=
  s.withFrame 0x21 (· = 8) (fun _ => false) (fun s f =>
    let k := bodyAt f 0 1
    match tget s.sec.dbg k with
    | none => s.answer f 7 []
    | some d =>
      let may := if s.sec.st = .locked then f.session.isSome && f.session = d.session && s.standing f = 2 else f.src = d.mac
      if !may then s.answer f 0xc [] else (s.dropSessions (fun i _ => i = k)).answer f 0 [])

/-- Is a session one of the whole module, which holds as long as the module is not Locked (R88, R90)? -/
def State.wholeModule (s : State) (x : Dbg) : Bool := x.vd = 255 && s.sec.st ≠ .locked

/-- Does a debug session of level Invasive grant a course, of its device or of the whole module, outside Retention? -/
def State.invades (s : State) (d cid : Nat) : Bool :=
  match tget s.sec.dbg d with
  | some x => x.level = 2 && (x.vd = s.vdOf cid || s.wholeModule x) && s.plat.cur ≠ .retention
  | none => false

/-- Lanes and scalars of a course, by PKVGET's numbers of files. -/
def Course.readFile (c : Course) (file rn lane : Nat) : Word :=
  match file with
  | 0 => (tgetD c.v (rn * 32 + lane) 0).setWidth 64
  | 1 => tgetD c.s rn 0
  | 2 => (tgetD c.k rn 0).setWidth 64
  | _ => (tgetD c.b (rn * 32 + lane) 0).setWidth 64

/-- A register write by those numbers. -/
def fileWrite (file rn lane : Nat) (x : Word) : RegWrite :=
  match file with
  | 0 => .v rn lane (x.setWidth 32)
  | 1 => .s rn x
  | 2 => .k rn 0xffffffff (x.setWidth 32)
  | _ => .b rn lane (x.setWidth 32)

/-- What a debugger of level Invasive does (R88): the registers of a course that is halted, the memory of the device as its unsaved bytes
stand at their homes, and its parked records; in a session of the whole module, memory by physical address and any record. [DESIGN CHOICE, log 100] -/
def State.debugAccess (s : State) (d cid : Nat) (x : Dbg) (op : DbgOp) : State :=
  let c := s.course cid
  let mayReg := s.invades d cid && c.st = .halted
  let all := x.vd = 255
  let vdn := fun (h : Word) => if all then (s.recOf h).vd else x.vd
  match op with
  | .readReg file rn lane => if mayReg then s.send (.debug d [c.readFile file rn lane]) else s
  | .writeReg file rn lane v => if mayReg then s.setCourse cid (c.land (fileWrite file rn lane v)) else s
  | .readMem va n => if all then s.send (.debug d (packWords (Memory.readN s.dram va n)))
      else if (s.vd x.vd).mapsAll va n then s.send (.debug d (packWords (s.peekVA x.vd va n))) else s
  | .writeMem va l => if all then (List.range l.length).foldl (fun s i => s.pokePhys none 4 (va + i) (l.getD i 0)) s
      else if (s.vd x.vd).mapsAll va l.length then s.pokeVA x.vd none 4 va l else s
  | .readRec h off => s.send (.debug d [(s.stateAccess (vdn h) h (.pkrd off)).2.value])
  | .writeRec h off v => (s.stateAccess (vdn h) h (.pkwr off v)).1

/-- DEBUG_HALT (.nat session course 0): the course stops between two instructions. With a debugger's access (.debug session course op) it is
that access. [DESIGN CHOICE, log 100] -/
def execDebugHalt (s : State) : Out :=
  match s.arg with
  | .nat d c _ =>
    match tget s.courses c with
    | some x => if s.invades d c && x.st = .running then .next (s.setCourse c { x with st := .halted }) else .next s
    | none => .next s
  | .debug d c op =>
    match tget s.sec.dbg d with
    | some x => .next (if x.level = 2 && (x.vd ≠ 255 || s.wholeModule x) && s.plat.cur ≠ .retention then s.debugAccess d c x op else s)
    | none => .next s
  | _ => .next s

/-- DEBUG_RESUME (.nat session course 0). -/
def execDebugResume (s : State) : Out :=
  match s.arg with
  | .nat d c _ =>
    match tget s.courses c with
    | some x => if s.invades d c && x.st = .halted then .next (s.setCourse c { x with st := .running }) else .next s
    | none => .next s
  | _ => .next s

/-! ## Sessions and SPDM (R72, R86, R87) -/

/-- Is an opcode that of a request outside SPDM and SECURED? -/
def isRequest (opc : Nat) : Bool := [0x01, 0x02, 0x03, 0x04, 0x05, 0x10, 0x11, 0x12, 0x13, 0x18, 0x19, 0x1a, 0x20, 0x21].contains opc

/-- SESSION_AUTH (.frame f) (R72): a failed check leaves the session's earlier standing; a KEYKIND other than 1 and 2 is answered
BAD_PARAM, and one that travels in no finished session NOT_AUTHORISED. [DESIGN CHOICE, log 98; DESIGN CHOICE, log 109] -/
def execSessionAuth (s : State) : Out :=
  s.withFrame 0x05 (· = 194) (fun _ => false) (fun s f =>
    match f.session with
    | none => s.answer f 0xc []
    | some n =>
      match tget s.sec.spdm n with
      | none => s.answer f 0xc []
      | some x =>
        let kind := bodyAt f 0 1
        let key := sliceB f.body 1 97
        let hash := if kind = 1 then s.sec.ownerHash else s.sec.debugHash
        if kind = 0 || 2 < kind then s.answer f 3 []
        else if !x.finished then s.answer f 0xc []
        else if sha384 key ≠ hash || !ecdsaOk key (sha384 (Config.transcript x.id) ++ [f.body.getD 0 0]) (sliceB f.body 98 96) then s.answer f 0xf []
        else ({ s with sec := { s.sec with spdm := tset s.sec.spdm n { x with standing := kind } } } : State).answer f 0 [])

/-- The management payload that bytes hold (R69). [PRESUMED, log 28] -/
def frameOf (src : BitVec 48) (session : Nat) (l : List Byte) : MgmtFrame :=
  { src, ver := BitVec.ofNat 8 (fieldB l 0 1), opc := BitVec.ofNat 8 (fieldB l 1 1), tag := BitVec.ofNat 32 (fieldB l 4 4)
    body := (l.drop 16).take (fieldB l 8 2), short := l.length < 16 + fieldB l 8 2, session := some session }

/-- MGMT_BAD_OPCODE (.frame f): a version or an opcode that R69 and R70 do not give; SPDM and SECURED do not travel in a session. [DEDUCED, log 27] -/
def execMgmtBadOpcode (s : State) : Out :=
  match s.arg with
  | .frame f =>
    let s := s.countMgmt f
    if longFrame f then .next s.dropLong
    else if !s.mgmtUp then .next s
    else if f.ver ≠ 1 then .next (s.answer f 1 [])
    else if isRequest f.opc.toNat || (f.session.isNone && (f.opc = 0x30 || f.opc = 0x31)) then .next s
    else if s.sec.bootfail then .next (s.answer f 6 [])
    else .next (s.answer f 2 [])
  | _ => .next s

/-- What an SPDM message meets: as a management request, one message a frame, whose bytes 0 and 1 are SPDMVersion and the request code of
DSP0274; a version that is neither 1.2 nor 1.3, or for GET_VERSION not 1.0, is answered VersionMismatch. [PRESUMED, log 29] -/
def State.withSpdm (s : State) (code : Nat → Bool) (g : State → MgmtFrame → State) : Out :=
  match s.arg with
  | .frame f =>
    if f.opc ≠ 0x30 then .next s
    else
      let s := s.countFrame
      if longFrame f then .next s.dropLong
      else if !s.mgmtUp then .next s
      else if f.ver ≠ 1 then .next (s.answer f 1 [])
      else if f.short || f.body.length < 4 then .next (s.answer f 3 [])
      else if s.sec.bootfail then .next (s.answer f 6 [])
      else if !code (bodyAt f 1 1) then .next s
      else if bodyAt f 0 1 ≠ (if bodyAt f 1 1 = 0x84 then 0x10 else 0x12) && !(bodyAt f 0 1 = 0x13 && bodyAt f 1 1 ≠ 0x84) then
        .next (s.send (.spdm f.src f.tag 0x12 .versionMismatch))
      else .next (g s f)
  | _ => .next s

/-- An SPDM response, in the version of its request. [PRESUMED, log 29] -/
def State.spdmReply (s : State) (f : MgmtFrame) (r : SpdmReply) : State := s.send (.spdm f.src f.tag (bodyAt f 0 1) r)

/-- The request codes that the module supports (R86): GET_DIGESTS, GET_CERTIFICATE, CHALLENGE, GET_VERSION, GET_MEASUREMENTS,
GET_CAPABILITIES, NEGOTIATE_ALGORITHMS, KEY_EXCHANGE, FINISH, HEARTBEAT, END_SESSION. [PRESUMED, log 29] -/
def spdmCodes : List Nat := [0x81, 0x82, 0x83, 0x84, 0xe0, 0xe1, 0xe3, 0xe4, 0xe5, 0xe8, 0xec]

/-- SPDM_GET_VERSION, SPDM_GET_CAPABILITIES, SPDM_NEGOTIATE_ALGORITHMS, SPDM_UNSUPPORTED_REQUEST (.frame f). -/
def execSpdmGetVersion (s : State) : Out := s.withSpdm (· = 0x84) (fun s f => s.spdmReply f (.version [0x12, 0x13]))
def execSpdmGetCapabilities (s : State) : Out := s.withSpdm (· = 0xe1) (fun s f => s.spdmReply f .capabilities)
def execSpdmNegotiateAlgorithms (s : State) : Out :=
  s.withSpdm (· = 0xe3) (fun s f => s.spdmReply f (.algorithms [.ecdsaP384, .sha384, .secp384r1, .aes256gcm]))
def execSpdmUnsupportedRequest (s : State) : Out := s.withSpdm (fun c => !spdmCodes.contains c) (fun s f => s.spdmReply f .unsupported)

/-- The certificate chain of slot 0: root, module, and the alias of the running firmware's identity key. -/
def Sec.chain (x : Sec) : List Byte := Config.certChain x.identityKey

/-- SPDM_GET_DIGESTS (.frame f). -/
def execSpdmGetDigests (s : State) : Out := s.withSpdm (· = 0x81) (fun s f => s.spdmReply f (.digests [sha384 s.sec.chain]))

/-- SPDM_GET_CERTIFICATE (.frame f): a part of the chain of slot 0, at the message's offset and length. -/
def execSpdmGetCertificate (s : State) : Out :=
  s.withSpdm (· = 0x82) (fun s f =>
    if bodyAt f 2 1 % 16 ≠ 0 || f.body.length < 8 || s.sec.chain.length ≤ bodyAt f 4 2 then s.spdmReply f .invalid
    else s.spdmReply f (.certificate ((s.sec.chain.drop (bodyAt f 4 2)).take (bodyAt f 6 2))))

/-- SPDM_CHALLENGE (.frame f): a signature over the request, a fresh nonce and the chain. -/
def execSpdmChallenge (s : State) : Out :=
  s.withSpdm (· = 0x83) (fun s f =>
    let r := s.drawRandom 32
    r.2.spdmReply f (.challengeAuth (Config.sign s.sec.identityKey (f.body ++ r.1 ++ s.sec.chain))))

/-- The code objects that the loader has placed in a device, in load order, with their bytes. [DESIGN CHOICE, log 108] -/
def State.codeBytes (s : State) (n : Nat) : List Byte :=
  (s.vd n).notes.flatMap (fun x => leBytes 8 x.1 ++ leBytes 8 x.2.1 ++ leBytes 1 x.2.2 ++ s.peekVA n x.1 x.2.1)

/-- The measurement blocks (R87): the creation parameters are those of 04 R103. -/
def State.measurements (s : State) : List (Nat × List Byte) :=
  let x := s.sec
  [(1, sha384 Config.bootRom), (2, sha384 x.image), (3, leBytes 8 x.svn ++ leBytes 8 x.fuseSvn),
   (4, leBytes 1 x.st.code ++ leBytes 1 x.level ++ x.debugHash)]
    ++ (s.vds.filter (fun p => p.2.conf)).map (fun p =>
      (0x40 + p.1, sha384 (leBytes 8 p.2.memq ++ leBytes 2 p.2.queueq ++ leBytes 2 p.2.qpq ++ leBytes 8 p.2.benches.toNat
        ++ leBytes 1 ((if p.2.conf then 1 else 0) + (if p.2.migin then 2 else 0)) ++ s.codeBytes p.1)))

/-- SPDM_GET_MEASUREMENTS (.frame f): byte 3 asks for the count (0), for all blocks (0xff) or for one. -/
def execSpdmGetMeasurements (s : State) : Out :=
  s.withSpdm (· = 0xe0) (fun s f =>
    let op := bodyAt f 3 1
    let ms := s.measurements
    if op = 0 then s.spdmReply f (.measurementCount ms.length)
    else if op = 0xff then s.spdmReply f (.measurements ms)
    else
      match ms.find? (fun m => m.1 = op) with
      | some m => s.spdmReply f (.measurements [m])
      | none => s.spdmReply f .invalid)

/-- SPDM_KEY_EXCHANGE (.frame f): a session begins; a ninth one finds the module busy. [PRESUMED, log 29] -/
def execSpdmKeyExchange (s : State) : Out :=
  s.withSpdm (· = 0xe4) (fun s f =>
    match (List.range 8).find? (fun i => (tget s.sec.spdm i).isNone) with
    | none => s.spdmReply f .busy
    | some n =>
      let r := s.drawRandom 32
      let k := Config.sessionKey s.sec.draws f.body
      let x : Spdm := { id := s.sec.draws, key := sliceB k 0 32, iv := sliceB k 32 12, outKey := sliceB k 44 32, outIv := sliceB k 76 12, reqId := bodyAt f 4 2 }
      ({ r.2 with sec := { r.2.sec with spdm := tset r.2.sec.spdm n x } } : State).spdmReply f (.keyExchange n r.1))

/-- A request inside a session; UnexpectedRequest where none has begun, or where it is not as far as the request needs. -/
def State.withSession (s : State) (code : Nat) (finished : Bool) (g : State → MgmtFrame → Nat → Spdm → State) : Out :=
  s.withSpdm (· = code) (fun s f =>
    match f.session with
    | none => s.spdmReply f .unexpected
    | some n =>
      match tget s.sec.spdm n with
      | some x => if x.finished = finished then g s f n x else s.spdmReply f .unexpected
      | none => s.spdmReply f .unexpected)

/-- SPDM_FINISH (.frame f). -/
def execSpdmFinish (s : State) : Out :=
  s.withSession 0xe5 false (fun s f n x => ({ s with sec := { s.sec with spdm := tset s.sec.spdm n { x with finished := true } } } : State).spdmReply f .finish)

/-- SPDM_HEARTBEAT (.frame f). -/
def execSpdmHeartbeat (s : State) : Out := s.withSession 0xe8 true (fun s f _ _ => s.spdmReply f .heartbeat)

/-- SPDM_END_SESSION (.frame f): the debug sessions opened in it end too (R73). -/
def execSpdmEndSession (s : State) : Out :=
  s.withSession 0xec true (fun s f n _ =>
    let s := s.endSessions (fun d => d.session = some n) 0
    ({ s with sec := { s.sec with spdm := tdel s.sec.spdm n } } : State).spdmReply f .endSession)

/-! ## Requests in a session (R72) -/

/-- The request of a management payload is performed, by its opcode (R70); SPDM and SECURED do not travel in a session. -/
def State.perform1 (s : State) (f : MgmtFrame) : Out :=
  let s := { s with arg := .frame f }
  if f.ver ≠ 1 then execMgmtBadOpcode s
  else
    match f.opc.toNat with
    | 0x01 => execMregRead s
    | 0x02 => execMregWrite s
    | 0x03 => execCmdqpOpen s
    | 0x04 => execWarmReset s
    | 0x05 => execSessionAuth s
    | 0x10 => execSecProvision s
    | 0x11 => execSecLock s
    | 0x12 => execSecUnlock s
    | 0x13 => execSecSetdbg s
    | 0x18 => execFwUpdate s
    | 0x19 => execFwData s
    | 0x1a => execFwEnd s
    | 0x20 => execDbgOpen s
    | 0x21 => execDbgClose s
    | _ => execMgmtBadOpcode s

/-- The plaintext of a secured message in a session: its key and its nonce, which the number of the message alters; the session
identifier and the length are the additional data; the application data's length stands first. [PRESUMED, log 28] -/
def Spdm.opened (x : Spdm) (l : List Byte) : Option (List Byte) :=
  let n := fieldB l 4 2
  (gcmOpen x.key (xorBytes x.iv (leBytes 12 x.carried)) (sliceB l 0 6) (sliceB l 6 (n - 16)) (sliceB l (6 + (n - 16)) 16)).map (fun p => sliceB p 2 (fieldB p 0 2))

/-- The management payload of a response (R69). -/
def mgmtPayload (opc : BitVec 8) (status : Nat) (tag : BitVec 32) (body : List Byte) : List Byte :=
  leBytes 1 1 ++ leBytes 1 opc.toNat ++ leBytes 2 status ++ leBytes 4 tag.toNat ++ leBytes 2 body.length ++ leBytes 1 1 ++ leBytes 5 0 ++ body

/-- A payload as a secured message of a session, under the keys of its responses. [PRESUMED, log 28] -/
def Spdm.protect (x : Spdm) (n : Nat) (l : List Byte) : List Byte :=
  let aad := leBytes 2 x.reqId ++ leBytes 2 n ++ leBytes 2 (l.length + 18)
  aad ++ gcmSeal x.outKey (xorBytes x.outIv (leBytes 12 x.sent)) aad (leBytes 2 l.length ++ l)

/-- The response to a secured request travels the same way in the same session: in a SECURED frame with the TAG of the request's frame (R72). -/
def State.protectAnswers (s : State) (before : Nat) (f : MgmtFrame) (n : Nat) (x : Spdm) : State :=
  { s with out := s.out.take before ++ (s.out.drop before).map (fun m => match m with
             | .mgmt d opc tag st (some _) body => .mgmt d 0x31 f.tag 0 (some n) (x.protect n (mgmtPayload opc st tag body))
             | m => m)
           sec := { s.sec with spdm := tmod s.sec.spdm n (fun y => { y with sent := y.sent + 1 }) } }

/-- SECURED_MESSAGE (.frame f): the payload is performed at once, in the session that the message names in its bytes 2 and 3, and its response
goes back protected. [PRESUMED, log 28] -/
def execSecuredMessage (s : State) : Out :=
  match s.arg with
  | .frame f =>
    if f.opc.toNat ≠ 0x31 then .next s
    else
      let s := s.countMgmt f
      if longFrame f then .next s.dropLong
      else if !s.mgmtUp then .next s
      else if f.ver ≠ 1 then .next (s.answer f 1 [])
      else if f.short || f.body.length < 6 then .next (s.answer f 3 [])
      else if s.sec.bootfail then .next (s.answer f 6 [])
      else
        let n := bodyAt f 2 2
        match tget s.sec.spdm n with
        | none => .next (s.answer f 3 [])
        | some x =>
          match x.opened f.body with
          | none => .next (s.answer f 3 [])
          | some l =>
            if !x.finished then .next (s.answer f 3 [])
            else
              match ({ s with sec := { s.sec with spdm := tset s.sec.spdm n { x with carried := x.carried + 1 } } } : State).perform1 (frameOf f.src n l) with
              | .next t => .next (t.protectAnswers s.out.length f n x)
              | o => o
  | _ => .next s

end Sys2Proof.Machine
end

