-- ==== Sys2Proof/Machine/Scalar.lean ====
section
/-! DEFINITION. Scalar arithmetic, moves and special registers (15 R418 to R429). -/
namespace Sys2Proof.Machine

/-- A scalar two-operand instruction in X form (R421, R423): sources SA and SB, the result narrowed under SAT and extended
to 64 bits. -/
def scalar2 (op : IntOp) (i : Instr) (s : State) : Out :=
  regInstr i s (fun k =>
    let t := k.x.type.toNat
    let a := (k.srcS k.x.sa).toNat
    let b := (k.srcS k.x.sb).toNat
    [.s (k.skey k.x.vd.toNat) (fillScalar t (op.result (k.x.sat ≠ 0) t a b b))])

/-- A scalar one-operand instruction in X form (R423): a function of the width and the pattern. -/
def scalar1 (f : Nat → Nat → Nat) (i : Instr) (s : State) : Out :=
  regInstr i s (fun k =>
    let t := k.x.type.toNat
    let w := typeWidth t
    [.s (k.skey k.x.vd.toNat) (fillScalar t (f w ((k.srcS k.x.sa).toNat % 2 ^ w)))])

/-- A scalar S or SL form: TYPE INT64, the second source an immediate (R421, R423). -/
def scalarImm (op : IntOp) (i : Instr) (x : SScalar) (b : Nat) (s : State) : Out :=
  regInstr i s (fun k =>
    let a := (k.c.readS k.il k.free (k.skey x.ss.toNat)).toNat
    [.s (k.skey x.sd.toNat) (fillScalar 6 (op.result false 6 a b b))])

/-- SADD, S form: IMM8 signed (R421). -/
def execSaddS (x : SScalar) (s : State) : Out :=
  scalarImm .add (.saddS x) x (x.imm.signExtend 64).toNat s

/-- SADD, SL form (R421). -/
def execSaddSl (x : SScalar) (lit : Word) (s : State) : Out :=
  scalarImm .add (.saddSl x lit) x lit.toNat s

/-- SADD (R423). -/
def execSaddX (x : XFields) (s : State) : Out :=
  scalar2 .add (.saddX x) s

/-- SSUB (R423). -/
def execSsub (x : XFields) (s : State) : Out :=
  scalar2 .sub (.ssub x) s

/-- SMUL (R423). -/
def execSmul (x : XFields) (s : State) : Out :=
  scalar2 .mul (.smul x) s

/-- SMULH: the high half (R423). -/
def execSmulh (x : XFields) (s : State) : Out :=
  scalar2 .mulh (.smulh x) s

/-- SAND (R423). -/
def execSand (x : XFields) (s : State) : Out :=
  scalar2 .and (.sand x) s

/-- SOR (R423). -/
def execSor (x : XFields) (s : State) : Out :=
  scalar2 .or (.sor x) s

/-- SXOR (R423). -/
def execSxor (x : XFields) (s : State) : Out :=
  scalar2 .xor (.sxor x) s

/-- SSHL (R423). -/
def execSshlX (x : XFields) (s : State) : Out :=
  scalar2 .shl (.sshlX x) s

/-- SSHR (R423). -/
def execSshrX (x : XFields) (s : State) : Out :=
  scalar2 .shr (.sshrX x) s

/-- SSAR (R423). -/
def execSsar (x : XFields) (s : State) : Out :=
  scalar2 .sar (.ssar x) s

/-- SMIN (R423). -/
def execSmin (x : XFields) (s : State) : Out :=
  scalar2 .min (.smin x) s

/-- SMAX (R423). -/
def execSmax (x : XFields) (s : State) : Out :=
  scalar2 .max (.smax x) s

/-- SSHL, S form: IMM8 is the count (R421). -/
def execSshlS (x : SScalar) (s : State) : Out :=
  scalarImm .shl (.sshlS x) x x.imm.toNat s

/-- SSHR, S form: IMM8 is the count (R421). -/
def execSshrS (x : SScalar) (s : State) : Out :=
  scalarImm .shr (.sshrS x) x x.imm.toNat s

/-- SCLZ (R423). -/
def execSclz (x : XFields) (s : State) : Out :=
  scalar1 clz (.sclz x) s

/-- SPOPC (R423). -/
def execSpopc (x : XFields) (s : State) : Out :=
  scalar1 popc (.spopc x) s

/-- SCMP: all ones of the width when COND holds, else zero (R422, R423). -/
def execScmp (x : XFields) (s : State) : Out :=
  regInstr (.scmp x) s (fun k =>
    let t := x.type.toNat
    let r := condInt (x.ext.extractLsb' 0 4).toNat (intVal t (k.srcS x.sa).toNat) (intVal t (k.srcS x.sb).toNat)
    [.s (k.skey x.vd.toNat) (fillScalar t (if r then 2 ^ typeWidth t - 1 else 0))])

/-- SSEL: a when the condition source is not zero in its width, else b (R423). -/
def execSsel (x : XFields) (s : State) : Out :=
  regInstr (.ssel x) s (fun k =>
    let t := x.type.toNat
    let c := (k.srcS x.sc).toNat % 2 ^ typeWidth t
    [.s (k.skey x.vd.toNat) (fillScalar t (if c ≠ 0 then (k.srcS x.sa).toNat else (k.srcS x.sb).toNat))])

/-- SMOV, S form (R425). -/
def execSmovS (x : SScalar) (s : State) : Out :=
  regInstr (.smovS x) s (fun k => [.s (k.skey x.sd.toNat) (k.c.readS k.il k.free (k.skey x.ss.toNat))])

/-- SMOV, X form (R425). -/
def execSmovX (x : XFields) (s : State) : Out :=
  regInstr (.smovX x) s (fun k => [.s (k.skey x.vd.toNat) (k.srcS x.sa)])

/-- SMOVL, SL form (R425). -/
def execSmovlSl (x : SScalar) (lit : Word) (s : State) : Out :=
  regInstr (.smovlSl x lit) s (fun k => [.s (k.skey x.sd.toNat) lit])

/-- SMOVL, XL form (R425). -/
def execSmovlXl (x : XFields) (lit : Word) (s : State) : Out :=
  regInstr (.smovlXl x lit) s (fun k => [.s (k.skey x.vd.toNat) lit])

/-! ## Special registers (R426 to R429) -/

/-- sr.deadline (R427): D on the clock of the course's bench. -/
def Ctx.deadlineReg (k : Ctx) : Nat :=
  let past := k.c.passed || k.s.isPast k.c.deadline
  (match k.c.deadline with
   | some t => k.s.clockAt k.g.bench t
   | none => 2 ^ 48) + (if past then 2 ^ 49 else 0)

/-- The value of a special register for the issuing course, half and split, in a lane (R426, R427). -/
def Ctx.special (k : Ctx) (n lane : Nat) : Word :=
  let h := k.half
  let e := k.t.trec.extents
  let q := rankOf e k.g.f k.g.b k.g.g k.c.c
  BitVec.ofNat 64 (match n with
    | 0x00 => if k.lw then lane % 16 else lane
    | 0x01 => if k.lw then 2 * k.c.c + h else k.c.c
    | 0x02 => k.g.g
    | 0x03 => k.g.b
    | 0x04 => k.g.f
    | 0x05 => e.toNat &&& 0x00ff803f
    | 0x06 => k.w
    | 0x07 => if k.c.prof then 1 else 0
    | 0x08 => k.c.phases % 2 ^ 48 + k.c.lastScope * 2 ^ 48
    | 0x09 => if k.lw then 2 * q + h else q
    | 0x0a => k.t.nest
    | 0x0b => k.t.record.toNat
    | 0x0c => k.s.clock k.g.bench
    | 0x0d => k.deadlineReg
    | _ => k.c.trapmask.toNat)

/-- SGET, S form (R428). -/
def execSgetS (x : SScalar) (s : State) : Out :=
  regInstr (.sgetS x) s (fun k => [.s (k.skey x.sd.toNat) (k.special x.imm.toNat 0)])

/-- SGET, X form: to a scalar register, or to a vector register with sr.lane per lane (R428). -/
def execSgetX (x : XFields) (s : State) : Out :=
  regInstr (.sgetX x) s (fun k =>
    if x.ext.getLsbD 0 then k.writeV 5 (k.lanes.map (fun l => (l, (k.special x.sa.toNat l).toNat)))
    else [.s (k.skey x.vd.toNat) (k.special x.sa.toNat 0)])

/-- SSET sr.trapmask: privileged to ASID 0 (R429); PROT with ADDR the number otherwise. -/
def execSset (x : XFields) (s : State) : Out :=
  withIssue (.sset x) s (fun k =>
    if (s.vd k.vdn).asid ≠ 0 then .next (k.fault 0x02 0 (x.sa.setWidth 64) 0 k.k0)
    else .next (k.issue [.trap ((k.srcS x.sb).setWidth 16)]))

end Sys2Proof.Machine
end

