-- ==== Sys2Proof/Machine/VectorFloat.lean ====
section
/-! DEFINITION. Vector float instructions, conversions and CB4 (16 R454 to R461). -/
namespace Sys2Proof.Machine

/-- FADD, S form: RNE. -/
def execFaddS (x : SVec) (s : State) : Out := laneFloat (fun n t a b _ => fadd n t 0 a b) (.faddS x) (sBinary 10 x) s
/-- FADD. -/
def execFaddX (x : XFields) (s : State) : Out := laneFloat (fun n t a b _ => fadd n t x.rm.toNat a b) (.faddX x) x s
/-- FSUB, S form: RNE. -/
def execFsubS (x : SVec) (s : State) : Out := laneFloat (fun n t a b _ => fsub n t 0 a b) (.fsubS x) (sBinary 10 x) s
/-- FSUB. -/
def execFsubX (x : XFields) (s : State) : Out := laneFloat (fun n t a b _ => fsub n t x.rm.toNat a b) (.fsubX x) x s
/-- FMUL, S form: RNE. -/
def execFmulS (x : SVec) (s : State) : Out := laneFloat (fun n t a b _ => fmul n t 0 a b) (.fmulS x) (sBinary 10 x) s
/-- FMUL. -/
def execFmulX (x : XFields) (s : State) : Out := laneFloat (fun n t a b _ => fmul n t x.rm.toNat a b) (.fmulX x) x s
/-- FDIV, S form: RNE. -/
def execFdivS (x : SVec) (s : State) : Out := laneFloat (fun n t a b _ => fdiv n t 0 a b) (.fdivS x) (sBinary 10 x) s
/-- FDIV. -/
def execFdivX (x : XFields) (s : State) : Out := laneFloat (fun n t a b _ => fdiv n t x.rm.toNat a b) (.fdivX x) x s
/-- FMIN, S form: RNE. -/
def execFminS (x : SVec) (s : State) : Out := laneFloat (fun n t a b _ => fminmax n t false a b) (.fminS x) (sBinary 10 x) s
/-- FMIN. -/
def execFminX (x : XFields) (s : State) : Out := laneFloat (fun n t a b _ => fminmax n t false a b) (.fminX x) x s
/-- FMAX, S form: RNE. -/
def execFmaxS (x : SVec) (s : State) : Out := laneFloat (fun n t a b _ => fminmax n t true a b) (.fmaxS x) (sBinary 10 x) s
/-- FMAX. -/
def execFmaxX (x : XFields) (s : State) : Out := laneFloat (fun n t a b _ => fminmax n t true a b) (.fmaxX x) x s
/-- FSQRT, S form: RNE. -/
def execFsqrtS (x : SVec) (s : State) : Out := laneFloat (fun n t a _ _ => fsqrt n t 0 a) (.fsqrtS x) (sUnary 10 x) s
/-- FSQRT. -/
def execFsqrtX (x : XFields) (s : State) : Out := laneFloat (fun n t a _ _ => fsqrt n t x.rm.toNat a) (.fsqrtX x) x s
/-- FEXP2, S form: RNE. -/
def execFexp2S (x : SVec) (s : State) : Out := laneFloat (fun n t a _ _ => fexp2 n t 0 a) (.fexp2S x) (sUnary 10 x) s
/-- FEXP2. -/
def execFexp2X (x : XFields) (s : State) : Out := laneFloat (fun n t a _ _ => fexp2 n t x.rm.toNat a) (.fexp2X x) x s
/-- FLOG2, S form: RNE. -/
def execFlog2S (x : SVec) (s : State) : Out := laneFloat (fun n t a _ _ => flog2 n t 0 a) (.flog2S x) (sUnary 10 x) s
/-- FLOG2. -/
def execFlog2X (x : XFields) (s : State) : Out := laneFloat (fun n t a _ _ => flog2 n t x.rm.toNat a) (.flog2X x) x s
/-- FSINPI, S form: RNE. -/
def execFsinpiS (x : SVec) (s : State) : Out := laneFloat (fun n t a _ _ => fsinpi n t 0 a) (.fsinpiS x) (sUnary 10 x) s
/-- FSINPI. -/
def execFsinpiX (x : XFields) (s : State) : Out := laneFloat (fun n t a _ _ => fsinpi n t x.rm.toNat a) (.fsinpiX x) x s
/-- FCOSPI, S form: RNE. -/
def execFcospiS (x : SVec) (s : State) : Out := laneFloat (fun n t a _ _ => fcospi n t 0 a) (.fcospiS x) (sUnary 10 x) s
/-- FCOSPI. -/
def execFcospiX (x : XFields) (s : State) : Out := laneFloat (fun n t a _ _ => fcospi n t x.rm.toNat a) (.fcospiX x) x s
/-- FRCP, S form: RNE. -/
def execFrcpS (x : SVec) (s : State) : Out := laneFloat (fun n t a _ _ => frcp n t a) (.frcpS x) (sUnary 10 x) s
/-- FRCP. -/
def execFrcpX (x : XFields) (s : State) : Out := laneFloat (fun n t a _ _ => frcp n t a) (.frcpX x) x s
/-- FRSQ, S form: RNE. -/
def execFrsqS (x : SVec) (s : State) : Out := laneFloat (fun n t a _ _ => frsq n t a) (.frsqS x) (sUnary 10 x) s
/-- FRSQ. -/
def execFrsqX (x : XFields) (s : State) : Out := laneFloat (fun n t a _ _ => frsq n t a) (.frsqX x) x s
/-- FFMA. -/
def execFfma (x : XFields) (s : State) : Out := laneFloat (fun n t a b c => ffma n t x.rm.toNat a b c) (.ffma x) x s

/-- FCMP (R456). -/
def execFcmp (x : XFields) (s : State) : Out :=
  withIssue (.fcmp x) s (fun k =>
    let t := x.type.toNat
    .next (k.deliverK (k.lanes.map (fun l =>
      let r := fcond (x.ext.extractLsb' 0 4).toNat t (k.srcT t x.sa l) (k.srcT t x.sb l)
      { lane := l, x := if r.1 then 1 else 0, evs := [r.2] }))))

/-- FCLASS (R457): a 32-bit word, no event. -/
def execFclass (x : XFields) (s : State) : Out :=
  withIssue (.fclass x) s (fun k =>
    let t := x.type.toNat
    .next (k.deliverV 5 (k.lanes.map (fun l => { lane := l, x := fclass t (k.srcT t x.sa l) }))))

/-- FRND (R458). -/
def execFrnd (x : XFields) (s : State) : Out := laneFloat (fun n t a _ _ => frnd n t x.rm.toNat a) (.frnd x) x s

/-! ## Conversions (R459) -/

/-- CVT. -/
def execCvt (x : XFields) (s : State) : Out :=
  withIssue (.cvt x) s (fun k =>
    let t := x.type.toNat
    let st := (x.ext.extractLsb' 0 4).toNat
    .next (k.deliverV t (k.lanes.map (fun l =>
      let r := convert k.fenv t st x.rm.toNat (x.sat ≠ 0) (k.srcT st x.sa l)
      { lane := l, x := r.x, evs := [r.ev] }))))

/-- VPACK. -/
def execVpack (x : XFields) (s : State) : Out :=
  withIssue (.vpack x) s (fun k =>
    let e := k.pairType
    let st := (x.ext.extractLsb' 4 4).toNat
    .next (k.deliverV 13 (k.lanes.map (fun l =>
      let r0 := convert k.fenv e st x.rm.toNat (x.sat ≠ 0) (k.srcT st x.sa l)
      let r1 := convert k.fenv e st x.rm.toNat (x.sat ≠ 0) (k.srcT st x.sb l)
      { lane := l, x := r0.x + 65536 * r1.x, evs := [r0.ev, r1.ev] }))))

/-- VUNPK. -/
def execVunpk (x : XFields) (s : State) : Out :=
  withIssue (.vunpk x) s (fun k =>
    let e := k.pairType
    let dt := (x.ext.extractLsb' 4 4).toNat
    .next (k.deliverV dt (k.lanes.map (fun l =>
      let a := (k.srcV x.sa l).toNat
      let r := convert k.fenv dt e x.rm.toNat (x.sat ≠ 0) (if x.ext.getLsbD 8 then a / 65536 else a % 65536)
      { lane := l, x := r.x, evs := [r.ev] }))))

/-! ## CB4 (R460, R461) -/

/-- VCBDEC. -/
def execVcbdec (x : XFields) (s : State) : Out :=
  withIssue (.vcbdec x) s (fun k =>
    let t := x.type.toNat
    let e := (x.ext.extractLsb' 0 3).toNat
    .next (k.deliverV t (k.lanes.map (fun l =>
      let r := cbDecode k.fenv t x.rm.toNat ((k.srcV x.sa l).toNat / 16 ^ e % 16) ((k.srcV x.sb l).toNat % 256) (k.srcV x.sc l).toNat
      { lane := l, x := r.x, evs := [r.ev] }))))

/-- VCBENC: one nibble of VD changes. -/
def execVcbenc (x : XFields) (s : State) : Out :=
  withIssue (.vcbenc x) s (fun k =>
    let t := x.type.toNat
    let e := (x.ext.extractLsb' 0 3).toNat
    .next (k.deliverV 5 (k.lanes.map (fun l =>
      let r := cbEncode t (k.srcT t x.sa l) ((k.srcV x.sb l).toNat % 256) (k.srcV x.sc l).toNat
      let d := (k.srcV x.vd l).toNat
      { lane := l, x := d - (d / 16 ^ e % 16) * 16 ^ e + r.1 * 16 ^ e, evs := [r.2] }))))

/-- VBSCAL: MODE in EXT [19]. -/
def execVbscal (x : XFields) (s : State) : Out :=
  withIssue (.vbscal x) s (fun k =>
    let t := x.type.toNat
    .next (k.deliverV 5 (k.lanes.map (fun l =>
      let r := vbscal (x.ext.extractLsb' 0 1).toNat t (k.srcT t x.sa l) (k.srcV x.sc l).toNat
      { lane := l, x := r.x, evs := [r.ev] }))))

end Sys2Proof.Machine
end

