-- ==== Sys2Proof/Machine/Dispatch.lean ====
section
/-! DEFINITION. The dispatch: one arm for each constructor of `Instr`, each a direct call of its meaning. -/
namespace Sys2Proof.Machine

/-- The meaning of an instruction, or of an event. -/
def exec (i : Instr) (s : State) : Host.Outcome State Fault Refusal :=
  match i with
  | .nopS sch z => Sys2Proof.Machine.execNopS sch z s
  | .nopX x => Sys2Proof.Machine.execNopX x s
  | .saddS x => Sys2Proof.Machine.execSaddS x s
  | .saddSl x lit => Sys2Proof.Machine.execSaddSl x lit s
  | .saddX x => Sys2Proof.Machine.execSaddX x s
  | .ssub x => Sys2Proof.Machine.execSsub x s
  | .smul x => Sys2Proof.Machine.execSmul x s
  | .smulh x => Sys2Proof.Machine.execSmulh x s
  | .sand x => Sys2Proof.Machine.execSand x s
  | .sor x => Sys2Proof.Machine.execSor x s
  | .sxor x => Sys2Proof.Machine.execSxor x s
  | .sshlS x => Sys2Proof.Machine.execSshlS x s
  | .sshlX x => Sys2Proof.Machine.execSshlX x s
  | .sshrS x => Sys2Proof.Machine.execSshrS x s
  | .sshrX x => Sys2Proof.Machine.execSshrX x s
  | .ssar x => Sys2Proof.Machine.execSsar x s
  | .sclz x => Sys2Proof.Machine.execSclz x s
  | .spopc x => Sys2Proof.Machine.execSpopc x s
  | .smin x => Sys2Proof.Machine.execSmin x s
  | .smax x => Sys2Proof.Machine.execSmax x s
  | .scmp x => Sys2Proof.Machine.execScmp x s
  | .ssel x => Sys2Proof.Machine.execSsel x s
  | .smovS x => Sys2Proof.Machine.execSmovS x s
  | .smovX x => Sys2Proof.Machine.execSmovX x s
  | .smovlSl x lit => Sys2Proof.Machine.execSmovlSl x lit s
  | .smovlXl x lit => Sys2Proof.Machine.execSmovlXl x lit s
  | .sgetS x => Sys2Proof.Machine.execSgetS x s
  | .sgetX x => Sys2Proof.Machine.execSgetX x s
  | .sset x => Sys2Proof.Machine.execSset x s
  | .trapX x => Sys2Proof.Machine.execTrapX x s
  | .trapXl x lit => Sys2Proof.Machine.execTrapXl x lit s
  | .brk x => Sys2Proof.Machine.execBrk x s
  | .yield x => Sys2Proof.Machine.execYield x s
  | .prio x => Sys2Proof.Machine.execPrio x s
  | .kand x => Sys2Proof.Machine.execKand x s
  | .kor x => Sys2Proof.Machine.execKor x s
  | .kxor x => Sys2Proof.Machine.execKxor x s
  | .knot x => Sys2Proof.Machine.execKnot x s
  | .kmov x => Sys2Proof.Machine.execKmov x s
  | .kfroms x => Sys2Proof.Machine.execKfroms x s
  | .ktos x => Sys2Proof.Machine.execKtos x s
  | .kpopc x => Sys2Proof.Machine.execKpopc x s
  | .kfirst x => Sys2Proof.Machine.execKfirst x s
  | .waitf x => Sys2Proof.Machine.execWaitf x s
  | .delay x => Sys2Proof.Machine.execDelay x s
  | .braS x => Sys2Proof.Machine.execBraS x s
  | .braXl x lit => Sys2Proof.Machine.execBraXl x lit s
  | .brcS x => Sys2Proof.Machine.execBrcS x s
  | .brcXl x lit => Sys2Proof.Machine.execBrcXl x lit s
  | .brvS x => Sys2Proof.Machine.execBrvS x s
  | .brvXl x lit => Sys2Proof.Machine.execBrvXl x lit s
  | .callS x => Sys2Proof.Machine.execCallS x s
  | .callXl x lit => Sys2Proof.Machine.execCallXl x lit s
  | .jmpi x => Sys2Proof.Machine.execJmpi x s
  | .ret x => Sys2Proof.Machine.execRet x s
  | .rejoin x => Sys2Proof.Machine.execRejoin x s
  | .exit x => Sys2Proof.Machine.execExit x s
  | .tail x => Sys2Proof.Machine.execTail x s
  | .migr x => Sys2Proof.Machine.execMigr x s
  | .vaddS x => Sys2Proof.Machine.execVaddS x s
  | .vaddX x => Sys2Proof.Machine.execVaddX x s
  | .vsubS x => Sys2Proof.Machine.execVsubS x s
  | .vsubX x => Sys2Proof.Machine.execVsubX x s
  | .vandS x => Sys2Proof.Machine.execVandS x s
  | .vandX x => Sys2Proof.Machine.execVandX x s
  | .vorS x => Sys2Proof.Machine.execVorS x s
  | .vorX x => Sys2Proof.Machine.execVorX x s
  | .vxorS x => Sys2Proof.Machine.execVxorS x s
  | .vxorX x => Sys2Proof.Machine.execVxorX x s
  | .vnotS x => Sys2Proof.Machine.execVnotS x s
  | .vnotX x => Sys2Proof.Machine.execVnotX x s
  | .vmulS x => Sys2Proof.Machine.execVmulS x s
  | .vmulX x => Sys2Proof.Machine.execVmulX x s
  | .vmulhS x => Sys2Proof.Machine.execVmulhS x s
  | .vmulhX x => Sys2Proof.Machine.execVmulhX x s
  | .vmad x => Sys2Proof.Machine.execVmad x s
  | .vshlS x => Sys2Proof.Machine.execVshlS x s
  | .vshlX x => Sys2Proof.Machine.execVshlX x s
  | .vshrS x => Sys2Proof.Machine.execVshrS x s
  | .vshrX x => Sys2Proof.Machine.execVshrX x s
  | .vsarS x => Sys2Proof.Machine.execVsarS x s
  | .vsarX x => Sys2Proof.Machine.execVsarX x s
  | .vclzS x => Sys2Proof.Machine.execVclzS x s
  | .vclzX x => Sys2Proof.Machine.execVclzX x s
  | .vpopcS x => Sys2Proof.Machine.execVpopcS x s
  | .vpopcX x => Sys2Proof.Machine.execVpopcX x s
  | .vbrevS x => Sys2Proof.Machine.execVbrevS x s
  | .vbrevX x => Sys2Proof.Machine.execVbrevX x s
  | .vbfe x => Sys2Proof.Machine.execVbfe x s
  | .vbfi x => Sys2Proof.Machine.execVbfi x s
  | .vminS x => Sys2Proof.Machine.execVminS x s
  | .vminX x => Sys2Proof.Machine.execVminX x s
  | .vmaxS x => Sys2Proof.Machine.execVmaxS x s
  | .vmaxX x => Sys2Proof.Machine.execVmaxX x s
  | .vabsS x => Sys2Proof.Machine.execVabsS x s
  | .vabsX x => Sys2Proof.Machine.execVabsX x s
  | .vnegS x => Sys2Proof.Machine.execVnegS x s
  | .vnegX x => Sys2Proof.Machine.execVnegX x s
  | .vcmp x => Sys2Proof.Machine.execVcmp x s
  | .vsel x => Sys2Proof.Machine.execVsel x s
  | .vmovS x => Sys2Proof.Machine.execVmovS x s
  | .vmovX x => Sys2Proof.Machine.execVmovX x s
  | .vmovXl x lit => Sys2Proof.Machine.execVmovXl x lit s
  | .vleaX x => Sys2Proof.Machine.execVleaX x s
  | .vleaXl x lit => Sys2Proof.Machine.execVleaXl x lit s
  | .faddS x => Sys2Proof.Machine.execFaddS x s
  | .faddX x => Sys2Proof.Machine.execFaddX x s
  | .fsubS x => Sys2Proof.Machine.execFsubS x s
  | .fsubX x => Sys2Proof.Machine.execFsubX x s
  | .fmulS x => Sys2Proof.Machine.execFmulS x s
  | .fmulX x => Sys2Proof.Machine.execFmulX x s
  | .ffma x => Sys2Proof.Machine.execFfma x s
  | .fminS x => Sys2Proof.Machine.execFminS x s
  | .fminX x => Sys2Proof.Machine.execFminX x s
  | .fmaxS x => Sys2Proof.Machine.execFmaxS x s
  | .fmaxX x => Sys2Proof.Machine.execFmaxX x s
  | .fcmp x => Sys2Proof.Machine.execFcmp x s
  | .fclass x => Sys2Proof.Machine.execFclass x s
  | .frnd x => Sys2Proof.Machine.execFrnd x s
  | .fdivS x => Sys2Proof.Machine.execFdivS x s
  | .fdivX x => Sys2Proof.Machine.execFdivX x s
  | .fsqrtS x => Sys2Proof.Machine.execFsqrtS x s
  | .fsqrtX x => Sys2Proof.Machine.execFsqrtX x s
  | .frcpS x => Sys2Proof.Machine.execFrcpS x s
  | .frcpX x => Sys2Proof.Machine.execFrcpX x s
  | .frsqS x => Sys2Proof.Machine.execFrsqS x s
  | .frsqX x => Sys2Proof.Machine.execFrsqX x s
  | .fexp2S x => Sys2Proof.Machine.execFexp2S x s
  | .fexp2X x => Sys2Proof.Machine.execFexp2X x s
  | .flog2S x => Sys2Proof.Machine.execFlog2S x s
  | .flog2X x => Sys2Proof.Machine.execFlog2X x s
  | .fsinpiS x => Sys2Proof.Machine.execFsinpiS x s
  | .fsinpiX x => Sys2Proof.Machine.execFsinpiX x s
  | .fcospiS x => Sys2Proof.Machine.execFcospiS x s
  | .fcospiX x => Sys2Proof.Machine.execFcospiX x s
  | .cvt x => Sys2Proof.Machine.execCvt x s
  | .vpack x => Sys2Proof.Machine.execVpack x s
  | .vunpk x => Sys2Proof.Machine.execVunpk x s
  | .vcbdec x => Sys2Proof.Machine.execVcbdec x s
  | .vcbenc x => Sys2Proof.Machine.execVcbenc x s
  | .vbscal x => Sys2Proof.Machine.execVbscal x s
  | .vshfl x => Sys2Proof.Machine.execVshfl x s
  | .vperm x => Sys2Proof.Machine.execVperm x s
  | .vbcast x => Sys2Proof.Machine.execVbcast x s
  | .vnbrLeft x => Sys2Proof.Machine.execVnbrLeft x s
  | .vnbrRight x => Sys2Proof.Machine.execVnbrRight x s
  | .vred x => Sys2Proof.Machine.execVred x s
  | .vscan x => Sys2Proof.Machine.execVscan x s
  | .vballot x => Sys2Proof.Machine.execVballot x s
  | .vldX x => Sys2Proof.Machine.execVldX x s
  | .vldXl x lit => Sys2Proof.Machine.execVldXl x lit s
  | .vstX x => Sys2Proof.Machine.execVstX x s
  | .vstXl x lit => Sys2Proof.Machine.execVstXl x lit s
  | .vldx x => Sys2Proof.Machine.execVldx x s
  | .vstx x => Sys2Proof.Machine.execVstx x s
  | .sldX x => Sys2Proof.Machine.execSldX x s
  | .sldXl x lit => Sys2Proof.Machine.execSldXl x lit s
  | .sstX x => Sys2Proof.Machine.execSstX x s
  | .sstXl x lit => Sys2Proof.Machine.execSstXl x lit s
  | .prefX x => Sys2Proof.Machine.execPrefX x s
  | .prefXl x lit => Sys2Proof.Machine.execPrefXl x lit s
  | .pld x => Sys2Proof.Machine.execPld x s
  | .pst x => Sys2Proof.Machine.execPst x s
  | .pldr x lit => Sys2Proof.Machine.execPldr x lit s
  | .pstr x lit => Sys2Proof.Machine.execPstr x lit s
  | .vatom x => Sys2Proof.Machine.execVatom x s
  | .patom x => Sys2Proof.Machine.execPatom x s
  | .ratomX x => Sys2Proof.Machine.execRatomX x s
  | .ratomXl x lit => Sys2Proof.Machine.execRatomXl x lit s
  | .feld x => Sys2Proof.Machine.execFeld x s
  | .fest x => Sys2Proof.Machine.execFest x s
  | .fefill x => Sys2Proof.Machine.execFefill x s
  | .feclr x => Sys2Proof.Machine.execFeclr x s
  | .feqry x => Sys2Proof.Machine.execFeqry x s
  | .waita x => Sys2Proof.Machine.execWaita x s
  | .phase x => Sys2Proof.Machine.execPhase x s
  | .bar x => Sys2Proof.Machine.execBar x s
  | .barx x => Sys2Proof.Machine.execBarx x s
  | .fence x => Sys2Proof.Machine.execFence x s
  | .ifence x => Sys2Proof.Machine.execIfence x s
  | .icinv x => Sys2Proof.Machine.execIcinv x s
  | .cflush x => Sys2Proof.Machine.execCflush x s
  | .cinv x => Sys2Proof.Machine.execCinv x s
  | .sbmode x => Sys2Proof.Machine.execSbmode x s
  | .gdef x => Sys2Proof.Machine.execGdef x s
  | .gview x => Sys2Proof.Machine.execGview x s
  | .grel x => Sys2Proof.Machine.execGrel x s
  | .tload x => Sys2Proof.Machine.execTload x s
  | .tmma x => Sys2Proof.Machine.execTmma x s
  | .tew x => Sys2Proof.Machine.execTew x s
  | .tred x => Sys2Proof.Machine.execTred x s
  | .tcvt x => Sys2Proof.Machine.execTcvt x s
  | .tforce x => Sys2Proof.Machine.execTforce x s
  | .tstore x => Sys2Proof.Machine.execTstore x s
  | .twait x => Sys2Proof.Machine.execTwait x s
  | .tdrop x => Sys2Proof.Machine.execTdrop x s
  | .tqry x => Sys2Proof.Machine.execTqry x s
  | .lstat x => Sys2Proof.Machine.execLstat x s
  | .lswap x => Sys2Proof.Machine.execLswap x s
  | .mstrm x => Sys2Proof.Machine.execMstrm x s
  | .mdrain x => Sys2Proof.Machine.execMdrain x s
  | .btake x => Sys2Proof.Machine.execBtake x s
  | .bpass x => Sys2Proof.Machine.execBpass x s
  | .ownset x => Sys2Proof.Machine.execOwnset x s
  | .ownq x => Sys2Proof.Machine.execOwnq x s
  | .copyX x => Sys2Proof.Machine.execCopyX x s
  | .copyXl x lit => Sys2Proof.Machine.execCopyXl x lit s
  | .copymX x => Sys2Proof.Machine.execCopymX x s
  | .copymXl x lit => Sys2Proof.Machine.execCopymXl x lit s
  | .pkrd x => Sys2Proof.Machine.execPkrd x s
  | .pkwr x => Sys2Proof.Machine.execPkwr x s
  | .pkvget x => Sys2Proof.Machine.execPkvget x s
  | .pkvset x => Sys2Proof.Machine.execPkvset x s
  | .pkact x => Sys2Proof.Machine.execPkact x s
  | .enq x => Sys2Proof.Machine.execEnq x s
  | .qstat x => Sys2Proof.Machine.execQstat x s
  | .udf len sch n => Sys2Proof.Machine.execUdf len sch n s
  | .powerGood => Sys2Proof.Machine.execPowerGood s
  | .functionReady => Sys2Proof.Machine.execFunctionReady s
  | .readyTimeout => Sys2Proof.Machine.execReadyTimeout s
  | .functionFail => Sys2Proof.Machine.execFunctionFail s
  | .pwrReqP0 => Sys2Proof.Machine.execPwrReqP0 s
  | .pwrReqP1 => Sys2Proof.Machine.execPwrReqP1 s
  | .pwrReqRetention => Sys2Proof.Machine.execPwrReqRetention s
  | .pwrReqOff => Sys2Proof.Machine.execPwrReqOff s
  | .powerTransitionDone => Sys2Proof.Machine.execPowerTransitionDone s
  | .retentionEntryDone => Sys2Proof.Machine.execRetentionEntryDone s
  | .retentionExitDone => Sys2Proof.Machine.execRetentionExitDone s
  | .thermalForce => Sys2Proof.Machine.execThermalForce s
  | .thermalForceEnd => Sys2Proof.Machine.execThermalForceEnd s
  | .powerCapForce => Sys2Proof.Machine.execPowerCapForce s
  | .powerCapEnd => Sys2Proof.Machine.execPowerCapEnd s
  | .tripOff => Sys2Proof.Machine.execTripOff s
  | .meshLinkFail => Sys2Proof.Machine.execMeshLinkFail s
  | .frameDiscardEthertype => Sys2Proof.Machine.execFrameDiscardEthertype s
  | .roceSend => Sys2Proof.Machine.execRoceSend s
  | .roceSendImm => Sys2Proof.Machine.execRoceSendImm s
  | .roceRdmaWrite => Sys2Proof.Machine.execRoceRdmaWrite s
  | .roceRdmaWriteImm => Sys2Proof.Machine.execRoceRdmaWriteImm s
  | .roceRdmaRead => Sys2Proof.Machine.execRoceRdmaRead s
  | .roceAtomicVerb => Sys2Proof.Machine.execRoceAtomicVerb s
  | .pfcPauseRx => Sys2Proof.Machine.execPfcPauseRx s
  | .mregRead => Sys2Proof.Machine.execMregRead s
  | .mregWrite => Sys2Proof.Machine.execMregWrite s
  | .registerWrite => Sys2Proof.Machine.execRegisterWrite s
  | .glStatRead => Sys2Proof.Machine.execGlStatRead s
  | .hpStatRead => Sys2Proof.Machine.execHpStatRead s
  | .cellMapVariantWrite => Sys2Proof.Machine.execCellMapVariantWrite s
  | .cellRetire => Sys2Proof.Machine.execCellRetire s
  | .vdCkptStop => Sys2Proof.Machine.execVdCkptStop s
  | .vdCkptResume => Sys2Proof.Machine.execVdCkptResume s
  | .vdCkptRestore => Sys2Proof.Machine.execVdCkptRestore s
  | .cmdqpOpen => Sys2Proof.Machine.execCmdqpOpen s
  | .warmReset => Sys2Proof.Machine.execWarmReset s
  | .sessionAuth => Sys2Proof.Machine.execSessionAuth s
  | .securedMessage => Sys2Proof.Machine.execSecuredMessage s
  | .secProvision => Sys2Proof.Machine.execSecProvision s
  | .secLock => Sys2Proof.Machine.execSecLock s
  | .secUnlock => Sys2Proof.Machine.execSecUnlock s
  | .secSetdbg => Sys2Proof.Machine.execSecSetdbg s
  | .fwUpdate => Sys2Proof.Machine.execFwUpdate s
  | .fwData => Sys2Proof.Machine.execFwData s
  | .fwEnd => Sys2Proof.Machine.execFwEnd s
  | .fwVerifyDone => Sys2Proof.Machine.execFwVerifyDone s
  | .dbgOpen => Sys2Proof.Machine.execDbgOpen s
  | .dbgClose => Sys2Proof.Machine.execDbgClose s
  | .spdmGetVersion => Sys2Proof.Machine.execSpdmGetVersion s
  | .spdmGetCapabilities => Sys2Proof.Machine.execSpdmGetCapabilities s
  | .spdmNegotiateAlgorithms => Sys2Proof.Machine.execSpdmNegotiateAlgorithms s
  | .spdmGetDigests => Sys2Proof.Machine.execSpdmGetDigests s
  | .spdmGetCertificate => Sys2Proof.Machine.execSpdmGetCertificate s
  | .spdmChallenge => Sys2Proof.Machine.execSpdmChallenge s
  | .spdmGetMeasurements => Sys2Proof.Machine.execSpdmGetMeasurements s
  | .spdmKeyExchange => Sys2Proof.Machine.execSpdmKeyExchange s
  | .spdmFinish => Sys2Proof.Machine.execSpdmFinish s
  | .spdmEndSession => Sys2Proof.Machine.execSpdmEndSession s
  | .spdmHeartbeat => Sys2Proof.Machine.execSpdmHeartbeat s
  | .vdCreate => Sys2Proof.Machine.execVdCreate s
  | .vdDestroy => Sys2Proof.Machine.execVdDestroy s
  | .vdQuery => Sys2Proof.Machine.execVdQuery s
  | .migStart => Sys2Proof.Machine.execMigStart s
  | .migDirty => Sys2Proof.Machine.execMigDirty s
  | .migStop => Sys2Proof.Machine.execMigStop s
  | .migStopComplete => Sys2Proof.Machine.execMigStopComplete s
  | .migResume => Sys2Proof.Machine.execMigResume s
  | .migAbort => Sys2Proof.Machine.execMigAbort s
  | .regRead => Sys2Proof.Machine.execRegRead s
  | .qpCreate => Sys2Proof.Machine.execQpCreate s
  | .qpDestroy => Sys2Proof.Machine.execQpDestroy s
  | .map => Sys2Proof.Machine.execMap s
  | .unmap => Sys2Proof.Machine.execUnmap s
  | .unmapComplete => Sys2Proof.Machine.execUnmapComplete s
  | .mrReg => Sys2Proof.Machine.execMrReg s
  | .mrDereg => Sys2Proof.Machine.execMrDereg s
  | .queueCreate => Sys2Proof.Machine.execQueueCreate s
  | .queueDestroy => Sys2Proof.Machine.execQueueDestroy s
  | .queueDestroyComplete => Sys2Proof.Machine.execQueueDestroyComplete s
  | .queueQuery => Sys2Proof.Machine.execQueueQuery s
  | .queueReset => Sys2Proof.Machine.execQueueReset s
  | .featQuery => Sys2Proof.Machine.execFeatQuery s
  | .glFlitRx => Sys2Proof.Machine.execGlFlitRx s
  | .glNakRx => Sys2Proof.Machine.execGlNakRx s
  | .glAckTimer => Sys2Proof.Machine.execGlAckTimer s
  | .glRetrain => Sys2Proof.Machine.execGlRetrain s
  | .glRetrainDone => Sys2Proof.Machine.execGlRetrainDone s
  | .glRequestArrive => Sys2Proof.Machine.execGlRequestArrive s
  | .glResponseArrive => Sys2Proof.Machine.execGlResponseArrive s
  | .fabricTimeout => Sys2Proof.Machine.execFabricTimeout s
  | .faultEnqResend => Sys2Proof.Machine.execFaultEnqResend s
  | .faultNoticeRx => Sys2Proof.Machine.execFaultNoticeRx s
  | .faultNoticeResend => Sys2Proof.Machine.execFaultNoticeResend s
  | .ringRecordCopy => Sys2Proof.Machine.execRingRecordCopy s
  | .waitTagNotice => Sys2Proof.Machine.execWaitTagNotice s
  | .dispatchSelect => Sys2Proof.Machine.execDispatchSelect s
  | .drainLimit => Sys2Proof.Machine.execDrainLimit s
  | .groupSaveComplete => Sys2Proof.Machine.execGroupSaveComplete s
  | .migrationRequestPost => Sys2Proof.Machine.execMigrationRequestPost s
  | .taskLate => Sys2Proof.Machine.execTaskLate s
  | .parkedDeadlineKill => Sys2Proof.Machine.execParkedDeadlineKill s
  | .budgetExhausted => Sys2Proof.Machine.execBudgetExhausted s
  | .taskComplete => Sys2Proof.Machine.execTaskComplete s
  | .lateFault => Sys2Proof.Machine.execLateFault s
  | .faultTaskDeferredWrite => Sys2Proof.Machine.execFaultTaskDeferredWrite s
  | .recordFreeGrant => Sys2Proof.Machine.execRecordFreeGrant s
  | .uncorrectableConsumed => Sys2Proof.Machine.execUncorrectableConsumed s
  | .shadowCopyDone => Sys2Proof.Machine.execShadowCopyDone s
  | .strikeReport => Sys2Proof.Machine.execStrikeReport s
  | .rejoinDeadlockDetect => Sys2Proof.Machine.execRejoinDeadlockDetect s
  | .courseExchange => Sys2Proof.Machine.execCourseExchange s
  | .instructionComplete => Sys2Proof.Machine.execInstructionComplete s
  | .courseRetire => Sys2Proof.Machine.execCourseRetire s
  | .trackerEntryFree => Sys2Proof.Machine.execTrackerEntryFree s
  | .migrationComplete => Sys2Proof.Machine.execMigrationComplete s
  | .atlbFillDone => Sys2Proof.Machine.execAtlbFillDone s
  | .pageWalkDone => Sys2Proof.Machine.execPageWalkDone s
  | .bufferedSectorEvict => Sys2Proof.Machine.execBufferedSectorEvict s
  | .fullEmptyWake => Sys2Proof.Machine.execFullEmptyWake s
  | .waitaRecheck => Sys2Proof.Machine.execWaitaRecheck s
  | .waitaTimeout => Sys2Proof.Machine.execWaitaTimeout s
  | .nodeEvaluate => Sys2Proof.Machine.execNodeEvaluate s
  | .bowGrant => Sys2Proof.Machine.execBowGrant s
  | .copymFollowOn => Sys2Proof.Machine.execCopymFollowOn s
  | .copySegmentComplete => Sys2Proof.Machine.execCopySegmentComplete s
  | .multicastFillLand => Sys2Proof.Machine.execMulticastFillLand s
  | .eventSpaceReturn => Sys2Proof.Machine.execEventSpaceReturn s
  | .ltodWaitLimit => Sys2Proof.Machine.execLtodWaitLimit s
  | .vdCkptStopComplete => Sys2Proof.Machine.execVdCkptStopComplete s
  | .vdCkptRestoreComplete => Sys2Proof.Machine.execVdCkptRestoreComplete s
  | .vdDestroyComplete => Sys2Proof.Machine.execVdDestroyComplete s
  | .migResumeComplete => Sys2Proof.Machine.execMigResumeComplete s
  | .debugHalt => Sys2Proof.Machine.execDebugHalt s
  | .debugResume => Sys2Proof.Machine.execDebugResume s
  | .mgmtBadOpcode => Sys2Proof.Machine.execMgmtBadOpcode s
  | .spdmUnsupportedRequest => Sys2Proof.Machine.execSpdmUnsupportedRequest s

end Sys2Proof.Machine
end

