-- ==== Sys2Proof/Machine/Next.lean ====
section
/-! DEFINITION. What the module does next: an input of the world outside, an event that is due, or the issue of an instruction; and the
order of events that touch one record, one unit or one bench in one cycle (05 R150, 06 R174, R185). -/
namespace Sys2Proof.Machine

/-! ## Events of one cycle -/

/-- A state access: the record that it names, and where it stands among those that arrive with it, by the requester's MODID, die, bench,
cell and slot (06 R174, R185). -/
structure StateReq where
  rec_ : Word
  who  : List Nat
  deriving DecidableEq, Repr

/-- The record that a request of another module names, if it is a state access. -/
def fabRecord (op : FabOp) : Option Word :=
  match op with
  | .pkrd h _ | .pkwr h _ _ | .pkvget h _ _ _ | .pkvset h _ _ _ _ _ | .pkact h _ => some h
  | _ => none

/-- The state access that an event performs. -/
def State.stateReq (s : State) (e : Ev) : Option StateReq :=
  match e.i, e.arg with
  | .instructionComplete, .course cid n _ _ =>
    (match (s.course cid).pend n with
     | some p => (match p.act with
       | .state h _ _ _ _ =>
         let c := s.course cid
         let g := s.group c.group
         if p.late.isSome || s.isFar h then none
         else some { rec_ := h, who := [s.fab.modid.toNat, dieOf g.bench, g.bench, g.cell, c.slot, if c.dcore then 1 else 0] }
       | _ => none)
     | none => none)
  | .glRequestArrive, .req _ r => if r.turns.head? = some 3 then (fabRecord r.op).map (fun h => { rec_ := h, who := [r.srcMod.toNat, r.srcDie] }) else none
  | _, _ => none

/-- Does one list of numbers come before another? -/
def listBefore : List Nat → List Nat → Bool
  | _, [] => false
  | [], _ :: _ => true
  | x :: xs, y :: ys => x < y || (x = y && listBefore xs ys)

/-- Would a task of a dispatcher be placed now? -/
def State.placesNow (s : State) (tk : Nat) : Bool :=
  let a : State × Bool := if (s.task tk).st = .ready then s.takeIn tk else (s, true)
  a.2 && (a.1.placeTask tk).isSome

/-- The task for which a bench's dispatcher requests lease rows: the first in rank that can be placed. -/
def State.requester (s : State) (b : Nat) : Option Task := ((s.ranked b).find? s.placesNow).map s.task

/-- The time that a task has left until its deadline; none without a deadline. -/
def State.timeLeft (s : State) (t : Task) : Option Nat := t.deadline.map (fun d => if t.passed then 0 else d - s.now)

/-- Is a dispatcher served before another one that selects in the same cycle: by effective level, by remaining time, by bench (05 R150)? -/
def State.servedFirst (s : State) (a b : Nat) : Bool :=
  match s.requester a, s.requester b with
  | some x, some y =>
    if s.effLevel x ≠ s.effLevel y then s.effLevel x < s.effLevel y
    else
      (match s.timeLeft x, s.timeLeft y with
       | some u, some v => if u = v then a < b else u < v
       | some _, none => true
       | none, some _ => false
       | none, none => a < b)
  | some _, none => true
  | none, some _ => false
  | none, none => a < b

/-- Does a due event `o` come before another one `d` that touches the same record, unit or bench (05 R150, 06 R174, R185)? -/
def State.goesFirst (s : State) (o d : Due) : Bool :=
  match s.stateReq o.ev, s.stateReq d.ev with
  | some x, some y => x.rec_ = y.rec_ && (o.tick < d.tick || (o.tick = d.tick && listBefore x.who y.who))
  | some x, none =>
    (match d.ev.i, d.ev.arg with
     | .taskComplete, .nat tk _ _ => (s.task tk).trec.type = 2 && (s.task tk).record = x.rec_
     | .groupSaveComplete, .nat gk _ _ => s.unitGroup (s.recOf x.rec_) = some gk
     | _, _ => false)
  | none, _ =>
    (match o.ev.i, o.ev.arg, d.ev.i, d.ev.arg with
     | .parkedDeadlineKill, _, i, _ => i ≠ .parkedDeadlineKill
     | .dispatchSelect, .nat a _ _, .dispatchSelect, .nat b _ _ => o.tick = d.tick && s.servedFirst a b
     | _, _, _, _ => false)

/-- The events that may be performed now, by their places in the agenda: due, not held back, the first of their lane, and with no other
due event to come before. -/
def State.dueNow (s : State) : List Nat :=
  let ns := (List.range s.agenda.length).filter (fun n => match s.agenda[n]? with
    | some d => d.tick ≤ s.now && !s.heldBack d.ev && !((Ev.lane d.ev).isSome && (s.agenda.take n).any (fun e => Ev.lane e.ev = Ev.lane d.ev && !s.heldBack e.ev))
    | none => false)
  let ds := ns.filterMap (fun n => s.agenda[n]?)
  ns.filter (fun n => match s.agenda[n]? with
    | some d => !ds.any (fun o => s.goesFirst o d)
    | none => false)

/-! ## What happens next -/

/-- One thing that may happen in a step. -/
inductive Act where
  | due (n : Nat)
  | issue (c : Cand)
  deriving DecidableEq, Repr

/-- What the step performs. -/
inductive Pick where
  | event (ev : Ev)
  | issue (cid w : Nat) (i : Instr)
  | quiet
  deriving DecidableEq, Repr

/-- The least tick from which something waits for time to pass. -/
def State.nextTick (s : State) : Option Nat :=
  let ts := s.inputs.head?.toList.map (·.tick) ++ s.agenda.map (·.tick)
    ++ s.courses.flatMap (fun p => p.2.splits.map (·.2.hold) ++ p.2.splits.map (fun q => q.2.last + 7) ++ p.2.pends.filterMap (·.due))
  (ts.filter (fun t => s.now < t)).min?

/-- The n-th of the things that may happen now: events and candidates; whichever kind stands first alternates with time. [DESIGN CHOICE, log 1; DESIGN CHOICE, log 2] -/
def State.acts (s : State) : List Act :=
  let ds := s.dueNow.map Act.due
  let cs := s.cands.map Act.issue
  if s.now % 2 = 0 then ds ++ cs else cs ++ ds

/-- Choose what the step performs. An input stands first as soon as its tick has come; when nothing else can happen,
time moves on to the next tick at which something can. [DESIGN CHOICE, log 1; DESIGN CHOICE, log 2] -/
def State.pickNext (s : State) : Pick × State :=
  match s.inputs with
  | x :: r =>
    if x.tick ≤ s.now then (.event x.ev, { s with inputs := r, arg := x.ev.arg }) else go s
  | [] => go s
where
  go (s : State) : Pick × State :=
    let as_ := s.acts
    match as_ with
    | [] => (.quiet, match s.nextTick with
        | some t => { s with now := t - 1 }
        | none => s)
    | _ :: _ =>
      let r := s.choose
      match as_[r.1 % as_.length]? with
      | some (.due n) =>
        match s.agenda[n]? with
        | some d => (.event d.ev, { r.2 with agenda := dropNth s.agenda n, arg := d.ev.arg })
        | none => (.quiet, r.2)
      | some (.issue c) =>
        match c.got with
        | .instr i =>
          (.issue c.cid c.w i, { ((r.2.turnTaken c).fetchUse c.cid (tgetD (r.2.course c.cid).splits c.w {}).pc.toNat (lengthBytes i)) with cur := some (c.cid, c.w) })
        | .wait g => (.quiet, r.2.fetchWait c.cid c.w g)
        | .bad cause addr => (.quiet, r.2.fetchFault c.cid c.w cause addr)
      | none => (.quiet, r.2)

end Sys2Proof.Machine
end

