-- ==== Sys2Proof/Machine/Settle.lean ====
section
/-! DEFINITION. What the hardware notices after each instant without a message of its own: boundaries that complete, waits that
end, tail words that have moved, tasks that can be placed; and how a program comes to stand where the step fetches it. -/
namespace Sys2Proof.Machine

/-! ## What is noticed -/

/-- One pending wait of a course: a tag operation that can go on wakes (17 R480); WAITA holds the value that satisfied it (R482); and both
meet it when the face of their words fails (01 R32). [DEDUCED, log 66] -/
def State.wakePend (s : State) (cid : Nat) (p : Pend) : State :=
  if p.late.isSome then s
  else
    match p.act with
    | .access a =>
      match a.op, a.items with
      | .tag _, _ :: _ => if (s.nextItem cid p a).isSome || a.items.any (fun it => s.locDown cid it.loc a.size) then s.postOnce (s.now + 1) .fullEmptyWake (.course cid p.id 0 0) else s
      | .waita cond _, it :: _ =>
        (if s.locDown cid it.loc a.size && a.looked then s.postOnce (s.now + 1) .waitaRecheck (.course cid p.id 0 0)
        else if (s.course cid).turnOf p && (s.course cid).itemTurn p it a.size then
          match s.waitaNow cid a cond with
          | some v => (s.setPend cid { p with act := .access { a with items := [], got := [(0, BitVec.ofNat 64 v)] } }).postOnce (s.now + 1)
                        .waitaRecheck (.course cid p.id 0 0)
          | none => s
        else s)
      | _, _ => s
    | _ => s

/-- Every pending wait. -/
def State.wakes (s : State) : State :=
  s.courses.foldl (fun s p => if (s.group p.2.group).saved then s else p.2.pends.foldl (fun s q => s.wakePend p.1 q) s) s

/-- Copies whose last segment was killed are gone, and with them what a retired course waits for; a group that has ended frees its
leases when nothing of it goes on (08 R244); completed tasks of which nothing is under way any more are gone. -/
def State.watchEnded (s : State) : State :=
  let gone := s.copies.filter (fun p => p.2.killed.isSome && p.2.segs.all (·.done))
  let s := gone.foldl (fun s p =>
    { s with copies := tdel s.copies p.1
             courses := tmod s.courses p.2.course (fun c => { c with pends := c.pends.filter (fun q => q.act ≠ Action.copy p.1) }) }) s
  let s := (s.groups.filter (fun p => p.2.ended && !p.2.banks.isEmpty && !s.groupOut p.1)).foldl (fun s p => s.freeLeases p.1) s
  ((s.tasks.filter (fun p => p.2.st = .done)).map (·.1)).foldl (fun s t => s.dropTask t) s

/-- Courses whose splits all wait at REJOINs that cannot complete, however they came to run, are detected (08 R242). -/
def State.watchRejoins (s : State) : State :=
  s.courses.foldl (fun s p =>
    let lw := (s.task (s.taskOf p.1)).hdr.lw16
    if p.2.st = .running && (p.2.deadlocked lw 0 || (lw && p.2.deadlocked true 1)) then
      s.postOnce (s.now + 1) .rejoinDeadlockDetect (.nat p.1 0 0)
    else s) s

/-- Everything that is noticed after an instant. -/
def State.settle (s : State) : State :=
  s.settleBoundaries.watchRejoins.wakes.watchBows.watchTails.watchFaults.watchReady.watchMigr.watchActive.watchFills.watchEnded.trimSpills.settleL1

/-- After an instruction: what is noticed belongs to the next state. -/
def settled (o : Out) : Out :=
  match o with
  | .next s => .next s.settle
  | .fault f => .fault f
  | .refused r => .refused r

/-! ## Placing an instruction -/

/-- A module that has come up, with one device, one task and one course about to issue its first instruction. [DESIGN CHOICE, log 4] -/
def State.loadOne (s : State) : State :=
  let maps : List Mapping := [{ va := 0, len := 131072, page := 0, perm := 7, phys := [0, 65536] }]
  let hdr : KHdr := { magic := 0x4f564b48, regsL := 64, regsD := 64, scratch := 131072, prof := true }
  let t : Task := { st := .placed, hdr, trec := { entry := 65536 } }
  { s with plat := { s.plat with cur := .p0, since := some 0, busy := false, readyIo := 0x3f, readyFace := BitVec.allOnes 32, readyBench := BitVec.allOnes 64 }
           vds := tset s.vds 0 { asid := 1, memq := 1, used := 1, queueq := 1, qpq := 1, benches := BitVec.allOnes 64, maps }
           tasks := tset s.tasks 0 t
           groups := tset s.groups 0 { banks := [0], win := 131072, dcore := true }
           courses := tset s.courses 0 { startCourse t 0 0 with st := .running }
           cells := tset s.cells 0 { s.cell 0 with banks := tset (s.cell 0).banks 0 { mode := .spad, owner := some 0 } }
           nextKey := s.nextKey + 1 }

/-- Nothing else happens in the next step. -/
def State.undisturbed (s : State) : State := { s with inputs := [], agenda := [], sched := [] }

/-- Put bytes where a course fetches from an address, and the ATLB's entries of their granules with them. -/
def State.placeCode (s : State) (cid a : Nat) (l : List Byte) : State :=
  match (s.vd (s.vdOf cid)).phys (s.variantAddr cid a) with
  | some pa => [a, a + 16].foldl (fun s a => s.atlbFill (s.coreOf cid) (s.vdOf cid) (s.variantAddr cid a / 65536))
      { s with dram := Memory.writeL s.dram pa l }
  | none => s

/-- The bytes of an instruction whose bits are w, to the length of the longest one. -/
def tableBytes (nbits w : Nat) : List Byte := leBytes 20 (w % 2 ^ nbits)

/-- The instruction stands at the PC of the split that issues next; a module that has none is given one. [DESIGN CHOICE, log 4] -/
def State.placeWord (s : State) (nbits w : Nat) : State :=
  let u := s.undisturbed
  match u.tickOne.cands with
  | c :: _ => u.placeCode c.cid (tgetD (u.course c.cid).splits c.w {}).pc.toNat (tableBytes nbits w)
  | [] => u.loadOne.placeCode 0 65536 (tableBytes nbits w)

end Sys2Proof.Machine
end

