-- ==== Sys2Proof/Machine/Step.lean ====
section
/-! DEFINITION. One step of the module: time moves on, and an input, an event that is due, or the next instruction of a
split is performed; then what the hardware notices is noticed. -/
namespace Sys2Proof.Machine

/-- Run the meaning of what was picked. -/
def stepPick (p : Pick) (s : State) : Host.Outcome State Fault Refusal :=
  match p with
  | .quiet => settled (.next s)
  | .event ev => settled (exec ev.i s)
  | .issue _ _ i => settled (exec i s)

/-- One step. -/
def step (s : State) : Host.Outcome State Fault Refusal :=
  stepPick s.tickOne.pickNext.1 s.tickOne.pickNext.2

/-- The state with an instruction placed where the step fetches its next one. [DESIGN CHOICE, log 4] -/
def State.withFetchWord (s : State) (nbits w : Nat) : State := s.placeWord nbits w

end Sys2Proof.Machine
end

