-- ==== Sys2Proof/WellFormed.lean ====
section
/-! DEFINITION. Well-formed instructions: encodings that raise neither ILLEGAL_ENCODING nor a RESERVED_ENCODING case that
their own words decide (13 R389). -/
namespace Sys2Proof

/-- An instruction of the instruction set whose words are no reserved encoding (R388, R389). -/
def WellFormed (i : Instr) : Bool := (opcodeOf i).isSome && !reserved i

end Sys2Proof
end

