-- ==== Sys2Proof/Safety.lean ====
section
/-! DEFINITION. What claims say of a state: the forms that stored data keep, when an instruction issues, and the exact
values of the manual's formulas, written apart from the functions the machine computes them with. -/
namespace Sys2Proof.Machine

/-! ## Forms of the state -/

/-- Both memories are in canonical form: addresses strictly rising, no byte listed that reads as an unlisted one. -/
def State.memWf (s : State) : Bool := Memory.wf s.dram && Memory.wf s.sram

/-- Some owner has provisioned the module (03 R77, R78). -/
def State.isProvisioned (s : State) : Prop := s.sec.st ≠ .unprovisioned

/-! ## When an instruction issues -/

/-- The context in which an instruction issues: `cur` names a split of a course, a slot of its budget is left (05 R155), and
none of the checks of 13 R389 that come before the instruction's own finds anything. -/
def State.issuer (s : State) (i : Instr) : Option Ctx :=
  match s.cur with
  | none => none
  | some (cid, w) =>
    match tget s.courses cid with
    | none => none
    | some c =>
      match tget c.splits w with
      | none => none
      | some sp =>
        let k := s.ctx i cid w c sp
        if (s.spend k.g.task k.g.bench).isSome && !isUdf i && !(k.lw && tileMajor i) && !reserved i && !k.sched.bad
            && !(c.prof && profileOperand i) && !(isWide i && k.k0 ≠ c.live) then some k else none

/-- `cur` names a split of a course, in this context. -/
def State.atSplit (s : State) (i : Instr) : Option Ctx :=
  match s.cur with
  | none => none
  | some (cid, w) =>
    match tget s.courses cid with
    | none => none
    | some c => (tget c.splits w).map (fun sp => s.ctx i cid w c sp)

/-- A pending instruction of a course, its number aside, issued by a split in a context, under the trap mask of then (12 R353). -/
def Ctx.isPending (k : Ctx) (t : State) (act : Action) (ws : List RegWrite) : Prop :=
  ∃ p ∈ (t.course k.cid).pends, p.act = act ∧ p.writes = ws ∧ p.pc = k.pc ∧ p.split = k.w ∧ p.flag = k.sched.flag ∧ p.late = none
    ∧ p.trapmask = k.c.trapmask

/-- Every lane address is below 2^57 and a multiple of the element size, and its granule stands in the core's attribute TLB
with the permissions needed: no lane meets a cause at issue (09 R261, 17 R470). -/
def Ctx.reaches (k : Ctx) (need size : Nat) (as_ : List (Nat × Nat)) : Bool :=
  as_.all (fun p => p.2 < 2 ^ 57 && p.2 % size = 0 && (match k.s.atlbEntry (k.s.coreOf k.cid) k.vdn p.2 with
    | some e => e.mapped && (need &&& e.perm.toNat) = need
    | none => false))

/-- Every lane address lies in a window the course may reach, in a bank that can serve it, and is aligned (17 R470). -/
def Ctx.inWindows (k : Ctx) (fifo : Bool) (size : Nat) (as_ : List (Nat × Nat)) : Bool :=
  as_.all (fun p => (k.spadCause fifo size p.2).isNone)

/-- Two courses hold the same values in every register. -/
def Course.sameRegisters (a b : Course) : Prop := a.v = b.v ∧ a.b = b.b ∧ a.s = b.s ∧ a.k = b.k ∧ a.trapmask = b.trapmask

/-- Two courses hold the same register values, buffered stores and view. -/
def Course.sameValues (a b : Course) : Prop := a.sameRegisters b ∧ a.buf = b.buf ∧ a.stale = b.stale ∧ a.staleI = b.staleI

/-! ## When a command or a request is heard -/

/-- A command message of a working command channel arrives: its device is n, 0 on the module's own channel (04 R95 to R98). -/
def State.hears (s : State) (c : Cmd) (n : Nat) : Prop :=
  s.arg = .cmd c ∧ s.hostReady = true ∧ s.plat.cur ≠ .retention ∧ isCmdQp c.qpn = true
    ∧ ∃ q, tget s.host.qps c.qpn = some q ∧ q.err = false ∧ q.vd.getD 0 = n

/-- A command message of version 3 with an opcode and parameters of a length, on the module's channel (`own`) or a device's. -/
def cmdHas (c : Cmd) (opc len : Nat) (own : Bool) : Prop :=
  c.ver = 3 ∧ c.opc.toNat = opc ∧ (c.qpn = 0x100 ↔ own = true) ∧ c.sendLen = 16 + c.len ∧ c.len = len

/-- A device takes the commands of its own channel: it is neither being destroyed nor waiting for MIG_RESUME (04 R104, R126). -/
def State.serves (s : State) (n : Nat) : Prop :=
  (s.vd n).destroying = false ∧ (s.vd n).awaits = false

/-- From s to t one more message has been sent, or waits for its paused priority (02 R36). -/
def State.says (s t : State) (m : HostMsg) : Prop := t.out = (s.send m).out ∧ t.host.held = (s.send m).host.held

/-- No command that holds a device to itself waits on it (04 R101). -/
def State.unheld (s : State) (n : Nat) : Prop := s.vdWaits n = false ∧ (s.vd n).destroying = false

/-! ## Exact values (12 R338 to R341, 15 R423) -/

/-- The integer that a pattern of an integer type stands for. -/
def intOf (t p : Nat) : Int :=
  if signedType t then (BitVec.ofNat (typeWidth t) p).toInt else ((BitVec.ofNat (typeWidth t) p).toNat : Int)

/-- An exact result in the width of its type: wrapped, or with SAT the nearest value that the type has. -/
def patternOf (sat : Bool) (t : Nat) (v : Int) : Nat :=
  let w := typeWidth t
  let lo : Int := if signedType t then -((2 ^ (w - 1) : Nat) : Int) else 0
  let hi : Int := if signedType t then ((2 ^ (w - 1) : Nat) : Int) - 1 else ((2 ^ w : Nat) : Int) - 1
  (BitVec.ofInt w (if sat && v < lo then lo else if sat && hi < v then hi else v)).toNat

/-- A w-bit pattern in a scalar register: sign-extended for a signed type, zero-extended for another. -/
def extended (t p : Nat) : Word := BitVec.ofInt 64 (intOf t p)

/-- COND of a comparison of integers (15 R422). -/
def holds (cond : Nat) (a b : Int) : Bool :=
  (cond = 0 && a = b) || (cond = 1 && a ≠ b) || (cond = 2 && a < b) || (cond = 3 && a ≤ b) || (cond = 4 && a > b) || (cond = 5 && a ≥ b)

/-- The low w bits of a source pattern. -/
def lowBits (t p : Nat) : BitVec (typeWidth t) := BitVec.ofNat (typeWidth t) p

/-- Each active lane with an elementwise result: from the element type and the patterns of SA, SB and SC; under PAIR the two
16-bit elements of a register are computed apart, the low one below (12 R340, 16 R444). -/
def Ctx.elementwise (k : Ctx) (f : Nat → Nat → Nat → Nat → Nat) : List (Nat × Nat) :=
  let t := k.x.type.toNat
  k.lanes.map (fun l => (l,
    if t = 13 then
      let lo := fun (r : BitVec 8) => (k.srcV r l).toNat % 65536
      let hi := fun (r : BitVec 8) => (k.srcV r l).toNat / 65536
      f k.pairType (lo k.x.sa) (lo k.x.sb) (lo k.x.sc) + 65536 * f k.pairType (hi k.x.sa) (hi k.x.sb) (hi k.x.sc)
    else f t (k.srcT t k.x.sa l) (k.srcT t k.x.sb l) (k.srcT t k.x.sc l)))

/-- The outcome of an instruction whose lanes have these results: they land as `ws` writes them; lanes that raised a trapped
event land nothing, and the instruction carries the fault ARITH with the event of the lowest of them and all of them in
MASK (12 R345, R353). -/
def Ctx.delivers (k : Ctx) (rs : List LaneRes) (ws : List LaneRes → List RegWrite) (o : Out) : Prop :=
  let trapped := fun (r : LaneRes) => eventOrder.any (fun e => k.c.trapmask.getLsbD e && r.evs.contains e)
  let bad := rs.filter trapped
  (bad = [] → o = .next (k.issue (ws rs)))
  ∧ ∀ r, bad.head? = some r → ∃ e, eventOrder.find? (fun e => k.c.trapmask.getLsbD e && r.evs.contains e) = some e
    ∧ o = .next (k.issueAt k.next (ws (rs.filter (fun r => !trapped r))) .none
        (late := some { cause := 4, event := e, mask := maskOf (bad.map (·.lane)) })).1

/-- Node number i of a level of the tree of 12 R362: a leaf at level 0, elsewhere its two children combined, or the only one
that holds a value; with the events met on the way. -/
def treeNode (op : Nat → Nat → FRes) (leaf : Nat → Option Nat) : Nat → Nat → Option TVal
  | 0, i => (leaf i).map (fun x => { x := x })
  | n + 1, i =>
    match treeNode op leaf n (2 * i), treeNode op leaf n (2 * i + 1) with
    | some a, some b => let r := op a.x b.x; some { x := r.x, evs := a.evs ++ b.evs ++ [r.ev] }
    | some a, none => some a
    | none, b => b

/-- The reduction of SA over lanes that hold a value, each element position of a PAIR in its own tree (12 R362, R363). -/
def Ctx.reduced (k : Ctx) (held : Nat → Bool) : TVal :=
  let op := (k.x.ext.extractLsb' 4 3).toNat
  let t := k.x.type.toNat
  let root := fun (t : Nat) (value : Nat → Nat) =>
    match treeNode (redOp k.fenv op t k.x.rm.toNat (k.x.sat ≠ 0)) (fun l => if held l then some (value l) else none)
        (if k.lw then 4 else 5) k.half with
    | some v => v
    | none => { x := (redIdentity op t k.pc).x, evs := [(redIdentity op t k.pc).ev] }
  if t = 13 then
    let low := root k.pairType (fun l => (k.srcV k.x.sa l).toNat % 65536)
    let high := root k.pairType (fun l => (k.srcV k.x.sa l).toNat / 65536)
    { x := low.x + 65536 * high.x, evs := low.evs ++ high.evs }
  else root t (fun l => k.srcT t k.x.sa l)

/-! ## Exact values of floats (12 R342 to R345) -/

/-- The magnitude of a pattern without its sign; that of +∞ counts as the power of two it stands above (12 R342). -/
def magnitudeAt (t x : Nat) : Rat :=
  let f := fracBits t
  let bias : Int := 2 ^ (expBits t - 1) - 1
  if x < 2 ^ f then (x : Rat) * 2 ^ (1 - bias - f)
  else (2 ^ f + x % 2 ^ f : Nat) * 2 ^ (((x / 2 ^ f : Nat) : Int) - bias - f)

/-- The width of a float type's patterns is that of its fields, and the pattern is finite. -/
def isFinite (t x : Nat) : Bool := floatType t && x < 2 * signBit t && x % signBit t < infBits t

/-- The value of a finite pattern. -/
def valueAt (t x : Nat) : Rat := if signBit t ≤ x then -(magnitudeAt t (x % signBit t)) else magnitudeAt t (x % signBit t)

/-- x is the pattern to which the nonzero value v rounds under RM, and ev the event (12 R344 to R346): the neighbours of x's
magnitude are no better, and ties go to an even pattern. -/
def roundsTo (t rm : Nat) (v : Rat) (x ev : Nat) : Prop :=
  let m := if v < 0 then -v else v
  let X := x % signBit t
  let away := (rm = 2 ∧ v < 0) ∨ (rm = 3 ∧ 0 < v)
  let below := magnitudeAt t X ≤ m ∧ X < infBits t ∧ (m < magnitudeAt t (X + 1) ∨ X + 1 = infBits t)
  let above := X ≤ infBits t ∧ (m ≤ magnitudeAt t X ∨ X = infBits t) ∧ (0 < X → magnitudeAt t (X - 1) < m)
  let nearest := X ≤ infBits t
    ∧ (X = infBits t ∨ m + m < magnitudeAt t X + magnitudeAt t (X + 1) ∨ (m + m = magnitudeAt t X + magnitudeAt t (X + 1) ∧ X % 2 = 0))
    ∧ (0 < X → magnitudeAt t (X - 1) + magnitudeAt t X < m + m ∨ (magnitudeAt t (X - 1) + magnitudeAt t X = m + m ∧ X % 2 = 0))
  x < 2 * signBit t ∧ (signBit t ≤ x ↔ v < 0)
    ∧ (if rm = 0 then nearest else if away then above else below)
    ∧ ev = (if X = infBits t ∨ magnitudeAt t (infBits t) ≤ m then 3 else if X < 2 ^ fracBits t ∧ magnitudeAt t X ≠ m then 4 else 0)

/-- A context whose instruction is read as the fields of an X form: what an S form stands for (16 R444). -/
def Ctx.reads (k : Ctx) (x : XFields) : Ctx := { k with x := x }

end Sys2Proof.Machine
end

