-- ==== Sys2Proof/Certificates/Slice0/Obligations.lean ====
section
/-! DEFINITION. The statements about this model, each a proposition; none is proved here. An obligation that speaks of several families
is the conjunction of its parts, each under a name Claims.<Part>. -/

open Sys2Proof Sys2Proof.Machine

/-- 13 R379, R408 to R413: decoding what a well-formed instruction encodes to gives the instruction. -/
def Obligations.DecodeOfEncode : Prop := ∀ i : Instr, WellFormed i = true → decode (encode i) = .ok i

/-- 13 R379, R408 to R413: words written out bit by bit from the encodings of 13, 15, 16, 17 and 18 decode to the instructions they stand
for, and words with a reserved field are refused. -/
def Obligations.DecodeWords : Prop :=
  decodeTableWord 96 0x00010109a3fa05040340cf61 = some (.ffma { sch := 0xf, vd := 12, rm := 1, sa := 4, sb := 5, sc := 250, km := 3, type := 0xa, dist := 1, wait := 0x021, setf := 2 })
  ∧ decodeTableWord 32 0x00907340 = some (.vaddS { sch := 3, vd := 7, vs := 9 })
  ∧ decodeTableWord 32 0x50907340 = some (.vnotS { sch := 3, vd := 7, vs := 9 })
  ∧ decodeTableWord 96 0x123456789abcdef000005012 = some (.smovlSl { sd := 5 } 0x123456789abcdef0)
  ∧ decodeTableWord 96 0x00008000a200000800004f8d = some (.vred { sch := 0xf, vd := 4, sa := 8, km := 2, type := 0xa, setf := 1 })
  ∧ decodeTableWord 96 0x00088000a00000fa00008fa1 = some (.vldX { sch := 0xf, vd := 8, sa := 250, type := 0xa, setf := 1, ext := 1 })
  ∧ decodeTableWord 96 0x007880000000020001003fd5 = some (.pkwr { sch := 0xf, vd := 3, sb := 2, setf := 1, ext := 15 })
  ∧ decodeTableWord 32 0x00000000 = some (.nopS 0 0)
  ∧ decodeTableWord 32 0x000000fc = some (.udf 0 0 0)
  ∧ decodeTableWord 32 0x60907340 = none
  ∧ decodeTableWord 32 0x20907344 = none
  ∧ decodeTableWord 32 0x00907354 = none

/-- 08 R228 to R232, 13 R389, 09 R261: a step with nothing due, and one split that can issue, runs what that split's fetch gives at its PC
(the fetch counts as a use of its ATLB entries, and its issue position has had its turn); the settling of what follows is the only other
effect. Where the fetch waits for an entry, the step only asks for it. -/
def Obligations.StepRunsDecoded : Prop :=
  ∀ (s : State) (c : Cand) (i : Instr) (g : Nat), s.inputs = [] → tsorted 0 s.courses = true → (∀ p ∈ s.courses, tsorted 0 p.2.splits = true) →
    s.tickOne.acts = [.issue c] →
    let pc := (tgetD (s.tickOne.course c.cid).splits c.w {}).pc.toNat
    c.got = s.tickOne.fetchAt c.cid pc
    ∧ (c.got = .instr i →
        step s = match exec i { ((s.tickOne.turnTaken c).fetchUse c.cid pc (lengthBytes i)) with cur := some (c.cid, c.w), sched := s.sched.tail } with
          | .next u => .next u.settle
          | .fault f => .fault f
          | .refused r => .refused r)
    ∧ (c.got = .wait g → step s = .next (({ s.tickOne with sched := s.sched.tail } : State).fetchWait c.cid c.w g).settle)

/-- Chapter 95: an input whose tick has come, and an event that is due when nothing else can happen, is performed as its meaning says. -/
def Obligations.StepRunsEvents : Prop :=
  ∀ (s : State) (x : Input) (r : List Input) (d : Due), let t := s.tickOne
    (s.inputs = x :: r → x.tick ≤ s.now + 1 → step s = match exec x.ev.i { t with inputs := r, arg := x.ev.arg } with
        | .next u => .next u.settle
        | .fault f => .fault f
        | .refused q => .refused q)
    ∧ (s.inputs = [] → s.agenda = [d] → d.tick ≤ s.now + 1 → t.acts = [.due 0] →
        step s = match exec d.ev.i { t with agenda := [], arg := d.ev.arg, sched := s.sched.tail } with
          | .next u => .next u.settle
          | .fault f => .fault f
          | .refused q => .refused q)

/-- 13 R390, R400, 14 R403, 09 R261: a course fetches the words of its bench's route variant in little-endian order, each below 2^57 and
checked against the ATLB's entry of its granule, which must allow execution; an absent entry makes the fetch wait, and a word with
uncorrectable data is not delivered (12 R352). Word 0 says how many words there are; what they decode to is the instruction, and what
they do not is ILLEGAL_ENCODING. -/
def Obligations.FetchReadsCode : Prop :=
  ∀ (s : State) (cid a n : Nat) (words : List Half), (s.course cid).staleI = [] → (s.course cid).loop = 0 → words.length = n + 1 →
    let v := s.vd (s.vdOf cid)
    let va := s.variantAddr cid a
    let entry := fun (a : Nat) => s.atlbEntry (s.coreOf cid) (s.vdOf cid) (s.variantAddr cid a)
    (2 ^ 57 ≤ va → s.fetchAt cid a = .bad 2 (BitVec.ofNat 64 va))
    ∧ (va < 2 ^ 57 → entry a = none → s.fetchAt cid a = .wait (va / 65536))
    ∧ (∀ e, va < 2 ^ 57 → entry a = some e → e.mapped = true → e.perm.getLsbD 2 = false → s.fetchAt cid a = .bad 2 (BitVec.ofNat 64 va))
    ∧ (∀ e, va < 2 ^ 57 → entry a = some e → e.mapped = false → v.phys va = none → s.fetchAt cid a = .bad 1 (BitVec.ofNat 64 va))
    ∧ (∀ e, va < 2 ^ 57 → entry a = some e → (e.mapped = true → e.perm.getLsbD 2 = true) → (v.phys va).isSome = true →
      s.poisoned (s.vdOf cid) va 4 = true → s.fetchAt cid a = .bad 3 (BitVec.ofNat 64 va))
    ∧ ((∀ i ≤ n, s.variantAddr cid (a + 4 * i) < 2 ^ 57
      ∧ (∃ e, entry (a + 4 * i) = some e ∧ e.mapped = true ∧ e.perm.getLsbD 2 = true)
      ∧ s.poisoned (s.vdOf cid) (s.variantAddr cid (a + 4 * i)) 4 = false
      ∧ ∃ pa, v.phys (s.variantAddr cid (a + 4 * i)) = some pa
        ∧ words[i]? = some (Memory.read s.dram (pa + 3) ++ Memory.read s.dram (pa + 2) ++ Memory.read s.dram (pa + 1) ++ Memory.read s.dram pa)) →
    ((checkWord0 (words.headD 0) = .ok (n + 1) → s.fetchAt cid a = match decode words with
        | .ok i => .instr i
        | .error _ => .bad 7 0)
    ∧ ((∀ m, checkWord0 (words.headD 0) ≠ .ok m) → s.fetchAt cid a = .bad 7 0)))

/-- 13 R389: whatever the instruction or event, a step from a state in which its issuing split exists answers a next state: nothing the
manual describes stops the machine. -/
def Obligations.ExecAnswers : Prop :=
  ∀ (s : State) (i : Instr), ((opcodeOf i).isSome = true → (s.atSplit i).isSome = true) → ∃ t, exec i s = .next t

/-- The module's two memories stay in canonical form, whatever a step does: addresses strictly rise and no byte is listed that reads as an
unlisted one (that unlisted bytes read zero is the model's choice, assumption log). -/
def Obligations.StepKeepsMemoryCanonical : Prop :=
  ∀ s t : State, s.memWf = true → step s = .next t → t.memWf = true

/-- 09 R272, 06 R181: after every step a course's list of spilt sectors names only sectors of which its buffer still holds a byte, and no
killed copy stays once its last segment has ended. -/
def Obligations.StepSettlesSpillsAndCopies : Prop :=
  ∀ s t : State, step s = .next t →
    (∀ p ∈ t.courses, ∀ e ∈ p.2.spilt, ∃ b ∈ p.2.buf, ∃ va, b.loc = .glob va ∧ va / 64 = e.1)
    ∧ (∀ p ∈ t.copies, p.2.killed.isSome = true → ∃ g ∈ p.2.segs, g.done = false)

/-- 01 R19, 03 R77, 00 R5: what the module holds after reset: it is off, nothing is ready, no owner has provisioned it, and it has no work.
That unwritten memory reads zero is the model's choice (assumption log). -/
def Obligations.AfterReset : Prop :=
  let r := State.reset
  r.now = 0 ∧ r.plat.cur = .off ∧ r.plat.since = none ∧ r.plat.readyIo = 0 ∧ r.plat.readyFace = 0 ∧ r.plat.readyBench = 0
  ∧ r.sec.st = .unprovisioned ∧ r.agenda = [] ∧ r.inputs = [] ∧ r.courses = [] ∧ r.groups = [] ∧ r.tasks = [] ∧ r.vds = [] ∧ r.queues = []
  ∧ r.recs = [] ∧ r.copies = [] ∧ r.memWf = true ∧ (∀ n, Memory.read r.dram n = 0 ∧ Memory.read r.sram n = 0)

/-- 08 R228 to R234, 05 R155: what the issue of an instruction changes, whatever it computes: the budget of its task, the course's split,
and at most one pending instruction, which holds its register writes; every other register, all of memory and every other course stay as
they are. -/
def Obligations.IssueFrame : Prop :=
  ∀ (s : State) (i : Instr) (k : Ctx) (pc : Word) (ws : List RegWrite) (act : Action) (own : Bool),
    s.issuer i = some k → k.sp.redo = none →
    ∃ tasks due ps, (k.issueAt pc ws act own).1 = { s with
        tasks, agenda := s.agenda ++ due, nextKey := s.nextKey + 1
        courses := tset s.courses k.cid { k.c with
          splits := tset k.c.splits k.w { k.sp with pc, last := s.now, tried := s.now, yield := 0, excess := k.overNext k.c }
          pends := k.c.pends ++ ps, loop := k.c.loop - 1 } }
      ∧ (tasks = s.tasks ∨ ∃ budget chunks, tasks = tset s.tasks k.g.task { s.task k.g.task with budget, chunks })
      ∧ ps.length ≤ 1 ∧ (ws ≠ [] → ps ≠ [])
      ∧ ∀ p ∈ ps, p.pc = k.pc ∧ p.split = k.w ∧ p.flag = k.sched.flag ∧ p.writes = ws ∧ p.act = act

/-- 08 R234 to R236, 15 R429: a register write lands in the one register it names, and lanes outside its care bits keep a mask register;
every other field of the course stays. -/
def Claims.LandingFrame : Prop :=
  ∀ (c : Course) (w : RegWrite),
    tsorted 0 c.v = true → tsorted 0 c.b = true → tsorted 0 c.s = true → tsorted 0 c.k = true →
    let u := c.land w
    u = { c with v := u.v, b := u.b, s := u.s, k := u.k, trapmask := u.trapmask }
    ∧ tsorted 0 u.v = true ∧ tsorted 0 u.b = true ∧ tsorted 0 u.s = true ∧ tsorted 0 u.k = true
    ∧ (∀ n, tgetD u.v n 0 = match w with
        | .v r l x => if n = r * 32 + l then x else tgetD c.v n 0
        | _ => tgetD c.v n 0)
    ∧ (∀ n, tgetD u.b n 0 = match w with
        | .b r l x => if n = r * 32 + l ∧ r < 4 then x else tgetD c.b n 0
        | _ => tgetD c.b n 0)
    ∧ (∀ n, tgetD u.s n 0 = match w with
        | .s r x => if n = r then x else tgetD c.s n 0
        | _ => tgetD c.s n 0)
    ∧ (∀ n i, (tgetD u.k n 0).getLsbD i = match w with
        | .k r care x => if n = r ∧ care.getLsbD i = true then x.getLsbD i else (tgetD c.k n 0).getLsbD i
        | _ => (tgetD c.k n 0).getLsbD i)
    ∧ u.trapmask = match w with
        | .trap x => x &&& 0x01fe
        | _ => c.trapmask

/-- 08 R233, R234, 06 R161: the results of a running course land at the tick they are due and no earlier. -/
def Claims.LandingTime : Prop :=
  ∀ (s : State) (cid : Nat) (c : Course), (cid, c) ∈ s.courses → c.st.lands = true →
    ∃ u, (cid, u) ∈ s.tickOne.courses
      ∧ ((∀ p ∈ c.pends, ∀ t, p.due = some t → s.now + 1 < t) → u = c)
      ∧ (∀ p t, c.pends = [p] → p.due = some t → t ≤ s.now + 1 → p.late = none → u = { c.landAll p.writes with pends := [] })
      ∧ (∀ p q tp tq, c.pends = [p, q] → p.due = some tp → q.due = some tq → tp ≤ s.now + 1 → tq ≤ s.now + 1 → p.late = none → q.late = none →
          u = { c.landAll (if tp ≤ tq then p.writes ++ q.writes else q.writes ++ p.writes) with pends := [] })

/-- Where a register write lands and when, and that everything else stays: LandingFrame, LandingTime. -/
def Obligations.LandingFrame : Prop :=
  Claims.LandingFrame ∧ Claims.LandingTime

/-- 13 R389, 05 R155: the checks that come before an instruction's own, in their order: each parks the course, unless a lower split's late
fault of the same cycle goes before it (06 R162), and the instruction has no other effect. -/
def Claims.IssueChecks : Prop :=
  ∀ (s : State) (i : Instr) (k : Ctx), (opcodeOf i).isSome = true → s.atSplit i = some k →
    let park := fun (cause : Nat) (mask : LaneMask) => (.next (if k.c.lateBelow s.now k.w
      then s.setSplit k.cid k.w { k.sp with tried := s.now } else s.parkCourse k.cid k.w cause 0 0 0 mask k.pc k.pc none) : Out)
    let illegal := isUdf i || (k.lw && tileMajor i)
    let bad := reserved i || k.sched.bad
    ((s.spend k.g.task k.g.bench).isNone = true → exec i s = park 0x0d k.k0)
    ∧ ((s.spend k.g.task k.g.bench).isSome = true →
        (illegal = true → exec i s = park 7 k.active)
        ∧ (illegal = false → bad = true → exec i s = park 8 k.active)
        ∧ (illegal = false → bad = false → (k.c.prof && profileOperand i) = true → exec i s = park 9 k.active)
        ∧ (illegal = false → bad = false → (k.c.prof && profileOperand i) = false → isWide i = true → k.k0 ≠ k.c.live →
            exec i s = park 0x0a k.active))

/-- 15 R433: a branch that is taken to an address that is no multiple of 4, or that is 2^57 or above, parks the course with the target,
unless a lower split's late fault of the same cycle goes before it (06 R162). -/
def Claims.BranchTargetFaults : Prop :=
  ∀ (s : State) (k : Ctx) (x : XFields) (y : SBranch) (lit : Word),
    let near := k.pc + 4 * y.off.signExtend 64
    let park := fun (cause : Nat) (a : Word) => (.next (if k.c.lateBelow s.now k.w
      then s.setSplit k.cid k.w { k.sp with tried := s.now } else s.parkCourse k.cid k.w cause 0 a 0 k.k0 k.pc k.pc none) : Out)
    let parks := fun (i : Instr) (a : Word) => s.issuer i = some k →
      (a.toNat % 4 ≠ 0 → exec i s = park 0x0e a) ∧ (a.toNat % 4 = 0 → 2 ^ 57 ≤ a.toNat → exec i s = park 0x02 a)
    parks (.braS y) near ∧ parks (.callS y) near ∧ parks (.braXl x lit) (k.pc + lit) ∧ parks (.callXl x lit) (k.pc + lit)
    ∧ parks (.jmpi x) (k.srcS x.sa) ∧ parks (.ret x) (k.srcS x.sa)
    ∧ ((k.kreg y.k.toNat &&& k.k0 ≠ 0) ≠ (y.neg ≠ 0) → parks (.brcS y) near)
    ∧ ((k.kreg x.sa.toNat &&& k.k0 ≠ 0) ≠ (x.ext.getLsbD 0 = true) → parks (.brcXl x lit) (k.pc + lit))

/-- The checks that come before an instruction's own, and branches to bad targets, park the course: IssueChecks, BranchTargetFaults. -/
def Obligations.IssueFaults : Prop :=
  Claims.IssueChecks ∧ Claims.BranchTargetFaults

/-- 15 R423: SADD, SSUB, SMUL, SMULH, SMIN, SMAX: exact integers of TYPE, wrapped or clamped, extended to 64 bits. -/
def Claims.ScalarArithmetic : Prop :=
  ∀ (s : State) (k : Ctx) (x : XFields) (y : SScalar) (lit : Word),
    let t := x.type.toNat
    let a := intOf t (k.srcS x.sa).toNat
    let b := intOf t (k.srcS x.sb).toNat
    let gives := fun (v : Int) => (.next (k.issue [.s (k.skey x.vd.toNat) (extended t (patternOf (x.sat ≠ 0) t v))]) : Out)
    let ss := k.srcS (y.ss.setWidth 8)
    (s.issuer (.saddX x) = some k → exec (.saddX x) s = gives (a + b))
    ∧ (s.issuer (.ssub x) = some k → exec (.ssub x) s = gives (a - b))
    ∧ (s.issuer (.smul x) = some k → exec (.smul x) s = gives (a * b))
    ∧ (s.issuer (.smulh x) = some k → exec (.smulh x) s = gives (a * b / 2 ^ typeWidth t))
    ∧ (s.issuer (.smin x) = some k → exec (.smin x) s = gives (min a b))
    ∧ (s.issuer (.smax x) = some k → exec (.smax x) s = gives (max a b))
    ∧ (s.issuer (.saddS y) = some k → exec (.saddS y) s = .next (k.issue [.s (k.skey y.sd.toNat) (ss + y.imm.signExtend 64)]))
    ∧ (s.issuer (.saddSl y lit) = some k → exec (.saddSl y lit) s = .next (k.issue [.s (k.skey y.sd.toNat) (ss + lit)]))

/-- 15 R423: SAND, SOR, SXOR, the shifts, SCLZ, SPOPC on the w-bit patterns; the count is the whole unsigned source. -/
def Claims.ScalarBits : Prop :=
  ∀ (s : State) (k : Ctx) (x : XFields) (y : SScalar),
    let t := x.type.toNat
    let a := lowBits t (k.srcS x.sa).toNat
    let b := lowBits t (k.srcS x.sb).toNat
    let n := (k.srcS x.sb).toNat
    let gives := fun (v : BitVec (typeWidth t)) => (.next (k.issue [.s (k.skey x.vd.toNat) (extended t v.toNat)]) : Out)
    let ss := k.srcS (y.ss.setWidth 8)
    (s.issuer (.sand x) = some k → exec (.sand x) s = gives (a &&& b))
    ∧ (s.issuer (.sor x) = some k → exec (.sor x) s = gives (a ||| b))
    ∧ (s.issuer (.sxor x) = some k → exec (.sxor x) s = gives (a ^^^ b))
    ∧ (s.issuer (.sshlX x) = some k → exec (.sshlX x) s = gives (a <<< n))
    ∧ (s.issuer (.sshrX x) = some k → exec (.sshrX x) s = gives (a >>> n))
    ∧ (s.issuer (.ssar x) = some k → exec (.ssar x) s = gives (a.sshiftRight n))
    ∧ (s.issuer (.sclz x) = some k → exec (.sclz x) s = gives (a.clz))
    ∧ (s.issuer (.spopc x) = some k → exec (.spopc x) s = gives (BitVec.ofNat _ ((List.range (typeWidth t)).countP (fun i => a.getLsbD i))))
    ∧ (s.issuer (.sshlS y) = some k → exec (.sshlS y) s = .next (k.issue [.s (k.skey y.sd.toNat) (ss <<< y.imm.toNat)]))
    ∧ (s.issuer (.sshrS y) = some k → exec (.sshrS y) s = .next (k.issue [.s (k.skey y.sd.toNat) (ss >>> y.imm.toNat)]))

/-- 15 R422, R423, R425: SCMP, SSEL and the scalar moves. -/
def Claims.ScalarMoves : Prop :=
  ∀ (s : State) (k : Ctx) (x : XFields) (y : SScalar) (lit : Word),
    let t := x.type.toNat
    let w := typeWidth t
    let a := intOf t (k.srcS x.sa).toNat
    let b := intOf t (k.srcS x.sb).toNat
    let vd := k.skey x.vd.toNat
    (s.issuer (.scmp x) = some k → exec (.scmp x) s =
      .next (k.issue [.s vd (extended t (if holds (x.ext.extractLsb' 0 4).toNat a b then 2 ^ w - 1 else 0))]))
    ∧ (s.issuer (.ssel x) = some k → exec (.ssel x) s =
      .next (k.issue [.s vd (extended t ((if lowBits t (k.srcS x.sc).toNat ≠ 0 then k.srcS x.sa else k.srcS x.sb).toNat))]))
    ∧ (s.issuer (.smovX x) = some k → exec (.smovX x) s = .next (k.issue [.s vd (k.srcS x.sa)]))
    ∧ (s.issuer (.smovlXl x lit) = some k → exec (.smovlXl x lit) s = .next (k.issue [.s vd lit]))
    ∧ (s.issuer (.smovS y) = some k → exec (.smovS y) s = .next (k.issue [.s (k.skey y.sd.toNat) (k.srcS (y.ss.setWidth 8))]))
    ∧ (s.issuer (.smovlSl y lit) = some k → exec (.smovlSl y lit) s = .next (k.issue [.s (k.skey y.sd.toNat) lit]))

/-- Scalar arithmetic, bit operations and moves: ScalarArithmetic, ScalarBits, ScalarMoves. -/
def Obligations.ScalarInstructions : Prop :=
  Claims.ScalarArithmetic ∧ Claims.ScalarBits ∧ Claims.ScalarMoves

/-- 15 R422: SCMP compares under COND in the signedness of TYPE and writes all ones or zero; a COND above 5 is reserved. -/
def Obligations.ScalarCompare : Prop :=
  ∀ (s : State) (k : Ctx) (x : XFields),
    let t := x.type.toNat
    let a := intOf t (k.srcS x.sa).toNat
    let b := intOf t (k.srcS x.sb).toNat
    let gives := fun (r : Bool) => exec (.scmp x) s = .next (k.issue [.s (k.skey x.vd.toNat) (extended t (if r then 2 ^ typeWidth t - 1 else 0))])
    let cond := (x.ext.extractLsb' 0 4).toNat
    (s.issuer (.scmp x) = some k →
      (cond = 0 → gives (decide (a = b))) ∧ (cond = 1 → gives (decide (a ≠ b))) ∧ (cond = 2 → gives (decide (a < b)))
      ∧ (cond = 3 → gives (decide (a ≤ b))) ∧ (cond = 4 → gives (decide (a > b))) ∧ (cond = 5 → gives (decide (a ≥ b))))
    ∧ (6 ≤ cond → reserved (.scmp x) = true)

/-- 15 R426 to R428: what SGET reads, number by number, into a scalar or (V = 1) into the active lanes of a vector register. -/
def Claims.SpecialRegisterReads : Prop :=
  ∀ (s : State) (k : Ctx) (x : XFields) (y : SScalar),
    let c := k.c
    let e := k.t.trec.extents
    let h := k.half
    let q := rankOf e k.g.f k.g.b k.g.g c.c
    let reads := fun (n lane : Nat) (v : Word) =>
      (n = 0x00 → v = BitVec.ofNat 64 (if k.lw then lane % 16 else lane))
      ∧ (n = 0x01 → v = BitVec.ofNat 64 (if k.lw then 2 * c.c + h else c.c))
      ∧ (n = 0x02 → v = BitVec.ofNat 64 k.g.g) ∧ (n = 0x03 → v = BitVec.ofNat 64 k.g.b) ∧ (n = 0x04 → v = BitVec.ofNat 64 k.g.f)
      ∧ (n = 0x05 → v = e &&& 0x00ff803f) ∧ (n = 0x06 → v = BitVec.ofNat 64 k.w) ∧ (n = 0x07 → v = if c.prof then 1 else 0)
      ∧ (n = 0x08 → v.extractLsb' 0 48 = BitVec.ofNat 48 c.phases ∧ v.extractLsb' 48 3 = BitVec.ofNat 3 c.lastScope
        ∧ v.extractLsb' 51 13 = 0)
      ∧ (n = 0x09 → v = BitVec.ofNat 64 (if k.lw then 2 * q + h else q))
      ∧ (n = 0x0a → v = BitVec.ofNat 64 k.t.nest) ∧ (n = 0x0b → v = k.t.record)
      ∧ (n = 0x0c → v = BitVec.ofNat 64 (k.s.clock k.g.bench))
      ∧ (n = 0x0d → v.extractLsb' 0 48 = (k.c.deadline.elim 0 (fun t => BitVec.ofNat 48 (k.s.clockAt k.g.bench t))) ∧ v.extractLsb' 50 14 = 0)
      ∧ (n = 0x0d → v.getLsbD 48 = (k.c.deadline = none) ∧ v.getLsbD 49 = (c.passed || k.s.isPast c.deadline))
      ∧ (n = 0x0e → v = c.trapmask.setWidth 64)
    c.lastScope < 8 →
    (s.issuer (.sgetS y) = some k → ∃ v, exec (.sgetS y) s = .next (k.issue [.s (k.skey y.sd.toNat) v]) ∧ reads y.imm.toNat 0 v)
    ∧ (s.issuer (.sgetX x) = some k → x.ext.getLsbD 0 = false →
        ∃ v, exec (.sgetX x) s = .next (k.issue [.s (k.skey x.vd.toNat) v]) ∧ reads x.sa.toNat 0 v)
    ∧ (s.issuer (.sgetX x) = some k → x.ext.getLsbD 0 = true →
        ∃ f : Nat → Word, exec (.sgetX x) s = .next (k.issue (k.writeV 5 (k.lanes.map (fun l => (l, (f l).toNat)))))
          ∧ ∀ l, reads x.sa.toNat l (f l))

/-- 15 R429: SSET writes the trap mask for the virtual device of ASID 0, its reserved bits aside; for another it raises PROT at issue, with
ADDR the number. -/
def Claims.TrapMaskWrite : Prop :=
  ∀ (s : State) (k : Ctx) (x : XFields), s.issuer (.sset x) = some k →
    ((s.vd k.vdn).asid = 0 → ∃ m, exec (.sset x) s = .next (k.issue [.trap m])
      ∧ ∀ c : Course, (c.land (.trap m)).trapmask = ((k.srcS x.sb).setWidth 16 &&& 0x01fe))
    ∧ ((s.vd k.vdn).asid ≠ 0 → exec (.sset x) s = .next (k.fault 0x02 0 (x.sa.setWidth 64) 0 k.k0))

/-- 15 R430: the mask operations; under LW16 a half reads its own bits at [15:0] and writes only its own. -/
def Claims.MaskOperations : Prop :=
  ∀ (s : State) (k : Ctx) (x : XFields),
    let a := k.kreg x.sa.toNat &&& k.halfLanes
    let b := k.kreg x.sb.toNat &&& k.halfLanes
    let low := (BitVec.setWidth 64 a) >>> (16 * k.half)
    let n := if k.lw then 16 else 32
    let toMask := fun (i : Instr) (v : LaneMask) => s.issuer i = some k →
      ∃ m, exec i s = .next (k.issue [.k x.vd.toNat k.halfLanes m]) ∧ m &&& k.halfLanes = v &&& k.halfLanes
    let toScalar := fun (i : Instr) (v : Word) => s.issuer i = some k → exec i s = .next (k.issue [.s (k.skey x.vd.toNat) v])
    toMask (.kand x) (a &&& b) ∧ toMask (.kor x) (a ||| b) ∧ toMask (.kxor x) (a ^^^ b) ∧ toMask (.knot x) (~~~a) ∧ toMask (.kmov x) a
    ∧ toMask (.kfroms x) ((k.srcS x.sa).setWidth 32 <<< (16 * k.half))
    ∧ toScalar (.ktos x) low
    ∧ toScalar (.kpopc x) (BitVec.ofNat 64 ((List.range 32).countP (fun i => a.getLsbD i)))
    ∧ toScalar (.kfirst x) (BitVec.ofNat 64 (((List.range n).find? (fun i => low.getLsbD i)).getD n))

/-- 14 R412, 15 R431, R432, R439, R440: NOP, WAITF, DELAY, YIELD and PRIO, PREF, CFLUSH and CINV: no register and no memory. -/
def Claims.WaitsAndHints : Prop :=
  ∀ (s : State) (k : Ctx) (x : XFields) (sch : BitVec 4) (z : BitVec 20) (lit : Word), k.sp.redo = none →
    let split := fun (t : State) => (tget t.courses k.cid).bind (fun c => tget c.splits k.w)
    (s.issuer (.nopS sch z) = some k → exec (.nopS sch z) s = .next (k.issue []))
    ∧ (s.issuer (.nopX x) = some k → exec (.nopX x) s = .next (k.issue []))
    ∧ (s.issuer (.prefX x) = some k → exec (.prefX x) s = .next (k.issue []))
    ∧ (s.issuer (.prefXl x lit) = some k → exec (.prefXl x lit) s = .next (k.issue []))
    ∧ (s.issuer (.cflush x) = some k → exec (.cflush x) s = .next (k.issue []))
    ∧ (s.issuer (.cinv x) = some k → exec (.cinv x) s = .next (k.issue []))
    ∧ (s.issuer (.waitf x) = some k →
        ((∀ f < 12, x.w1.getLsbD f = true → k.c.flag k.w f ≤ (x.w1.extractLsb' 12 6).toNat) → exec (.waitf x) s = .next (k.issue []))
        ∧ ((∃ f < 12, x.w1.getLsbD f = true ∧ (x.w1.extractLsb' 12 6).toNat < k.c.flag k.w f) →
            exec (.waitf x) s = .next (s.setSplit k.cid k.w { k.sp with tried := s.now })))
    ∧ (s.issuer (.delay x) = some k → ∃ t sp, exec (.delay x) s = .next t ∧ split t = some sp ∧ sp.pc = k.next
        ∧ sp.hold = s.now + (x.w1.extractLsb' 0 16).toNat + 1)
    ∧ (s.issuer (.yield x) = some k → ∃ t sp, exec (.yield x) s = .next t ∧ split t = some sp ∧ sp.pc = k.next ∧ sp.yield = s.now + 64)
    ∧ (s.issuer (.prio x) = some k → ∃ t, exec (.prio x) s = .next t
        ∧ (t.task k.g.task).prioTo = (s.task k.g.task).prioTo ++ [(s.now + 1024, (x.w1.extractLsb' 0 3).toNat)])

/-- SGET, SSET, the mask operations, and the waits and hints that change no register and no memory: SpecialRegisterReads, TrapMaskWrite,
MaskOperations, WaitsAndHints. -/
def Obligations.SpecialAndMaskRegisters : Prop :=
  Claims.SpecialRegisterReads ∧ Claims.TrapMaskWrite ∧ Claims.MaskOperations ∧ Claims.WaitsAndHints

/-- 15 R433 to R435: where a branch that is taken continues, and that CALL leaves the address of the next instruction in s63. A backward one
also ends what a stale loop buffer may still give (07 R203). -/
def Obligations.Branches : Prop :=
  ∀ (s : State) (k : Ctx) (x : XFields) (y : SBranch) (lit : Word),
    let near := k.pc + 4 * y.off.signExtend 64
    let far := k.pc + lit
    let goes := fun (i : Instr) (a : Word) (ws : List RegWrite) =>
      let t := (k.issueAt a ws .none).1
      s.issuer i = some k → a.toNat % 4 = 0 → a.toNat < 2 ^ 57 →
        exec i s = .next (if a.toNat ≤ k.pc.toNat then t.setCourse k.cid { t.course k.cid with loop := 0, loopI := [] } else t)
    let taken := fun (n : Nat) (neg : Bool) => decide ((k.kreg n &&& k.k0) ≠ 0) != neg
    goes (.braS y) near [] ∧ goes (.braXl x lit) far []
    ∧ goes (.callS y) near [.s (k.skey 63) (k.pc + 4)] ∧ goes (.callXl x lit) far [.s (k.skey 63) (k.pc + 20)]
    ∧ goes (.jmpi x) (k.srcS x.sa) [] ∧ goes (.ret x) (k.srcS x.sa) []
    ∧ (taken y.k.toNat (y.neg ≠ 0) = true → goes (.brcS y) near [])
    ∧ (taken x.sa.toNat (x.ext.getLsbD 0) = true → goes (.brcXl x lit) far [])
    ∧ (taken y.k.toNat (y.neg ≠ 0) = false → s.issuer (.brcS y) = some k → exec (.brcS y) s = .next (k.issue []))
    ∧ (taken x.sa.toNat (x.ext.getLsbD 0) = false → s.issuer (.brcXl x lit) = some k → exec (.brcXl x lit) s = .next (k.issue []))

/-- 08 R237, 15 R434: BRV parts the active lanes: those that branch run as the lowest free split number of the course (or half), or are
pushed on the split's stack when there is none. -/
def Claims.Divergence : Prop :=
  ∀ (s : State) (k : Ctx) (x : XFields) (y : SBranch) (lit : Word), k.sp.redo = none →
    let split := fun (u : State) (n : Nat) => (tget u.courses k.cid).bind (fun c => tget c.splits n)
    let mine := fun (m : Nat) => m < 4 ∧ (k.lw = true → m / 2 = k.half)
    let parts := fun (i : Instr) (n : Nat) (neg : Bool) (a : Word) =>
      let t := (if neg then ~~~k.kreg n else k.kreg n) &&& k.k0
      let f := k.k0 &&& ~~~t
      s.issuer i = some k →
        (t = 0 → exec i s = .next (k.issue []))
        ∧ (t ≠ 0 → a.toNat % 4 = 0 → a.toNat < 2 ^ 57 →
            (f = 0 → exec i s = .next (k.taken a (k.issueAt a [] .none).1))
            ∧ (∀ m, f ≠ 0 → mine m → tget k.c.splits m = none → (∀ j < m, mine j → tget k.c.splits j ≠ none) →
                ∃ u p q, exec i s = .next u ∧ split u k.w = some p ∧ p.pc = k.next ∧ p.mask = f ∧ p.stack = k.sp.stack
                  ∧ split u m = some q ∧ q.pc = a ∧ q.mask = t ∧ q.stack = [] ∧ q.wait = .run)
            ∧ (f ≠ 0 → (∀ j, mine j → tget k.c.splits j ≠ none) → k.sp.stack.length < 16 →
                ∃ u p, exec i s = .next u ∧ split u k.w = some p ∧ p.pc = k.next ∧ p.mask = f ∧ p.stack = (a, t) :: k.sp.stack))
    parts (.brvS y) y.k.toNat (y.neg ≠ 0) (k.pc + 4 * y.off.signExtend 64)
    ∧ parts (.brvXl x lit) x.sa.toNat (x.ext.getLsbD 0) (k.pc + lit)

/-- 08 R241: REJOIN acts as NOP unless the split's lanes lie within the mask register; a split that runs alone in its course then goes on
when its lanes are the live lanes of the mask, and waits at the instruction otherwise. -/
def Claims.Reconvergence : Prop :=
  ∀ (s : State) (k : Ctx) (x : XFields), s.issuer (.rejoin x) = some k → k.sp.redo = none →
    let m := k.kreg x.sa.toNat &&& k.halfLanes
    (k.k0 &&& ~~~m ≠ 0 ∨ x.sa = 0 → exec (.rejoin x) s = .next (k.issue []))
    ∧ (k.k0 &&& ~~~m = 0 → x.sa ≠ 0 → k.k0 ≠ 0 → k.c.splits = [(k.w, k.sp)] → k.c.held = [] → k.sp.stack = [] → k.sp.wait = .run →
        ∃ u p, exec (.rejoin x) s = .next u ∧ (tget u.courses k.cid).bind (fun c => tget c.splits k.w) = some p ∧ p.mask = k.k0
          ∧ (if k.k0 = m &&& k.c.live then p.pc = k.pc + 12 ∧ p.wait = .run else p.pc = k.pc ∧ p.wait = .rejoin m))

/-- BRV parts the active lanes into a new split or a stack entry; REJOIN brings them together: Divergence, Reconvergence. -/
def Obligations.DivergenceAndReconvergence : Prop :=
  Claims.Divergence ∧ Claims.Reconvergence

/-- 08 R243, R244, R250, R251: EXIT takes the active lanes away, and the course retires one tick after its last one; TAIL retires it at once
unless the tracker of the cell is full; MIGR notes its bridge point and migrates only on request. -/
def Obligations.ExitTailMigrate : Prop :=
  ∀ (s : State) (k : Ctx) (x : XFields),
    let live := k.c.live &&& ~~~k.active
    let leaves := fun (i : Instr) => ∃ u, exec i s = .next u ∧ (u.course k.cid).live = live
      ∧ (live = 0 → k.c.st = .running → ∃ d ∈ u.agenda, d.tick = s.now + 1 ∧ d.ev = { i := .courseRetire, arg := .nat k.cid 0 0 })
    let full := 8 ≤ (s.cell (cellKey k.g.bench k.g.cell)).tracker.length
    let id := (x.w1.extractLsb' 0 16).toNat
    (s.issuer (.exit x) = some k → if k.active = 0 then exec (.exit x) s = .next (k.issue []) else leaves (.exit x))
    ∧ (s.issuer (.tail x) = some k →
        if k.active = 0 then exec (.tail x) s = .next (k.issue [])
        else if live ≠ 0 then leaves (.tail x)
        else if full then exec (.tail x) s = .next (s.setSplit k.cid k.w { k.sp with tried := s.now })
        else ∃ u, exec (.tail x) s = .next u ∧ (u.course k.cid).st = .retired ∧ (u.course k.cid).live = 0)
    ∧ (s.issuer (.migr x) = some k → ∃ u, exec (.migr x) s = .next u
        ∧ ((u.course k.cid).bridge.map (·.2)) = some id
        ∧ (k.c.migReq = false → (u.course k.cid).st = k.c.st)
        ∧ ((u.course k.cid).st = k.c.st ∨ (u.course k.cid).st = .migrating id))

/-- 15 R438, R413, 06 R159: TRAP and BRK stop the course under a parked record with their cause and immediate; BRK halts it for an Invasive
session; without an active lane each acts as NOP; UDF is ILLEGAL_ENCODING always; a lower split's late fault of the same cycle goes
before them (06 R162). -/
def Obligations.TrapsAndBreaks : Prop :=
  ∀ (s : State) (k : Ctx) (x : XFields) (lit : Word) (len : BitVec 2) (sch : BitVec 4) (n : BitVec 20),
    let park := fun (cause : Nat) (cx : Word) (mask : LaneMask) => (.next (if k.c.lateBelow s.now k.w
      then s.setSplit k.cid k.w { k.sp with tried := s.now } else s.parkCourse k.cid k.w cause 0 0 cx mask k.pc k.pc none) : Out)
    (s.issuer (.trapX x) = some k → exec (.trapX x) s =
      if k.active = 0 then .next (k.issue []) else park 0x13 ((x.w1.extractLsb' 0 16).setWidth 64) k.active)
    ∧ (s.issuer (.trapXl x lit) = some k → exec (.trapXl x lit) s = if k.active = 0 then .next (k.issue []) else park 0x13 lit k.active)
    ∧ (s.issuer (.brk x) = some k →
        (k.active = 0 → exec (.brk x) s = .next (k.issue []))
        ∧ (k.active ≠ 0 → (s.vd k.vdn).dbg ≠ 2 → exec (.brk x) s = park 0x14 0 k.active)
        ∧ (k.active ≠ 0 → (s.vd k.vdn).dbg = 2 → ∃ u, exec (.brk x) s = .next u ∧ (u.course k.cid).st = .halted))
    ∧ (s.atSplit (.udf len sch n) = some k → (s.spend k.g.task k.g.bench).isSome = true → exec (.udf len sch n) s = park 7 0 k.active)

/-- 16 R449: the two-operand integer instructions compute in each active lane what 15 R423 gives their scalar twins, the count of a shift
being the whole unsigned element of SB; the S forms are INT32 with SA := VD and SB := VS. -/
def Claims.VectorArithmetic : Prop :=
  ∀ (s : State) (k0 : Ctx) (x : XFields) (y : SVec),
    let kx := k0.reads x
    let ky := k0.reads (sBinary 4 y)
    let sat := decide (x.sat ≠ 0)
    let gives := fun (k : Ctx) (f : Nat → Nat → Nat → Nat) => (.next (k0.issue (k.writeV k.x.type.toNat (k.elementwise (fun t a b _ => f t a b)))) : Out)
    let ints := fun (sat : Bool) (f : Int → Int → Int) (t a b : Nat) => patternOf sat t (f (intOf t a) (intOf t b))
    let high := fun (t a b : Nat) => patternOf false t (intOf t a * intOf t b / 2 ^ typeWidth t)
    let bits := fun (f : ∀ w, BitVec w → BitVec w → Nat → BitVec w) (t a b : Nat) => (f (typeWidth t) (lowBits t a) (lowBits t b) b).toNat
    (s.issuer (.vaddX x) = some k0 → exec (.vaddX x) s = gives kx (ints sat (fun a b => a + b)))
    ∧ (s.issuer (.vaddS y) = some k0 → exec (.vaddS y) s = gives ky (ints false (fun a b => a + b)))
    ∧ (s.issuer (.vsubX x) = some k0 → exec (.vsubX x) s = gives kx (ints sat (fun a b => a - b)))
    ∧ (s.issuer (.vsubS y) = some k0 → exec (.vsubS y) s = gives ky (ints false (fun a b => a - b)))
    ∧ (s.issuer (.vmulX x) = some k0 → exec (.vmulX x) s = gives kx (ints sat (fun a b => a * b)))
    ∧ (s.issuer (.vmulS y) = some k0 → exec (.vmulS y) s = gives ky (ints false (fun a b => a * b)))
    ∧ (s.issuer (.vmulhX x) = some k0 → exec (.vmulhX x) s = gives kx (high))
    ∧ (s.issuer (.vmulhS y) = some k0 → exec (.vmulhS y) s = gives ky (high))
    ∧ (s.issuer (.vminX x) = some k0 → exec (.vminX x) s = gives kx (ints sat min))
    ∧ (s.issuer (.vminS y) = some k0 → exec (.vminS y) s = gives ky (ints false min))
    ∧ (s.issuer (.vmaxX x) = some k0 → exec (.vmaxX x) s = gives kx (ints sat max))
    ∧ (s.issuer (.vmaxS y) = some k0 → exec (.vmaxS y) s = gives ky (ints false max))
    ∧ (s.issuer (.vandX x) = some k0 → exec (.vandX x) s = gives kx (bits (fun _ a b _ => a &&& b)))
    ∧ (s.issuer (.vandS y) = some k0 → exec (.vandS y) s = gives ky (bits (fun _ a b _ => a &&& b)))
    ∧ (s.issuer (.vorX x) = some k0 → exec (.vorX x) s = gives kx (bits (fun _ a b _ => a ||| b)))
    ∧ (s.issuer (.vorS y) = some k0 → exec (.vorS y) s = gives ky (bits (fun _ a b _ => a ||| b)))
    ∧ (s.issuer (.vxorX x) = some k0 → exec (.vxorX x) s = gives kx (bits (fun _ a b _ => a ^^^ b)))
    ∧ (s.issuer (.vxorS y) = some k0 → exec (.vxorS y) s = gives ky (bits (fun _ a b _ => a ^^^ b)))
    ∧ (s.issuer (.vshlX x) = some k0 → exec (.vshlX x) s = gives kx (bits (fun _ a _ n => a <<< n)))
    ∧ (s.issuer (.vshlS y) = some k0 → exec (.vshlS y) s = gives ky (bits (fun _ a _ n => a <<< n)))
    ∧ (s.issuer (.vshrX x) = some k0 → exec (.vshrX x) s = gives kx (bits (fun _ a _ n => a >>> n)))
    ∧ (s.issuer (.vshrS y) = some k0 → exec (.vshrS y) s = gives ky (bits (fun _ a _ n => a >>> n)))
    ∧ (s.issuer (.vsarX x) = some k0 → exec (.vsarX x) s = gives kx (bits (fun _ a _ n => a.sshiftRight n)))
    ∧ (s.issuer (.vsarS y) = some k0 → exec (.vsarS y) s = gives ky (bits (fun _ a _ n => a.sshiftRight n)))

/-- 16 R450: the one-operand integer instructions on the w-bit pattern or the exact value; the S forms are INT32 with SA := VS. -/
def Claims.VectorUnary : Prop :=
  ∀ (s : State) (k0 : Ctx) (x : XFields) (y : SVec),
    let kx := k0.reads x
    let ky := k0.reads (sUnary 4 y)
    let sat := decide (x.sat ≠ 0)
    let gives := fun (k : Ctx) (f : Nat → Nat → Nat) => (.next (k0.issue (k.writeV k.x.type.toNat (k.elementwise (fun t a _ _ => f t a)))) : Out)
    let mag := fun (sat : Bool) (t a : Nat) => patternOf sat t (intOf t a).natAbs
    let neg := fun (sat : Bool) (t a : Nat) => patternOf sat t (-(intOf t a))
    let flip := fun (t a : Nat) => (~~~(lowBits t a)).toNat
    let zeros := fun (t a : Nat) => (lowBits t a).clz.toNat
    let ones := fun (t a : Nat) => (List.range (typeWidth t)).countP (fun i => (lowBits t a).getLsbD i)
    let back := fun (t a : Nat) => (lowBits t a).reverse.toNat
    let same := fun (_ a : Nat) => a
    (s.issuer (.vabsX x) = some k0 → exec (.vabsX x) s = gives kx (mag sat))
    ∧ (s.issuer (.vabsS y) = some k0 → exec (.vabsS y) s = gives ky (mag false))
    ∧ (s.issuer (.vnegX x) = some k0 → exec (.vnegX x) s = gives kx (neg sat))
    ∧ (s.issuer (.vnegS y) = some k0 → exec (.vnegS y) s = gives ky (neg false))
    ∧ (s.issuer (.vnotX x) = some k0 → exec (.vnotX x) s = gives kx (flip))
    ∧ (s.issuer (.vnotS y) = some k0 → exec (.vnotS y) s = gives ky (flip))
    ∧ (s.issuer (.vclzX x) = some k0 → exec (.vclzX x) s = gives kx (zeros))
    ∧ (s.issuer (.vclzS y) = some k0 → exec (.vclzS y) s = gives ky (zeros))
    ∧ (s.issuer (.vpopcX x) = some k0 → exec (.vpopcX x) s = gives kx (ones))
    ∧ (s.issuer (.vpopcS y) = some k0 → exec (.vpopcS y) s = gives ky (ones))
    ∧ (s.issuer (.vbrevX x) = some k0 → exec (.vbrevX x) s = gives kx (back))
    ∧ (s.issuer (.vbrevS y) = some k0 → exec (.vbrevS y) s = gives ky (back))
    ∧ (s.issuer (.vmovX x) = some k0 → exec (.vmovX x) s = gives kx (same))
    ∧ (s.issuer (.vmovS y) = some k0 → exec (.vmovS y) s = gives ky (same))

/-- 16 R450 to R453: VMAD narrows once; VBFE and VBFI take the bits from byte 0 of SB, byte 1 or SC for their number; VCMP writes kd; VSEL
picks whole registers by a mask; VMOV.l and VLEA write a literal and a 64-bit address. -/
def Claims.VectorFieldsAndMoves : Prop :=
  ∀ (s : State) (k : Ctx) (x : XFields) (lit : Word),
    let t := x.type.toNat
    let w := typeWidth t
    let moved := moveType t
    let lanes := fun (t : Nat) (f : Nat → Nat) => (.next (k.issue (k.writeV t (k.lanes.map (fun l => (l, f l))))) : Out)
    let src := fun (r : BitVec 8) (l : Nat) => k.srcT t r l
    let pos := fun (l : Nat) => src x.sb l % 256
    let len := fun (l : Nat) => src x.sc l % 256
    let empty := fun (l : Nat) => w ≤ pos l ∨ len l = 0
    let size := fun (l : Nat) => min (len l) (w - pos l)
    let addr := fun (off : Word) (l : Nat) => (k.srcP x.sa l + BitVec.ofInt 64 (intOf t (src x.sb l)) * 2 ^ (x.ext.extractLsb' 0 3).toNat + off).toNat
    (s.issuer (.vmad x) = some k → exec (.vmad x) s =
      .next (k.issue (k.writeV t (k.elementwise (fun t a b c => patternOf (x.sat ≠ 0) t (intOf t a * intOf t b + intOf t c))))))
    ∧ (s.issuer (.vbfe x) = some k → exec (.vbfe x) s = lanes t (fun l =>
        if empty l then 0
        else let f := (BitVec.ofNat w (src x.sa l)).extractLsb' (pos l) (size l)
             if signedType t then (f.signExtend w).toNat else f.toNat))
    ∧ (s.issuer (.vbfi x) = some k → exec (.vbfi x) s = lanes t (fun l =>
        if empty l then src x.vd l
        else (BitVec.ofBoolListLE ((List.range w).map (fun i =>
          if pos l ≤ i && i < pos l + size l then (src x.sa l).testBit (i - pos l) else (src x.vd l).testBit i))).toNat))
    ∧ (s.issuer (.vcmp x) = some k → exec (.vcmp x) s = .next (k.issue (k.writeK (k.lanes.map (fun l =>
        (l, holds (x.ext.extractLsb' 0 4).toNat (intOf t (src x.sa l)) (intOf t (src x.sb l))))))))
    ∧ (s.issuer (.vsel x) = some k → exec (.vsel x) s = lanes moved (fun l =>
        if (k.kreg x.sc.toNat).getLsbD l then k.srcT moved x.sa l else k.srcT moved x.sb l))
    ∧ (s.issuer (.vmovXl x lit) = some k → exec (.vmovXl x lit) s = lanes t (fun _ => lit.toNat % 2 ^ w))
    ∧ (s.issuer (.vleaX x) = some k → exec (.vleaX x) s = lanes 7 (addr 0))
    ∧ (s.issuer (.vleaXl x lit) = some k → exec (.vleaXl x lit) s = lanes 7 (addr lit))

/-- The vector integer instructions, lane by lane: VectorArithmetic, VectorUnary, VectorFieldsAndMoves. -/
def Obligations.VectorInteger : Prop :=
  Claims.VectorArithmetic ∧ Claims.VectorUnary ∧ Claims.VectorFieldsAndMoves

/-- 12 R344 to R347, R361: a sum, a difference, a product, a fused multiply-add and a quotient of finite values is the exact value rounded
once under RM, with OVF or UNF as R345 defines them; in event mode the event's NaN stands for a result with an event; an exact zero has
the sign of R344. -/
def Obligations.FloatResultsRound : Prop :=
  ∀ (n : FEnv) (t rm a b c : Nat), rm < 4 → isFinite t a = true → isFinite t b = true → isFinite t c = true →
    let va := valueAt t a
    let vb := valueAt t b
    let vc := valueAt t c
    let na := decide (signBit t ≤ a)
    let nb := decide (signBit t ≤ b)
    let nc := decide (signBit t ≤ c)
    let rounds := fun (r : FRes) (v : Rat) => ∃ x, roundsTo t rm v x r.ev ∧ r.x = (if n.evm = true ∧ r.ev ≠ 0 then newNaN t r.ev n.pc else x)
    let gives := fun (r : FRes) (v : Rat) (neg : Bool) => (v ≠ 0 → rounds r v) ∧ (v = 0 → r = { x := if neg then signBit t else 0, ev := 0 })
    let sum := fun (p q : Bool) => if p = q then p else decide (rm = 2)
    gives (fadd n t rm a b) (va + vb) (sum na nb)
    ∧ gives (fsub n t rm a b) (va - vb) (sum na (!nb))
    ∧ gives (fmul n t rm a b) (va * vb) (na != nb)
    ∧ gives (ffma n t rm a b c) (va * vb + vc) (sum (na != nb) nc)
    ∧ (vb ≠ 0 → gives (fdiv n t rm a b) (va / vb) (na != nb))

/-- 16 R444, R454 to R458: every elementwise float instruction delivers in each active lane the operation of its row, the S forms as FP32
under RNE with SA := VD and SB := VS, or SA := VS for one operand. -/
def Claims.FloatInstructions : Prop :=
  ∀ (s : State) (k0 : Ctx) (x : XFields) (y : SVec),
    let kx := k0.reads x
    let kb := k0.reads (sBinary 10 y)
    let ku := k0.reads (sUnary 10 y)
    let rm := x.rm.toNat
    let lands := fun (k : Ctx) (f : Nat → Nat → Nat → Nat → FRes) (o : Out) =>
      k.delivers (k.lanes.map (k.laneOp f)) (fun rs => k.writeV k.x.type.toNat (rs.map (fun r => (r.lane, r.x)))) o
    let n := k0.fenv
    (s.issuer (.faddX x) = some k0 → lands kx (fun t a b _ => fadd n t rm a b) (exec (.faddX x) s))
    ∧ (s.issuer (.faddS y) = some k0 → lands kb (fun t a b _ => fadd n t 0 a b) (exec (.faddS y) s))
    ∧ (s.issuer (.fsubX x) = some k0 → lands kx (fun t a b _ => fsub n t rm a b) (exec (.fsubX x) s))
    ∧ (s.issuer (.fsubS y) = some k0 → lands kb (fun t a b _ => fsub n t 0 a b) (exec (.fsubS y) s))
    ∧ (s.issuer (.fmulX x) = some k0 → lands kx (fun t a b _ => fmul n t rm a b) (exec (.fmulX x) s))
    ∧ (s.issuer (.fmulS y) = some k0 → lands kb (fun t a b _ => fmul n t 0 a b) (exec (.fmulS y) s))
    ∧ (s.issuer (.fdivX x) = some k0 → lands kx (fun t a b _ => fdiv n t rm a b) (exec (.fdivX x) s))
    ∧ (s.issuer (.fdivS y) = some k0 → lands kb (fun t a b _ => fdiv n t 0 a b) (exec (.fdivS y) s))
    ∧ (s.issuer (.fminX x) = some k0 → lands kx (fun t a b _ => fminmax n t false a b) (exec (.fminX x) s))
    ∧ (s.issuer (.fminS y) = some k0 → lands kb (fun t a b _ => fminmax n t false a b) (exec (.fminS y) s))
    ∧ (s.issuer (.fmaxX x) = some k0 → lands kx (fun t a b _ => fminmax n t true a b) (exec (.fmaxX x) s))
    ∧ (s.issuer (.fmaxS y) = some k0 → lands kb (fun t a b _ => fminmax n t true a b) (exec (.fmaxS y) s))
    ∧ (s.issuer (.fsqrtX x) = some k0 → lands kx (fun t a _ _ => fsqrt n t rm a) (exec (.fsqrtX x) s))
    ∧ (s.issuer (.fsqrtS y) = some k0 → lands ku (fun t a _ _ => fsqrt n t 0 a) (exec (.fsqrtS y) s))
    ∧ (s.issuer (.fexp2X x) = some k0 → lands kx (fun t a _ _ => fexp2 n t rm a) (exec (.fexp2X x) s))
    ∧ (s.issuer (.fexp2S y) = some k0 → lands ku (fun t a _ _ => fexp2 n t 0 a) (exec (.fexp2S y) s))
    ∧ (s.issuer (.flog2X x) = some k0 → lands kx (fun t a _ _ => flog2 n t rm a) (exec (.flog2X x) s))
    ∧ (s.issuer (.flog2S y) = some k0 → lands ku (fun t a _ _ => flog2 n t 0 a) (exec (.flog2S y) s))
    ∧ (s.issuer (.fsinpiX x) = some k0 → lands kx (fun t a _ _ => fsinpi n t rm a) (exec (.fsinpiX x) s))
    ∧ (s.issuer (.fsinpiS y) = some k0 → lands ku (fun t a _ _ => fsinpi n t 0 a) (exec (.fsinpiS y) s))
    ∧ (s.issuer (.fcospiX x) = some k0 → lands kx (fun t a _ _ => fcospi n t rm a) (exec (.fcospiX x) s))
    ∧ (s.issuer (.fcospiS y) = some k0 → lands ku (fun t a _ _ => fcospi n t 0 a) (exec (.fcospiS y) s))
    ∧ (s.issuer (.frcpX x) = some k0 → lands kx (fun t a _ _ => frcp n t a) (exec (.frcpX x) s))
    ∧ (s.issuer (.frcpS y) = some k0 → lands ku (fun t a _ _ => frcp n t a) (exec (.frcpS y) s))
    ∧ (s.issuer (.frsqX x) = some k0 → lands kx (fun t a _ _ => frsq n t a) (exec (.frsqX x) s))
    ∧ (s.issuer (.frsqS y) = some k0 → lands ku (fun t a _ _ => frsq n t a) (exec (.frsqS y) s))
    ∧ (s.issuer (.ffma x) = some k0 → lands kx (fun t a b c => ffma n t rm a b c) (exec (.ffma x) s))
    ∧ (s.issuer (.frnd x) = some k0 → lands kx (fun t a _ _ => frnd n t rm a) (exec (.frnd x) s))

/-- 16 R456 to R461: FCMP, FCLASS, CVT, VPACK, VUNPK, VCBDEC, VCBENC and VBSCAL deliver, lane by lane, the comparison, the class, the
conversion, the codebook value, the codebook index in one nibble of VD, or the scale. -/
def Claims.FloatConversions : Prop :=
  ∀ (s : State) (k : Ctx) (x : XFields),
    let t := x.type.toNat
    let n := k.fenv
    let rm := x.rm.toNat
    let sat := decide (x.sat ≠ 0)
    let low := (x.ext.extractLsb' 0 4).toNat
    let high := (x.ext.extractLsb' 4 4).toNat
    let e := (x.ext.extractLsb' 0 3).toNat
    let va := fun l => (k.srcV x.sa l).toNat
    let vb := fun l => (k.srcV x.sb l).toNat
    let vc := fun l => (k.srcV x.sc l).toNat
    let vd := fun l => (k.srcV x.vd l).toNat
    let lands := fun (t : Nat) (f : Nat → Nat × List Nat) (o : Out) =>
      k.delivers (k.lanes.map (fun l => { lane := l, x := (f l).1, evs := (f l).2 })) (fun rs => k.writeV t (rs.map (fun r => (r.lane, r.x)))) o
    let one := fun (r : FRes) => (r.x, [r.ev])
    (s.issuer (.fcmp x) = some k → k.delivers (k.lanes.map (fun l =>
          let r := fcond low t (k.srcT t x.sa l) (k.srcT t x.sb l)
          { lane := l, x := if r.1 then 1 else 0, evs := [r.2] }))
        (fun rs => k.writeK (rs.map (fun r => (r.lane, r.x ≠ 0)))) (exec (.fcmp x) s))
    ∧ (s.issuer (.fclass x) = some k → lands 5 (fun l => (fclass t (k.srcT t x.sa l), [])) (exec (.fclass x) s))
    ∧ (s.issuer (.cvt x) = some k → lands t (fun l => one (convert n t low rm sat (k.srcT low x.sa l))) (exec (.cvt x) s))
    ∧ (s.issuer (.vpack x) = some k → lands 13 (fun l =>
        let a := convert n low high rm sat (k.srcT high x.sa l)
        let b := convert n low high rm sat (k.srcT high x.sb l)
        (a.x + 65536 * b.x, [a.ev, b.ev])) (exec (.vpack x) s))
    ∧ (s.issuer (.vunpk x) = some k → lands high (fun l =>
        one (convert n high low rm sat (if x.ext.getLsbD 8 then va l / 65536 else va l % 65536))) (exec (.vunpk x) s))
    ∧ (s.issuer (.vcbdec x) = some k → lands t (fun l => one (cbDecode n t rm (va l / 16 ^ e % 16) (vb l % 256) (vc l))) (exec (.vcbdec x) s))
    ∧ (s.issuer (.vcbenc x) = some k → lands 5 (fun l =>
        let r := cbEncode t (k.srcT t x.sa l) (vb l % 256) (vc l)
        (vd l % 16 ^ e + r.1 * 16 ^ e + vd l / 16 ^ (e + 1) * 16 ^ (e + 1), [r.2])) (exec (.vcbenc x) s))
    ∧ (s.issuer (.vbscal x) = some k → lands 5 (fun l =>
        one (vbscal (x.ext.extractLsb' 0 1).toNat t (k.srcT t x.sa l) (vc l))) (exec (.vbscal x) s))

/-- The float instructions and conversions deliver the operation of their row in each active lane: FloatInstructions, FloatConversions. -/
def Obligations.FloatInstructions : Prop :=
  Claims.FloatInstructions ∧ Claims.FloatConversions

/-- 16 R455: FMIN and FMAX return one operand unchanged in the order of the sign-magnitude patterns, so that -0 stands below +0 and
subnormals are compared exactly; a signalling NaN raises INV; a quiet NaN is the canonical one, or in event mode (12 R350) that of the
first quiet NaN's code and origin. -/
def Obligations.FloatMinMax : Prop :=
  (∀ (n : FEnv) (t a b : Nat), floatType t = true → a < 2 * signBit t → b < 2 * signBit t →
    let mag := fun (x : Nat) => x % signBit t
    let key := fun (x : Nat) => if signBit t ≤ x then -(mag x : Int) - 1 else (mag x : Int)
    let number := fun (x : Nat) => mag x ≤ infBits t
    let quiet := fun (x : Nat) => canonNaN t ≤ mag x
    let signals := fun (x : Nat) => ¬number x ∧ ¬quiet x
    let carried := fun (x : Nat) =>
      let code := (x / 2 ^ codeAt t) % 16
      ({ x := if n.evm = true ∧ 1 ≤ code ∧ code ≤ 8 then eventNaN t code (x % 2 ^ originBits t) else canonNaN t, ev := 0 } : FRes)
    (number a → number b → fminmax n t false a b = { x := if key a ≤ key b then a else b, ev := 0 }
      ∧ fminmax n t true a b = { x := if key b ≤ key a then a else b, ev := 0 })
    ∧ ∀ mx : Bool,
      (signals a ∨ signals b → fminmax n t mx a b = { x := if n.evm = true then newNaN t 1 n.pc else canonNaN t, ev := 1 })
      ∧ (quiet a → ¬signals b → fminmax n t mx a b = carried a)
      ∧ (number a → quiet b → fminmax n t mx a b = carried b))
  ∧ ∀ (s : State) (k0 : Ctx) (x : XFields) (y : SVec),
    let n := k0.fenv
    let lands := fun (k : Ctx) (mx : Bool) (o : Out) =>
      k.delivers (k.lanes.map (k.laneOp (fun t a b _ => fminmax n t mx a b))) (fun rs => k.writeV k.x.type.toNat (rs.map (fun r => (r.lane, r.x)))) o
    (s.issuer (.fminX x) = some k0 → lands (k0.reads x) false (exec (.fminX x) s))
    ∧ (s.issuer (.fminS y) = some k0 → lands (k0.reads (sBinary 10 y)) false (exec (.fminS y) s))
    ∧ (s.issuer (.fmaxX x) = some k0 → lands (k0.reads x) true (exec (.fmaxX x) s))
    ∧ (s.issuer (.fmaxS y) = some k0 → lands (k0.reads (sBinary 10 y)) true (exec (.fmaxS y) s))

/-- 16 R463, 09 R280, R281: each active lane receives SA of its source lane, a pair for the 64-bit types; VNBR crosses to the neighbour
course at lane 0 or 31 and waits while that course cannot be read; under LW16 all stay in their half. -/
def Claims.CrossLaneMoves : Prop :=
  ∀ (s : State) (k : Ctx) (x : XFields),
    let t := moveType x.type.toNat
    let moves := fun (xbar : Bool) (src : Nat → Nat) => (.next (k.issueAt k.next (k.writeV t (k.lanes.map (fun l => (l, k.srcT t x.sa (src l))))) .none (xbar := xbar)).1 : Out)
    let w := if k.lw then 16 else 32
    let n := (x.ext.extractLsb' 2 5).toNat
    let nb := fun (left : Bool) => s.neighbour k.cid (if left then -1 else 1)
    let edge := fun (left : Bool) => if left then 0 else 31
    let near := fun (left : Bool) (l : Nat) => if left then l - 1 else l + 1
    let other := fun (left : Bool) (r : Nat) => match nb left with
      | some m => (s.neighbourV m r (31 - edge left)).toNat
      | none => 0
    let beyond := fun (left : Bool) => if wide64 t then other left x.sa.toNat + 2 ^ 32 * other left (x.sa.toNat + 1) else other left x.sa.toNat
    let shuffles := s.issuer (.vshfl x) = some k
    let ringed := fun (left : Bool) (o : Out) =>
      (k.lw = true → o = moves false (fun l => l / 16 * 16 + (l + (if left then 15 else 1)) % 16))
      ∧ (k.lw = false → k.active.getLsbD (edge left) = false → o = moves false (near left))
      ∧ (k.lw = false → k.active.getLsbD (edge left) = true → (∀ m, nb left = some m → s.nbrReady m = true) →
          o = .next (k.issue (k.writeV t (k.lanes.map (fun l => (l, if l = edge left then beyond left else k.srcT t x.sa (near left l)))))))
      ∧ (k.lw = false → k.active.getLsbD (edge left) = true → (∃ m, nb left = some m ∧ s.nbrReady m = false) → o = .next k.blocked)
    (shuffles → x.ext.extractLsb' 0 2 = 0 → exec (.vshfl x) s = moves true (fun l => l / w * w + n % w))
    ∧ (shuffles → x.ext.extractLsb' 0 2 = 1 → exec (.vshfl x) s = moves true (fun l => if n ≤ l % w then l - n else l))
    ∧ (shuffles → x.ext.extractLsb' 0 2 = 2 → exec (.vshfl x) s = moves true (fun l => if l % w + n < w then l + n else l))
    ∧ (shuffles → x.ext.extractLsb' 0 2 = 3 → exec (.vshfl x) s = moves true (fun l => l / w * w + (l % w ^^^ n) % w))
    ∧ (s.issuer (.vperm x) = some k → exec (.vperm x) s = moves true (fun l => l / w * w + (k.srcV x.sb l).toNat % w))
    ∧ (s.issuer (.vbcast x) = some k → exec (.vbcast x) s = moves true (fun l => l / w * w + (x.ext.extractLsb' 0 5).toNat % w))
    ∧ (s.issuer (.vnbrLeft x) = some k → ringed true (exec (.vnbrLeft x) s))
    ∧ (s.issuer (.vnbrRight x) = some k → ringed false (exec (.vnbrRight x) s))

/-- 12 R362, R363, 16 R464: VRED and VSCAN combine along the fixed binary tree, whose root over no lane is the identity; a trapped event
parks at completion; VBALLOT forms the mask of nonzero lanes. -/
def Claims.Reductions : Prop :=
  ∀ (s : State) (k : Ctx) (x : XFields),
    let t := x.type.toNat
    let r := k.reduced (fun l => k.active.getLsbD l)
    let trapped := eventOrder.find? (fun e => k.c.trapmask.getLsbD e && r.evs.contains e)
    let sd := k.skey x.vd.toNat
    (s.issuer (.vred x) = some k → trapped = none →
      exec (.vred x) s = .next (k.issue (if x.nwb ≠ 0 then [] else [.s sd (extended t r.x)])))
    ∧ (s.issuer (.vred x) = some k → ∀ e, trapped = some e →
      exec (.vred x) s = .next (k.issueAt k.next [] .none (late := some { cause := 4, event := e, mask := k.active })).1)
    ∧ (s.issuer (.vscan x) = some k → k.delivers
        (k.lanes.map (fun i =>
          let v := k.reduced (fun j => k.active.getLsbD j && (j < i || (j = i && !x.ext.getLsbD 7)))
          { lane := i, x := v.x, evs := v.evs }))
        (fun rs => k.writeV t (rs.map (fun r => (r.lane, r.x)))) (exec (.vscan x) s))
    ∧ (s.issuer (.vballot x) = some k → exec (.vballot x) s = .next (k.issue (if x.nwb ≠ 0 then [] else
        [.s sd ((BitVec.ofBoolListLE ((List.range 32).map (fun l => k.active.getLsbD l && k.srcV x.sa l ≠ 0)) >>> (16 * k.half)).setWidth 64)])))

/-- Moves across lanes, reductions, scans and ballots: CrossLaneMoves, Reductions. -/
def Obligations.CrossLane : Prop :=
  Claims.CrossLaneMoves ∧ Claims.Reductions

/-- 12 R341, R362: a VRED of integers without SAT gives what the exact fold gives: the wrapped sum, the least or greatest value, or the
bitwise and, or, exclusive or of the values of the active lanes; the identity over none. -/
def Obligations.IntegerReductions : Prop :=
  ∀ (s : State) (k : Ctx) (x : XFields), s.issuer (.vred x) = some k → x.type.toNat < 8 → x.sat = 0 → x.nwb = 0 →
    let t := x.type.toNat
    let w := typeWidth t
    let op := (x.ext.extractLsb' 4 3).toNat
    let vals := k.lanes.map (fun l => intOf t (k.srcT t x.sa l))
    let bits := k.lanes.map (fun l => lowBits t (k.srcT t x.sa l))
    let top : Int := if signedType t then 2 ^ (w - 1) - 1 else 2 ^ w - 1
    let bottom : Int := if signedType t then -(2 ^ (w - 1)) else 0
    let gives := fun (p : Nat) => exec (.vred x) s = .next (k.issue [.s (k.skey x.vd.toNat) (extended t p)])
    (op = 0 → gives (patternOf false t vals.sum))
    ∧ (op = 1 → gives (patternOf false t (vals.foldl min top)))
    ∧ (op = 2 → gives (patternOf false t (vals.foldl max bottom)))
    ∧ (op = 3 → gives (bits.foldl (· &&& ·) (BitVec.allOnes w)).toNat)
    ∧ (op = 4 → gives (bits.foldl (· ||| ·) 0).toNat)
    ∧ (op = 5 → gives (bits.foldl (· ^^^ ·) 0).toNat)

/-- 17 R469 to R471, 10 R287: a load whose lanes reach memory issues with one item a lane, at the address its form gives, holding the bytes
its course's own buffer has, or, with .ACQ, none of them; no register, no buffered byte and no byte of memory changes. -/
def Claims.GlobalLoads : Prop :=
  ∀ (s : State) (k : Ctx) (x : XFields) (lit : Word),
    let t := x.type.toNat
    let n := typeSize t
    let shift := (x.ext.extractLsb' 0 3).toNat
    let acq := if x.ext.getLsbD 5 then some (x.ext.extractLsb' 6 3).toNat else none
    let linear := fun (off : Word) (l : Nat) =>
      (k.srcP x.sa l + BitVec.ofNat 64 (if x.ext.extractLsb' 0 3 = 1 then n * (if k.lw then l % 16 else l) else 0) + off).toNat
    let index := fun (l : Nat) => if x.ext.extractLsb' 3 2 = 0 then (k.srcV x.sb l).setWidth 64
      else if x.ext.extractLsb' 3 2 = 1 then (k.srcV x.sb l).signExtend 64 else k.srcP x.sb l
    let indexed := fun (l : Nat) => (k.srcP x.sa l + index l * 2 ^ shift).toNat
    let vector := fun (addr : Nat → Nat) => k.lanes.map (fun l => (l, addr l))
    let scalar := fun (off : Word) => [(0, (k.srcS x.sa + off).toNat)]
    let issues := fun (i : Instr) (as_ : List (Nat × Nat)) (dest : Dest) (zeros : List RegWrite) =>
      s.issuer i = some k → k.reaches 1 n as_ = true →
      let items := as_.map (fun p => ({ lane := p.1, loc := .glob p.2, fwd := if acq.isSome then [] else bufFwd (k.s.bufAhead k.cid) (.glob p.2) n } : AccItem))
      ∃ t', exec i s = .next t'
        ∧ k.isPending t' (.access { op := .load, type := t, size := n, acq, imm := acq.isSome, items, dest, since := s.now }) zeros
        ∧ t'.dram = s.dram ∧ t'.sram = s.sram ∧ (t'.course k.cid).sameValues k.c
    let toV := Dest.v x.vd.toNat (x.nwb ≠ 0)
    let toS := if x.nwb ≠ 0 then Dest.none else Dest.s (k.skey x.vd.toNat)
    let zeros := k.writeV t []
    issues (.vldX x) (vector (linear 0)) toV zeros
    ∧ issues (.vldXl x lit) (vector (linear lit)) toV zeros
    ∧ issues (.vldx x) (vector indexed) toV zeros
    ∧ issues (.sldX x) (scalar 0) toS []
    ∧ issues (.sldXl x lit) (scalar lit) toS []

/-- 17 R469 to R471, 09 R272, 10 R286, 11 R318: a store whose lanes reach memory first forces the nodes that it overlaps, waiting while one
is still running; then the bytes of its mapped lanes, but for those whose sector has no place yet, stand in its course's buffer, in
program order and lane order, the other lanes stay to be performed, all of them behind an outstanding .ACQ (R296), and no byte of memory
changes. -/
def Claims.GlobalStores : Prop :=
  ∀ (s : State) (k : Ctx) (x : XFields) (lit : Word),
    let t := x.type.toNat
    let n := typeSize t
    let shift := (x.ext.extractLsb' 0 3).toNat
    let linear := fun (off : Word) (l : Nat) =>
      (k.srcP x.sa l + BitVec.ofNat 64 (if x.ext.extractLsb' 0 3 = 1 then n * (if k.lw then l % 16 else l) else 0) + off).toNat
    let index := fun (l : Nat) => if x.ext.extractLsb' 3 2 = 0 then (k.srcV x.sb l).setWidth 64
      else if x.ext.extractLsb' 3 2 = 1 then (k.srcV x.sb l).signExtend 64 else k.srcP x.sb l
    let indexed := fun (l : Nat) => (k.srcP x.sa l + index l * 2 ^ shift).toNat
    let vector := fun (addr data : Nat → Nat) =>
      k.lanes.map (fun l => ({ lane := l, loc := .glob (addr l), b := BitVec.ofNat 64 (data l) } : AccItem))
    let scalar := fun (off : Word) => [({ lane := 0, loc := .glob (k.srcS x.sa + off).toNat, b := k.srcS x.sb } : AccItem)]
    let va := fun (it : AccItem) => it.loc.addr.toNat
    let issues := fun (i : Instr) (its : List AccItem) =>
      let u := k.atlbTouch (its.map va)
      let r := u.s.forceItems k.cid its n k.pc s.nextKey
      let mapped := fun (it : AccItem) => k.mayLeave && (r.1.vd k.vdn).mapsAll (va it) n
      let q := (r.1.course k.cid).takeSeq k.half
      let left := ((r.1.setCourse k.cid q.2).bufferItems k.cid q.1 k.half n (its.filter mapped)).2
      s.issuer i = some k → k.reaches 2 n (its.map (fun it => (it.lane, va it))) = true →
      (r.2 = false → exec i s = .next ({ u with s := r.1 }).blocked)
      ∧ (r.2 = true → ∃ t', exec i s = .next t'
          ∧ k.isPending t' (.access { op := .store, type := t, size := n, items := left ++ its.filter (fun it => !mapped it), seq := q.1, half := k.half }) []
          ∧ left.Sublist (its.filter mapped)
          ∧ (t'.course k.cid).buf = (its.filter (fun it => mapped it && !left.contains it)).foldl
              (fun b it => bufElem k.lw b q.1 k.half it.lane it.loc (leBytes n it.b.toNat)) (r.1.course k.cid).buf
          ∧ t'.dram = r.1.dram ∧ t'.sram = r.1.sram
          ∧ (t'.course k.cid).sameRegisters (r.1.course k.cid))
    issues (.vstX x) (vector (linear 0) (k.srcT t x.sb))
    ∧ issues (.vstXl x lit) (vector (linear lit) (k.srcT t x.sb))
    ∧ issues (.vstx x) (vector indexed (k.srcT t x.sc))
    ∧ issues (.sstX x) (scalar 0)
    ∧ issues (.sstXl x lit) (scalar lit)

/-- 17 R469, R473, R474, 09 R279: a scratchpad load or store whose lanes lie in their windows issues over the crossbar, one item a lane; one
by route literal is a request to the bank of another cell, by the fabric where the route leaves the module and no earlier .ACQ is
outstanding (R296). -/
def Claims.ScratchpadAccesses : Prop :=
  ∀ (s : State) (k : Ctx) (x : XFields) (route : Word),
    let t := x.type.toNat
    let n := typeSize t
    let addr := fun (l : Nat) => ((k.srcV x.sa l).toNat + (if x.ext.extractLsb' 0 3 = 1 then n * (if k.lw then l % 16 else l) else 0)) % 2 ^ 32
    let as_ := k.lanes.map (fun l => (l, addr l))
    let acq := if x.ext.getLsbD 5 then some (x.ext.extractLsb' 6 3).toNat else none
    let toV := Dest.v x.vd.toNat (x.nwb ≠ 0)
    let zeros := k.writeV t []
    let data := fun (l : Nat) => BitVec.ofNat 64 (k.srcT t x.sb l)
    let half := if k.half = 0 then k.c.seq0 else k.c.seq1
    let away := decide (routeKind route = 1)
    let far := away && k.mayLeave
    let bench := routeBench route
    let cell := routeCell route
    let banked := k.lanes ≠ [] ∧ as_.all (fun p => (k.routedCause route n p.2).isNone) = true
    let requests := fun (i : Instr) (op : FabOp) (dest : Dest) (ws : List RegWrite) (u : Ctx) =>
      let r := u.issueAt k.next ws (.remote route op dest t none) far k.k0
      exec i s = .next (if far then r.1.request (dieOf k.g.bench) route k.vdn op none false (fun o => { o with course := some (k.cid, r.2) }) else r.1)
    (s.issuer (.pld x) = some k → k.inWindows true n as_ = true →
      let items := as_.map (fun p => ({ lane := p.1, loc := k.spadLoc n p.2 } : AccItem))
      ∃ t', exec (.pld x) s = .next t'
        ∧ k.isPending t' (.access { op := .load, type := t, size := n, acq, imm := acq.isSome, items, dest := toV }) zeros
        ∧ t'.dram = s.dram ∧ t'.sram = s.sram ∧ (t'.course k.cid).sameValues k.c)
    ∧ (s.issuer (.pst x) = some k → k.inWindows true n as_ = true →
      let items := as_.map (fun p => ({ lane := p.1, loc := k.spadLoc n p.2, b := data p.1 } : AccItem))
      ∃ t', exec (.pst x) s = .next t'
        ∧ k.isPending t' (.access { op := .store, type := t, size := n, items, seq := half, half := k.half }) []
        ∧ t'.dram = s.dram ∧ t'.sram = s.sram ∧ (t'.course k.cid).sameValues k.c)
    ∧ (s.issuer (.pldr x route) = some k → banked → requests (.pldr x route) (.bankLoad bench cell n as_) toV zeros k)
    ∧ (s.issuer (.pstr x route) = some k → banked →
      requests (.pstr x route) (.bankStore k.pc bench cell n (as_.map (fun p => (p.1, p.2, data p.1)))) .none []
        { k with s := if away then as_.foldl (fun s p => s.escape k.c.group 5 p.2) s else s })
    ∧ (s.issuer (.pldr x route) = some k → k.lanes = [] → exec (.pldr x route) s = .next (k.issue zeros))
    ∧ (s.issuer (.pstr x route) = some k → k.lanes = [] → exec (.pstr x route) s = .next (k.issue []))

/-- Loads, stores and scratchpad accesses: their addresses, their bytes and their frames: GlobalLoads, GlobalStores, ScratchpadAccesses. -/
def Obligations.LoadsAndStores : Prop :=
  Claims.GlobalLoads ∧ Claims.GlobalStores ∧ Claims.ScratchpadAccesses

/-- 17 R475 to R482: an atomic, a tag operation or a WAITA whose lanes reach memory issues, after the publication that .REL asks for when
that can be done, one indivisible item a lane, which the home performs later; a RATOM with a route is one request to another module; a
WAITA with a time has its end put down. -/
def Obligations.AtomicsAndTags : Prop :=
  ∀ (s : State) (k : Ctx) (x : XFields) (route : Word),
    let t := x.type.toNat
    let op := (x.ext.extractLsb' 0 4).toNat
    let scope := (x.ext.extractLsb' 6 3).toNat
    let acq := if x.ext.getLsbD 4 then some scope else none
    let need := if op = 0 then 1 else 3
    let ordered := fun (u : Ctx) (o : Out) (f : Ctx → State) =>
      let forced := u.s.forceBuffer k.cid k.pc
      let after := forced.1.release k.cid scope
      (x.ext.getLsbD 5 = false → o = .next (f u))
      ∧ (x.ext.getLsbD 5 = true → (forced.2 && forced.1.canPublish k.cid) = true → o = .next (f { u with s := after, c := after.course k.cid }))
      ∧ (x.ext.getLsbD 5 = true → (forced.2 && forced.1.canPublish k.cid) = false → o = .next ({ u with s := forced.1 }).blocked)
    let lanes := k.lanes.map (fun l => (l, (k.srcP x.sa l).toNat))
    let near := k.lanes.map (fun l => (l, (k.srcV x.sa l).toNat))
    let one := (k.srcS x.sa).toNat
    let touched := fun (as_ : List (Nat × Nat)) => k.atlbTouch (as_.map (·.2))
    let toV := Dest.v x.vd.toNat (x.nwb ≠ 0)
    let toS := if x.nwb ≠ 0 then Dest.none else Dest.s (k.skey x.vd.toNat)
    let access := fun (o : AccOp) (t : Nat) (items : List AccItem) (dest : Dest) =>
      Action.access { op := o, type := t, size := typeSize t, acq, imm := true, items, dest }
    let item := fun (u : Ctx) (loc : Nat → Loc) (p : Nat × Nat) =>
      ({ lane := p.1, loc := loc p.2, b := BitVec.ofNat 64 (u.srcT t x.sb p.1), c := BitVec.ofNat 64 (u.srcT t x.sc p.1) } : AccItem)
    let single := fun (u : Ctx) => [({ lane := 0, loc := .glob one, b := u.srcS x.sb, c := u.srcS x.sc } : AccItem)]
    let word := fun (u : Ctx) (p : Nat × Nat) => ({ lane := p.1, loc := .glob p.2, b := u.srcP x.sb p.1 } : AccItem)
    let silent := op = 1
    let tags := fun (i : Instr) (n need : Nat) (dest : Dest) (zeros : Ctx → List RegWrite) =>
      s.issuer i = some k → k.reaches need 8 lanes = true →
      ordered (touched lanes) (exec i s) (fun u => (u.issueAt k.next (zeros u) (access (.tag n) 7 (lanes.map (word u)) dest)).1)
    (s.issuer (.vatom x) = some k → k.reaches need (typeSize t) lanes = true →
      ordered (touched lanes) (exec (.vatom x) s) (fun u => (u.issueAt k.next (if silent then [] else u.writeV t [])
        (access (.atom op) t (lanes.map (item u .glob)) (if silent then .none else toV))).1))
    ∧ (s.issuer (.patom x) = some k → k.inWindows false (typeSize t) near = true →
      ordered k (exec (.patom x) s) (fun u => (u.issueAt k.next (if silent then [] else u.writeV t [])
        (access (.atom op) t (near.map (item u (k.spadLoc (typeSize t)))) (if silent then .none else toV)) (xbar := true)).1))
    ∧ (s.issuer (.ratomX x) = some k → k.reaches need (typeSize t) [(0, one)] = true →
      ordered (touched [(0, one)]) (exec (.ratomX x) s) (fun u => (u.issueAt k.next []
        (access (.atom op) t (single u) (if silent then .none else toS)) false k.k0).1))
    ∧ (s.issuer (.ratomXl x route) = some k → one < 2 ^ 57 → one % typeSize t = 0 → s.routeDead route = false →
      ordered k (exec (.ratomXl x route) s) (fun u =>
        ({ u with s := u.s.escape k.c.group 0 one }).issueRemote route
          (.ratom op t k.t.hdr.evm k.pc (k.srcS x.sa) (u.srcS x.sb) (u.srcS x.sc)) (if silent then .none else toS) acq []))
    ∧ tags (.feld x) 0 1 (.v x.vd.toNat false) (fun u => u.writeV 7 [])
    ∧ tags (.fest x) 1 2 .none (fun _ => [])
    ∧ tags (.fefill x) 2 2 .none (fun _ => [])
    ∧ tags (.feclr x) 3 2 .none (fun _ => [])
    ∧ tags (.feqry x) 4 1 (.k x.vd.toNat) (fun u => u.writeK [])
    ∧ (s.issuer (.waita x) = some k → k.reaches 1 (typeSize t) [(0, one)] = true →
      let limit := (k.srcS x.sc).toNat
      let items := [({ lane := 0, loc := .glob one, b := k.srcS x.sb } : AccItem)]
      let dest := Dest.s (k.skey x.vd.toNat)
      let wait := AccOp.waita op (if limit = 0 then none else some limit)
      let r := (touched [(0, one)]).issueAt k.next [] (.access { op := wait, type := t, size := typeSize t, acq, imm := true, items, dest, since := s.now }) false k.k0
      exec (.waita x) s = .next (if limit = 0 then r.1 else r.1.post (s.now + limit) .waitaTimeout (.course k.cid r.2 0 0)))

/-- 17 R483 to R492: PHASE and BAR make their split wait at the boundary, which completes at once when everything it waits for holds; BARX
counts P; FENCE publishes the buffer, refreshes the view, or both; IFENCE and ICINV end the old code bytes of the course, or of every
course of the device at the scope, where a stale loop buffer may give 64 more instructions; SBMODE gives an unused bank its new mode and
empties it, and faults on an engine-owned granule. -/
def Obligations.Synchronisation : Prop :=
  ∀ (s : State) (k : Ctx) (x : XFields),
    let scope := (x.ext.extractLsb' 0 3).toNat
    let arrives := fun (i : Instr) (bar : Bool) =>
      s.issuer i = some k →
      (k.k0 = 0 → exec i s = .next (k.issue []))
      ∧ (k.k0 ≠ 0 →
        let r := k.issueAt k.pc [] .boundary true
        let c := r.1.course k.cid
        let waiting := r.1.setCourse k.cid { c with splits := tset c.splits k.w { tgetD c.splits k.w {} with wait := .boundary scope bar r.2 } }
        exec i s = .next (waiting.settleSplits k.cid).settleBoundaries)
    let action := if x.ext.getLsbD 4 then Action.refresh scope else .none
    let forced := s.forceBuffer k.cid k.pc
    let mode := if x.ext.extractLsb' 0 2 = 0 then BankMode.cache else if x.ext.extractLsb' 0 2 = 1 then .spad
      else if x.ext.extractLsb' 0 2 = 2 then .fifo else .spill
    let bank := (x.ext.extractLsb' 2 4).toNat
    arrives (.phase x) false ∧ arrives (.bar x) true
    ∧ (s.issuer (.barx x) = some k →
      let p := k.g.p + (k.srcS x.sa).setWidth 56
      let u := k.issue [.s (k.skey x.vd.toNat) (p.signExtend 64)]
      exec (.barx x) s = .next (u.setGroup k.c.group { u.group k.c.group with p }).settleBoundaries)
    ∧ (s.issuer (.fence x) = some k → x.ext.getLsbD 3 = false → exec (.fence x) s = .next (k.issueAt k.next [] action).1)
    ∧ (s.issuer (.fence x) = some k → x.ext.getLsbD 3 = true → (forced.2 && forced.1.canPublish k.cid) = true →
      exec (.fence x) s = .next ({ k with s := forced.1.release k.cid scope }.issueAt k.next [] action).1)
    ∧ (s.issuer (.fence x) = some k → x.ext.getLsbD 3 = true → (forced.2 && forced.1.canPublish k.cid) = false →
      exec (.fence x) s = .next { k with s := forced.1 }.blocked)
    ∧ (s.issuer (.ifence x) = some k →
      exec (.ifence x) s = .next ((k.issue []).setCourse k.cid { (k.issue []).course k.cid with staleI := [], loop := 0, loopI := [] }))
    ∧ (s.issuer (.icinv x) = some k → ∃ t, exec (.icinv x) s = .next t
      ∧ t = { k.issue [] with courses := t.courses }
      ∧ ∀ cid c, tget (k.issue []).courses cid = some c →
        let reached := (k.issue []).vdOf cid = k.vdn ∧ (k.issue []).coreInScope k.cid cid scope = true
        (¬ reached → tget t.courses cid = some c)
        ∧ (reached → ∃ d, tget t.courses cid = some d ∧ d.sameRegisters c ∧ d.buf = c.buf ∧ d.stale = c.stale ∧ d.staleI = []
          ∧ (d.loop = c.loop ∨ c.loop = 0 ∧ d.loop = 64 ∧ d.loopI = c.staleI)))
    ∧ (∀ n, s.issuer (.sbmode x) = some k → bank < k.g.banks.length → s.engineGranule k.c.group bank = some n →
      exec (.sbmode x) s = .next (k.fault 0x0f 0 (BitVec.ofNat 64 (n * 4096)) 0 k.k0))
    ∧ (s.issuer (.sbmode x) = some k → bank < k.g.banks.length → s.engineGranule k.c.group bank = none →
      exec (.sbmode x) s = .next (if s.bankBusy k.c.group bank = true then k.blocked else (k.issue []).switchBank k.c.group bank mode))
    ∧ (s.issuer (.sbmode x) = some k → k.g.banks.length ≤ bank →
      exec (.sbmode x) s = .next (k.fault 0x0f 0 (BitVec.ofNat 64 bank) 0 k.k0))

/-- 10 R290, R291, R303: at a phase boundary each byte takes one store, the one of the course of greatest rank among those that stored to
it, and no store that the boundary does not commit. -/
def Obligations.BoundaryWinners : Prop :=
  ∀ (s : State) (scope : Nat) (cs : List Nat),
    let stored := fun (c : Nat) (e : BufStore) => c ∈ cs ∧ e ∈ (s.course c).buf ∧ s.commits c scope e = true
    (∀ p ∈ s.winners scope cs, stored p.1 p.2 ∧ ∀ c e, stored c e → s.target c e.loc = s.target p.1 p.2.loc → s.rank c ≤ s.rank p.1)
    ∧ (∀ c e, stored c e → ∃ p ∈ s.winners scope cs, s.target p.1 p.2.loc = s.target c e.loc)
    ∧ (s.winners scope cs).Pairwise (fun p q => s.target p.1 p.2.loc ≠ s.target q.1 q.2.loc)

/-- 18 R499: GDEF and GVIEW put the tensor that their operand describes into an identifier when every check of 11 R312 passes, and
SCRATCH_RANGE otherwise; GREL empties an identifier. -/
def Claims.TensorIdentifiers : Prop :=
  ∀ (s u : State) (k : Ctx) (x : XFields) (l : List Byte) (t : Tensor),
    let spad := x.ext.getLsbD 0
    let gd := x.vd.toNat % 64
    let base := tgetD k.g.tensors (x.sa.toNat % 64) {}
    let defines := fun (o : Out) => o = .next (({ k with s := u }.issueAt k.next [] .none).1.setTensor k.c.group gd t)
    let refuses := fun (a : Word) (o : Out) => o = .next ({ k with s := u }.fault 0x0f 0 a 0 k.k0)
    (s.issuer (.gdef x) = some k → k.readOperand spad (k.srcS x.sa) 128 = .bytes u l →
      (descriptor l = some t → t.good k.g.win = true → defines (exec (.gdef x) s))
      ∧ (descriptor l = none ∨ (descriptor l = some t ∧ t.good k.g.win = false) → refuses (k.srcS x.sa) (exec (.gdef x) s)))
    ∧ (s.issuer (.gview x) = some k → base.isEmpty = false → k.readOperand spad (k.srcS x.sb) 40 = .bytes u l →
      (viewOf base l = some t → t.good k.g.win = true → defines (exec (.gview x) s))
      ∧ (viewOf base l = none ∨ (viewOf base l = some t ∧ t.good k.g.win = false) → refuses (BitVec.ofNat 64 gd) (exec (.gview x) s)))
    ∧ (s.issuer (.grel x) = some k → exec (.grel x) s = .next ((k.issue []).setTensor k.c.group gd {}))

/-- 11 R315 to R318, 18 R500 to R503: TLOAD, TMMA, TEW, TRED and TCVT on tensors that pass their checks append a node: at once after the
forcings that its destination and its room need, and behind the course's earlier instructions that wait for the cell. -/
def Claims.TileNodes : Prop :=
  ∀ (s : State) (k : Ctx) (x : XFields),
    let d := tgetD k.g.tensors (x.vd.toNat % 64) {}
    let a := tgetD k.g.tensors (x.sa.toNat % 64) {}
    let b := tgetD k.g.tensors (x.sb.toNat % 64) {}
    let appends := fun (i : Instr) (op sub : Nat) (two acc : Bool) =>
      s.issuer i = some k → d.isEmpty = false → a.isEmpty = false → (two = true → b.isEmpty = false) →
      nodeBad op sub d a (if two then b else {}) = none → overlapBad k.c.group k.vdn op d a = false →
      (two = true → overlapBad k.c.group k.vdn op d b = false) →
      let n : Node := { op, sub, sat := x.sat ≠ 0, acc, d, s1 := some a, s2 := if two then some b else none, course := k.cid, batch := k.g.nextBatch,
                        pc := k.pc, pcOther := s.nodeSite k.t k.c.prof k.pc, prof := k.c.prof, trapmask := k.c.trapmask }
      let u := k.issueAt k.next [] (.engine (.append n)) true
      let v := u.1.appendNode k.cid u.2 n
      (k.arrayBusy = true → exec i s = .next (k.issueAt k.next [] (.engine (.append n))).1)
      ∧ (k.arrayBusy = false → v.2 = true → exec i s = .next v.1)
      ∧ (k.arrayBusy = false → v.2 = false → exec i s = .next (v.1.postOnce (v.1.now + 1) .instructionComplete (.course k.cid u.2 0 0)))
    let op := (x.ext.extractLsb' 0 6).toNat
    appends (.tload x) 0 0 false false
    ∧ appends (.tmma x) 1 0 true (x.ext.getLsbD 0)
    ∧ appends (.tew x) 2 op (decide (op ∈ [1, 2, 3, 4, 5, 7, 8, 9, 14])) false
    ∧ appends (.tred x) 3 (x.ext.extractLsb' 0 2).toNat false false
    ∧ appends (.tcvt x) 4 0 false false

/-- 11 R324, R325, R330, 18 R504 to R507: a demand closes the open batch, gives its number to sd and is evaluated from the next tick on; one
that reaches a failed node kills its course; TWAIT waits for a batch that was closed; TDROP drops what it can; TQRY reads the counters. -/
def Claims.TileDemands : Prop :=
  ∀ (s : State) (k : Ctx) (x : XFields),
    let sd := k.skey x.vd.toNat
    let scope := (x.ext.extractLsb' 6 3).toNat
    let ta := tgetD k.g.tensors (x.sa.toNat % 64) {}
    let tb := tgetD k.g.tensors (x.sb.toNat % 64) {}
    let demands := fun (u : Ctx) (g : Tensor) (box : TBox) (store : Option (Tensor × Nat)) (o : Out) =>
      let b := u.g.closeBatch
      (u.arrayBusy = true → o = .next u.blocked)
      ∧ (u.arrayBusy = false → ∀ st, u.s.demandFails k.c.group g box = some st → o = .next (u.s.killCourse k.cid st))
      ∧ (u.arrayBusy = false → u.s.demandFails k.c.group g box = none → boxEmpty box = true →
        o = .next ((u.issueBeside sd (BitVec.ofNat 64 u.g.nextBatch) .none false).1.setGroup k.c.group b.2))
      ∧ (u.arrayBusy = false → u.s.demandFails k.c.group g box = none → boxEmpty box = false →
        let r := u.issueBeside sd (BitVec.ofNat 64 u.g.nextBatch) (.batch u.g.nextBatch) true
        let d : Demand := { batch := u.g.nextBatch, course := k.cid, g, box, pc := k.pc, store, scope, issued := r.2 }
        o = .next ((r.1.setGroup k.c.group
          { b.2 with demands := u.g.demands ++ [d] }).postOnce (s.now + 1) .nodeEvaluate (.nat k.c.group 0 0)))
    let batch := (k.srcS x.sa).toNat
    let dropped := k.issueAt k.next [] (.engine (.drop ta)) true
    (s.issuer (.tforce x) = some k → ta.isEmpty = false → demands k ta (k.box x.sb ta) none (exec (.tforce x) s))
    ∧ (s.issuer (.tstore x) = some k → ta.isEmpty = false → tb.isEmpty = false → ta.fmt = tb.fmt → ta.fmt ≠ 12 → sameView ta tb = true →
      demands k tb (k.box x.sc tb) (some (ta, scope)) (exec (.tstore x) s))
    ∧ (s.issuer (.twait x) = some k → exec (.twait x) s = .next (if k.g.wasClosed batch
        then (k.issueAt k.next [] (.twait batch sd)).1 else k.issue [.s sd 1]))
    ∧ (s.issuer (.tdrop x) = some k → ta.isEmpty = false → exec (.tdrop x) s = .next (if k.arrayBusy
        then (k.issueAt k.next [] (.engine (.drop ta))).1 else (dropped.1.dropNodes 64 k.c.group ta).endPend k.cid dropped.2))
    ∧ (s.issuer (.tqry x) = some k → exec (.tqry x) s = .next (k.issue [.s sd (s.tqryWord k.c.group (x.ext.extractLsb' 0 4).toNat)]))

/-- Tensor identifiers, tile nodes, demands, waits and queries: TensorIdentifiers, TileNodes, TileDemands. -/
def Obligations.TileInstructions : Prop :=
  Claims.TensorIdentifiers ∧ Claims.TileNodes ∧ Claims.TileDemands

/-- 11 R315, R318, R323, R328: a node whose destination no pending node touches, with a free index and room in the cell's CAM, is appended
under the lowest free index, and nothing else changes but what the instruction itself holds. -/
def Obligations.NodeAppended : Prop :=
  ∀ (s : State) (cid pend i : Nat) (n : Node),
    let gk := (s.course cid).group
    let g := s.group gk
    let r : NodeRef := { gk, idx := 0, vd := s.vdOf cid, n }
    s.forceRanges g.bench g.cell (r.ranges n.d) { pc := n.pc, course := some cid, issued := some pend } = (s, true) → g.freeNode = some i → s.camUsed g.bench g.cell + n.camEntries ≤ 64 →
    ∃ t dead, s.appendNode cid pend n = (t, true)
      ∧ t.group gk = { g with nodes := tset g.nodes i { n with seq := s.nextKey, batch := g.nextBatch, forced := none }, dead }
      ∧ (∀ h, h ≠ gk → t.group h = s.group h)
      ∧ t = { s with groups := t.groups, courses := t.courses, nextKey := s.nextKey + 1 }
      ∧ t.course cid = { s.course cid with pends := (s.course cid).pends.filter (fun q => q.id ≠ pend) }
      ∧ ∀ c, c ≠ cid → t.course c = s.course c

/-- 18 R497, R508 to R513: LSTAT, LSWAP, MSTRM, MDRAIN, BTAKE and BPASS issue an operation that waits for the bow and is done in issue
order; MSTRM first asks for the bow; OWNSET flips granules when all of its range can be flipped; OWNQ reads 64 owner bits. -/
def Obligations.ArrayInstructions : Prop :=
  ∀ (s : State) (k : Ctx) (x : XFields),
    let t := x.type.toNat
    let a := (k.srcS x.sa).toNat % 2 ^ 32
    let sc := fun (f : BitVec 8) => if f = 244 then none else some (k.srcS f)
    let low := fun (o : Option Word) => o.map (fun a => a.toNat % 2 ^ 32)
    let prm := k.srcS x.sb
    let r0 := (prm.extractLsb' 0 8).toNat
    let rows := (prm.extractLsb' 8 8).toNat + 1
    let c0 := (prm.extractLsb' 16 7).toNat
    let cols := (prm.extractLsb' 24 7).toNat + 1
    let issues := fun (op : ArrayOp) => (.next (k.issueAt k.next [] (.array op)).1 : Out)
    let w := (k.srcS x.sa).toNat % 2 ^ 32
    let n := (k.srcS x.sb).toNat
    let engine := x.ext.getLsbD 0
    let flips := k.issueAt k.next [] (.engine (.own engine (granulesAt w n))) true
    let flipped := flips.1.ownSet k.cid flips.2 engine (granulesAt w n)
    (s.issuer (.lstat x) = some k → k.rangeFault (planeBytes t) 64 (k.srcS x.sa) = none → k.scaleFault (decide (t = 12)) (sc x.sb) 768 = none →
      exec (.lstat x) s = issues (.lstat t a (low (sc x.sb))))
    ∧ (s.issuer (.lswap x) = some k → exec (.lswap x) s = issues .lswap)
    ∧ (s.issuer (.mstrm x) = some k → s.holdsBow k.cid = false → exec (.mstrm x) s = .next { k with s := s.wantBow k.cid }.blocked)
    ∧ (s.issuer (.mstrm x) = some k → s.holdsBow k.cid = true → k.arrayBusy = true → exec (.mstrm x) s = .next k.blocked)
    ∧ (s.issuer (.mstrm x) = some k → s.holdsBow k.cid = true → k.arrayBusy = false → k.streamFault t (k.srcS x.sa) prm (sc x.sc) = none →
      exec (.mstrm x) s = issues (.mstrm t engine a r0 rows c0 (low (sc x.sc))))
    ∧ (s.issuer (.mdrain x) = some k → prm.toNat < 2 ^ 31 → prm.getLsbD 23 = false → r0 + rows ≤ 256 → c0 + cols ≤ 128 →
      k.rangeFault (rows * cols * typeSize t) 64 (k.srcS x.sa) = none →
      exec (.mdrain x) s = issues (.mdrain t x.rm.toNat (x.sat ≠ 0) engine a r0 rows c0 cols))
    ∧ (s.issuer (.btake x) = some k → exec (.btake x) s = .next ((k.issueAt k.next [] (.array .take)).1.wantBow k.cid))
    ∧ (s.issuer (.bpass x) = some k → exec (.bpass x) s = issues .pass)
    ∧ (s.issuer (.ownset x) = some k → w < 2 ^ 21 → w + n ≤ k.g.win → w % 4096 = 0 → n % 4096 = 0 →
      exec (.ownset x) s = .next (if k.arrayBusy then (k.issueAt k.next [] (.engine (.own engine (granulesAt w n)))).1
        else if flipped.2 then flipped.1 else flipped.1.postOnce (flipped.1.now + 1) .instructionComplete (.course k.cid flips.2 0 0)))
    ∧ (s.issuer (.ownq x) = some k → w < 2 ^ 21 → w < k.g.win → w % 4096 = 0 → ∃ v : BitVec 64,
      exec (.ownq x) s = .next (k.issue [.s (k.skey x.vd.toNat) v])
      ∧ ∀ i, i < 64 → v.getLsbD i = (s.holder k.c.group (w / 4096 + i)).isSome)

/-- 18 R514 to R518, 11 R335: a COPY or a COPYM whose operands pass their checks starts a copy, at once when the granules of its range can
all become engine-owned, and behind the course's earlier instructions that wait for the cell; a COPY of no byte is done at once; a COPYM
first takes the bow. -/
def Obligations.CopyInstructions : Prop :=
  ∀ (s : State) (k : Ctx) (x : XFields) (route : Word) (rs : List Nat),
    let aux := k.srcS x.vd
    let sa := (k.srcS x.sa).toNat
    let sb := (k.srcS x.sb).toNat % 2 ^ 32
    let n := (k.srcS x.sc).toNat
    let out := x.ext.getLsbD 0
    let mc := x.ext.getLsbD 1
    let fill := x.ext.getLsbD 3
    let starts := fun (c : Copy) (o : Out) =>
      let op := EngineOp.copy c sa sb n
      let u := k.issueAt k.next [] (.engine op) true
      let v := u.1.beginCopy k.cid u.2 c sa sb n
      (k.arrayBusy = true → o = .next (k.issueAt k.next [] (.engine op)).1)
      ∧ (k.arrayBusy = false → o = .next (if v.2 then v.1 else v.1.postOnce (v.1.now + 1) .instructionComplete (.course k.cid u.2 0 0)))
    let mine : Copy := { course := k.cid, group := k.c.group, pc := k.pc, prof := k.c.prof, trapmask := k.c.trapmask, bd := x.ext.getLsbD 2 }
    let copies := fun (i : Instr) (far : Option Word) =>
      s.issuer i = some k →
      (mc = true → aux.extractLsb' 8 24 = 0 ∧ (fill = false → aux.extractLsb' 32 32 = 0) ∧ k.receivers (aux.toNat % 256) = some rs) →
      (mc = false → rs = [] ∧ (fill = true → aux.extractLsb' 0 32 = 0)) →
      ((out && fill) = false → sb < 2 ^ 21 ∧ k.winFits (if rs.isEmpty then [k.c.group] else insertNat rs k.c.group) sb n = true) →
      sa % 4 = 0 → sb % 4 = 0 → n % 4 = 0 → (∀ r, far = some r → s.routeDead r = false) →
      (n = 0 → exec i s = .next (k.issue []))
      ∧ (n ≠ 0 → starts { mine with out, mc, far, recv := rs, scope := (x.ext.extractLsb' 6 3).toNat,
                                    fill := if fill then some (aux.extractLsb' 32 32) else none } (exec i s))
    let plane := (s.cell (cellKey k.g.bench k.g.cell)).plane.fmt
    let scale := (aux.extractLsb' 32 21).toNat
    let rows := (aux.extractLsb' 8 8).toNat + 1
    let streams := fun (i : Instr) (far : Option Word) =>
      s.issuer i = some k →
      (s.holdsBow k.cid = false → exec i s = .next { k with s := s.wantBow k.cid }.blocked)
      ∧ (s.holdsBow k.cid = true → k.arrayBusy = false → aux.extractLsb' 24 8 = 0 → aux.extractLsb' 53 11 = 0 → (plane ≠ some 12 → scale = 0) →
        sb < 2 ^ 21 → k.winFits [k.c.group] sb n = true →
        k.streamFault x.type.toNat (k.srcS x.sb) ((aux.extractLsb' 0 23).setWidth 64) (if plane = some 12 then some (BitVec.ofNat 64 scale) else none) = none →
        rows * planeK (plane.getD 0) * typeSize x.type.toNat ≤ n → sa % 4 = 0 → n % 4 = 0 → (∀ r, far = some r → s.routeDead r = false) →
        starts { mine with far, follow := some (x.type.toNat, BitVec.ofNat 64 sb, aux) } (exec i s))
    copies (.copyX x) none ∧ copies (.copyXl x route) (some route)
    ∧ streams (.copymX x) none ∧ streams (.copymXl x route) (some route)

/-- 06 R161 to R166, R171, R175, R177: a fault of a course stops the course under the record that its die gives, with the fields of R166:
its fault task waits (PARKED) or stands in the fault queue (DELIVERED); a course that can have none (R177) is killed, and so is one
whose deadline has passed. -/
def Obligations.FaultEntry : Prop :=
  ∀ (s : State) (cid split cause event : Nat) (addr cx : Word) (mask : LaneMask) (pc nextpc : Word) (pend : Option Nat),
    s.sec.dbg = [] → (s.course cid).alive = true →
    let c := s.course cid
    let g := s.group c.group
    let t := s.task g.task
    let die := g.bench / 16
    let drawn := s.draw die t.nest (decide (cause = 3 ∨ cause = 0x12))
    let u := s.parkCourse cid split cause event addr cx mask pc nextpc pend
    let kills := fun (n : Nat) => u = s.killCourse cid n
    let passed := c.passed = true ∨ t.passed = true ∨ s.isPast c.deadline = true
    let taskq := BitVec.ofNat 64 ((s.queueHandle t.queue).toNat - (s.queue t.queue).gen + t.qgen)
    let faultq := match s.findQueue taskq with
      | some q => (s.queue q).faultq
      | none => 0
    let record := fun (k : Nat) => ({
      gen := (s.record k).gen, used := true, kind := 0, cause, event, nest := t.nest, stage := 1, prof := c.prof, bv := c.bridge.isSome
      late := pend.isSome, unit := BitVec.ofNat 64 (g.bench * 4096 + g.cell * 256 + (if c.dcore then 128 else 0) + c.slot)
      addr, pc, nextpc, bpc := (c.bridge.map (·.1)).getD 0, bid := (c.bridge.map (·.2)).getD 0xffff, split, mask, deadline := c.deadline
      passed := false, taskq, taskidx := t.idx, parent := if t.nest = 1 then t.record else 0, cx, vd := t.vd, task := g.task, uA := cid
      pend, parkedAt := s.now } : PRec)
    let parked := fun (k : Nat) => ({ c.stopped t.interlock with st := .parked (k / 16384) (k % 16384) } : Course)
    (passed → (drawn = .wait ∨ ∃ k, drawn = .record k) → kills 2)
    ∧ (drawn = .nestKill → kills 7)
    ∧ (¬passed → drawn = .wait → (u.course cid).st = .waiting ∧ ∃ r, (u.die die).waiting = (s.die die).waiting ++ [r] ∧ r.uA = cid ∧ r.cause = cause ∧ r.pc = pc)
    ∧ ∀ k, ¬passed → drawn = .record k →
      (s.record k).used = false
      ∧ (faultq = 0 → (u.course cid).st = .killed 1 ∧ (u.record k).used = false)
      ∧ ∀ fk, faultq ≠ 0 → s.findQueue faultq = some fk →
        ((s.queue fk).st = .draining → (u.course cid).st = .killed 1 ∧ (u.record k).used = false)
        ∧ ((s.queue fk).st = .error ∨ (s.queue fk).st = .stopped →
          u.record k = record k ∧ u.course cid = parked k
          ∧ u = { s with courses := u.courses, recs := u.recs, agenda := u.agenda }
          ∧ (∀ d, d ≠ cid → u.course d = s.course d) ∧ (∀ j, j ≠ k → u.record j = s.record j))
        ∧ (let q := s.queue fk
           let slot := q.base.toNat + 128 * (q.tail % 2 ^ q.size)
           let v := s.vd q.vd
           q.st = .active → q.inited = true → (q.tail + 2 ^ 32 - q.head) % 2 ^ 32 < 2 ^ q.size →
           (∀ p ∈ s.recs, p.2.used = true → p.2.stage = 1 → p.2.parkedAt < s.now → s.faultQueueOf p.1 ≠ faultq) →
           (v.mapsAll slot 128 && v.mapsAll q.tailva.toNat 8 && v.allows slot 128 1 && v.allows q.tailva.toNat 8 1) = true →
           u.record k = { record k with stage := 2 } ∧ (u.course cid).st = .parked (k / 16384) (k % 16384)
           ∧ (u.queue fk).tail = (q.tail + 1) % 2 ^ 32 ∧ u.sram = s.sram)

/-- 06 R172: the fault task of a record: its 128 bytes, written at the fault queue's TAIL, and TAIL + 1 in the tail word after it; the
record is DELIVERED. -/
def Obligations.FaultTask : Prop :=
  ∀ (s : State) (fk k : Nat),
    let q := s.queue fk
    let r := s.record k
    let l := s.faultTask q k
    let v := s.vd q.vd
    let slot := q.base.toNat + 128 * (q.tail % 2 ^ q.size)
    let tail := (q.tail + 1) % 2 ^ 32
    let written := (s.pokeVA q.vd none 3 slot l).pokeVA q.vd none 3 q.tailva.toNat (leBytes 8 tail)
    ((v.mapsAll slot 128 && v.mapsAll q.tailva.toNat 8 && v.allows slot 128 1 && v.allows q.tailva.toNat 8 1) = true →
      s.writeFaultTask fk k = (written.setQueue fk { q with tail }).setRecord k { (written.setQueue fk { q with tail }).record k with stage := 2 })
    ∧ l.length = 128
    ∧ fieldB l 0 1 = 2 ∧ fieldB l 1 1 = q.prio % 256 ∧ fieldB l 2 2 = 2
    ∧ fieldB l 4 6 = q.tDeadline % 2 ^ 48 ∧ fieldB l 10 5 = q.tBudget % 2 ^ 40 ∧ fieldB l 15 1 = 0
    ∧ fieldB l 16 8 = q.tEntry.toNat ∧ fieldB l 24 8 = q.tExtents.toNat
    ∧ fieldB l 32 8 = (s.recHandle k).toNat
    ∧ (r.cause < 256 → r.event < 16 → r.kind < 16 → r.nest < 3 → let a := BitVec.ofNat 64 (fieldB l 40 8)
        (a.extractLsb' 0 8).toNat = r.cause ∧ (a.extractLsb' 8 4).toNat = r.event ∧ (a.extractLsb' 12 4).toNat = r.kind
        ∧ (a.extractLsb' 16 2).toNat = r.nest + 1 ∧ a.extractLsb' 18 46 = 0)
    ∧ fieldB l 48 8 = r.addr.toNat ∧ fieldB l 56 8 = r.pc.toNat ∧ fieldB l 64 8 = r.taskq.toNat
    ∧ ∀ i, 72 ≤ i → i < 128 → fieldB l i 1 = 0

/-- 06 R174, R176: PKACT on the record of a course. RESUME goes on at NEXTPC, or at the instruction after PC for an issue fault; of a late
fault, lanes outside MASK that still wait go on. RETRY of an issue fault goes on at PC, one of a late fault performs its lanes again;
REDIRECT goes on at TARGET; KILL kills the course; RESUME and RETRY of BUDGET add the grant first. Every action that is taken frees the
record. -/
def Obligations.ReturnFromFault : Prop :=
  ∀ (s : State) (k : Nat),
    let r := s.record k
    let c := s.course r.uA
    let back := if (s.group c.group).saved = true then CourseSt.saved else .running
    let own := match r.pend with
      | some n => c.pends.find? (fun p => p.id = n)
      | none => none
    let rest := match r.pend with
      | some n => c.pends.filter (fun p => p.id ≠ n)
      | none => c.pends
    let goes := fun (t : State) (c' : Course) => t.course r.uA = c' ∧ (t.record k).used = false ∧ (t.record k).gen ≠ r.gen
      ∧ (∀ d, d ≠ r.uA → t.course d = s.course d) ∧ t.dram = s.dram ∧ t.sram = s.sram
    let at_ := fun (pc : Word) (ps : List Pend) => ({ c with
      st := back, pends := ps, splits := tmod c.splits r.split (fun sp => { sp with pc, wait := .run }) } : Course)
    r.used = true → r.kind = 0 → r.gen < 2 ^ 32 →
    (r.cause ≠ 0x0d → r.late = true → own.bind (fun p => s.leftLanes r.uA p r.mask) = none →
      (s.actCourse k 0).2 = 0 ∧ goes (s.actCourse k 0).1 { c with st := back, pends := rest })
    ∧ (∀ p, r.cause ≠ 0x0d → r.late = true → own.bind (fun p => s.leftLanes r.uA p r.mask) = some p →
      (s.actCourse k 0).2 = 0 ∧ goes (s.actCourse k 0).1 { c with st := back, pends := c.pends.map (fun q => if q.id = p.id then p else q) })
    ∧ (r.cause ≠ 0x0d → r.late = false →
      (s.actCourse k 0).2 = 0 ∧ goes (s.actCourse k 0).1 (at_ (r.pc + BitVec.ofNat 64 (s.lengthAt r.uA r.pc.toNat)) c.pends))
    ∧ (r.cause ≠ 0x0d → own = none → (s.actCourse k 1).2 = 0 ∧ goes (s.actCourse k 1).1 (at_ r.pc c.pends))
    ∧ (∀ p a, r.cause ≠ 0x0d → own = some p → p.act = .access a → (s.actCourse k 1).2 = 0
      ∧ goes (s.actCourse k 1).1 { c with st := back, pends := c.pends.map (fun q => if q.id = p.id then { p with late := none } else q) })
    ∧ (r.target.toNat % 4 ≠ 0 → s.actCourse k 2 = (s, 3))
    ∧ (r.target.toNat % 4 = 0 → (s.actCourse k 2).2 = 0 ∧ goes (s.actCourse k 2).1 (at_ r.target rest))
    ∧ (s.actCourse k 3 = (s.killUnit k 1, 0))
    ∧ (∀ a, a = 0 ∨ a = 1 → r.cause = 0x0d → (s.actCourse k a).2 = 0 ∧ goes (s.actCourse k a).1 { c with st := back }
      ∧ ((s.actCourse k a).1.task r.task).budget = (s.task r.task).budget.map (· + (r.cx.extractLsb' 0 40).toNat))

/-- 06 R164, R174, 18 R522 to R524: what a state access answers at the record's die: STALE for a handle that is not current, the word or the
registers it reads, BAD_FIELD for what PKWR may not write; only the record or the registers that it names change. -/
def Obligations.StateAccesses : Prop :=
  ∀ (s : State) (vdn k : Nat) (h v : Word) (off file rn : Nat) (lanes : LaneMask) (vals : List (Nat × Half)),
    let r := s.record k
    let c := s.course r.uA
    let finds := s.findRec h vdn = some k
    let found := fun (l : Nat) => ((vals.find? (fun p => p.1 = l)).map (·.2)).getD 0
    let sets := fun (ws : List RegWrite) => s.stateAccess vdn h (.pkvset file rn lanes vals v) = (s.setCourse r.uA (c.landAll ws), { status := 0 })
    (∀ op, s.findRec h vdn = none → s.stateAccess vdn h op = (s, { status := 1 }))
    ∧ (finds → s.stateAccess vdn h (.pkrd off) = (s, { status := 0, value := BitVec.ofNat 64 (fieldB (s.recBytes k) off 8) }))
    ∧ (finds → s.stateAccess vdn h (.pkwr 24 v) = (s.setRecord k { r with addr := v }, { status := 0 })
      ∧ s.stateAccess vdn h (.pkwr 104 v) = (s.setRecord k { r with target := v }, { status := 0 })
      ∧ s.stateAccess vdn h (.pkwr 112 v) = (s.setRecord k { r with user := v }, { status := 0 })
      ∧ (r.cause = 0x0d → v.toNat < 2 ^ 40 → s.stateAccess vdn h (.pkwr 120 v) = (s.setRecord k { r with cx := v }, { status := 0 })))
    ∧ (finds → r.cause = 0x0d → 2 ^ 40 ≤ v.toNat → s.stateAccess vdn h (.pkwr 120 v) = (s, { status := 3 }))
    ∧ (finds → off ≠ 24 → off ≠ 104 → off ≠ 112 → (off ≠ 120 ∨ r.cause ≠ 0x0d) → s.stateAccess vdn h (.pkwr off v) = (s, { status := 3 }))
    ∧ (finds → s.regStatus k file rn ≠ 0 → s.stateAccess vdn h (.pkvget file rn lanes) = (s, { status := s.regStatus k file rn })
      ∧ s.stateAccess vdn h (.pkvset file rn lanes vals v) = (s, { status := s.regStatus k file rn }))
    ∧ (finds → s.regStatus k file rn = 0 →
      (file = 0 → s.stateAccess vdn h (.pkvget 0 rn lanes) = (s, { status := 0, lanes := (lanesOf lanes).map (fun l => (l, tgetD c.v (rn * 32 + l) 0)) }))
      ∧ (file = 1 → s.stateAccess vdn h (.pkvget 1 rn lanes) = (s, { status := 0, value := tgetD c.s rn 0 }))
      ∧ (file = 2 → s.stateAccess vdn h (.pkvget 2 rn lanes) = (s, { status := 0, value := (tgetD c.k rn 0).setWidth 64 }))
      ∧ (file = 3 → s.stateAccess vdn h (.pkvget 3 rn lanes) = (s, { status := 0, lanes := (lanesOf lanes).map (fun l => (l, tgetD c.b (rn * 32 + l) 0)) }))
      ∧ (file = 0 → sets ((lanesOf lanes).map (fun l => .v rn l (found l))))
      ∧ (file = 1 → sets [.s rn v])
      ∧ (file = 2 → sets [.k rn 0xffffffff (v.setWidth 32)])
      ∧ (file = 3 → sets ((lanesOf lanes).map (fun l => .b rn l (found l)))))

/-- 18 R519 to R525: ENQ, QSTAT, PKRD, PKWR, PKVGET, PKVSET and PKACT read their operands and issue a request to the die or the queue that
their handle names, over the fabric where that lies on another module; a handle that no route reaches is ROUTE_DEAD. -/
def Obligations.HandleInstructions : Prop :=
  ∀ (s u : State) (k : Ctx) (x : XFields) (l : List Byte),
    let reg := fun (n : Nat) => k.c.readS k.il k.free (k.skey n)
    let sh := reg (x.w1.extractLsb' 0 6).toNat
    let sv := reg (x.w1.extractLsb' 8 6).toNat
    let sv' := k.skey (x.w1.extractLsb' 8 6).toNat
    let vl := x.w1.extractLsb' 16 8
    let rn := (x.w1.extractLsb' 24 8).toNat
    let off := 8 * (x.ext.extractLsb' 0 5).toNat
    let file := (x.ext.extractLsb' 0 2).toNat
    let dest := k.skey x.vd.toNat
    let dead := fun (t : State) (h : Word) => (h.extractLsb' 52 12 ≠ s.fab.modid ∧ t.moduleRoute (h.extractLsb' 52 12).toNat = none)
    let park := fun (o : Out) => o = .next (k.fault 0x15 0 0 0 k.k0)
    let sends := fun (k : Ctx) (h : Word) (act : Action) (op : FabOp) =>
      let far := decide (h.extractLsb' 52 12 ≠ k.s.fab.modid) && k.mayLeave
      let r := k.issueAt k.next [] act far k.k0
      if far then (r.1.sendByHandle k.cid r.2 h op none false).getD r.1 else r.1
    let accesses := fun (i : Instr) (op : StateOp) =>
      s.issuer i = some k →
      (dead s sh → park (exec i s))
      ∧ (¬dead s sh → exec i s = .next (sends k sh (.state sh op dest sv' vl.toNat) (stateFab sh op)))
    let lanes := if file = 0 ∨ file = 3 then (lanesOf k.k0).map (fun l => (l, k.srcV vl l)) else []
    let q := k.srcS x.sa
    let enq := fun (k : Ctx) =>
      let far := decide (q.extractLsb' 52 12 ≠ k.s.fab.modid)
      sends (if far then { k with s := k.s.escape k.c.group 2 ((q.extractLsb' 34 30).toNat * 2 ^ 27) } else k) q (.enq q l dest) (.enq q l)
    let k' := { k with s := u, c := u.course k.cid }
    let forced := u.forceBuffer k.cid k.pc
    let after := forced.1.release k.cid k'.scope
    accesses (.pkrd x) (.pkrd off) ∧ accesses (.pkwr x) (.pkwr off sv) ∧ accesses (.pkvget x) (.pkvget file rn k.k0)
    ∧ accesses (.pkvset x) (.pkvset file rn k.k0 lanes (if file = 0 ∨ file = 3 then 0 else sv)) ∧ accesses (.pkact x) (.pkact file)
    ∧ (s.issuer (.qstat x) = some k →
      (dead s q → park (exec (.qstat x) s))
      ∧ (¬dead s q → exec (.qstat x) s = .next (sends k q (.qstat q (x.ext.extractLsb' 0 1).toNat dest) (.qstat q (x.ext.extractLsb' 0 1).toNat))))
    ∧ (s.issuer (.enq x) = some k → k.readOperand (x.ext.getLsbD 0) (k.srcS x.sb) 128 = .bytes u l → u.fab = s.fab →
      (dead u q → park (exec (.enq x) s))
      ∧ (¬dead u q → x.ext.getLsbD 1 = false → exec (.enq x) s = .next (enq k'))
      ∧ (¬dead u q → x.ext.getLsbD 1 = true → (forced.2 && forced.1.canPublish k.cid) = false → exec (.enq x) s = .next { k' with s := forced.1 }.blocked)
      ∧ (¬dead u q → x.ext.getLsbD 1 = true → (forced.2 && forced.1.canPublish k.cid) = true →
        exec (.enq x) s = .next (enq { k' with s := after, c := after.course k.cid })))

/-- 08 R231, R234, 09 R279, 10 R287, R294, 17 R471, R475: INSTRUCTION_COMPLETE of a pending instruction. Fixed results land, those of the
crossbar in its order; a plain load whose bytes are in memory, and in no older copy of its view, reads memory, and what it has read
lands at the next look at it; a lane of an atomic acts on its word at the home at once; the flag's count is released with the
instruction. An event that names no instruction still pending changes nothing. -/
def Obligations.InstructionCompletes : Prop :=
  ∀ (s : State) (cid n lane : Nat) (sector : Word) (p : Pend),
    let c := s.course cid
    let vdn := s.vdOf cid
    let rest := c.pends.filter (fun q => q.id ≠ p.id)
    let done := fun (ws : List RegWrite) => ({ c.landAll ws with pends := rest } : Course)
    let tell := exec .instructionComplete s
    s.arg = .course cid n lane sector →
    (s.eventPend cid n = none → tell = .next s)
    ∧ (s.eventPend cid n = some p → p.late = none →
      (p.act = .none → (p.xbar = false ∨ c.turnOf p = true) → tell = .next (s.setCourse cid (done p.writes)))
      ∧ (p.act = .none → p.xbar = true → c.turnOf p = false → tell = .next (s.again cid p.id))
      ∧ (∀ a, p.act = .access a → a.items = [] → tell = .next (s.setCourse cid (match a.acq with
          | some scope => { (c.landAll (p.writes ++ a.landed)).refresh scope with pends := rest }
          | none => done (p.writes ++ a.landed))))
      ∧ (∀ a, p.act = .access a → a.op = .load → a.imm = false → a.acq = none → a.items ≠ [] → p.xbar = false → c.stale = [] → s.shadowed cid = false →
          s.loadReady cid p a = true → a.got = [] →
          (∀ it ∈ a.items, it.fwd = [] ∧ ∃ va, it.loc = .glob va ∧ (s.vd vdn).mapsAll va a.size = true ∧ s.poisoned vdn va a.size = false) →
          let read := fun (it : AccItem) => (it.lane, BitVec.ofNat 64 (leNat (s.peekVA vdn it.loc.addr.toNat a.size)))
          (∀ it ∈ a.items, it.loc.addr.toNat < 2 ^ 57 ∧ it.loc = .glob it.loc.addr.toNat) → 0 < a.size →
          let known : Pend := { p with act := .none, writes := p.writes ++ ({ a with got := a.items.map read } : Access).landed }
          ∃ t, tell = .next t
            ∧ t.course cid = { c with pends := c.pends.map (fun q => if q.id = p.id then known else q), spilt := (t.course cid).spilt }
            ∧ (∃ d ∈ t.agenda, d.ev = { i := .instructionComplete, arg := .course cid p.id 0 0 }) ∧ t.dram = s.dram ∧ t.sram = s.sram)
      ∧ (∀ a k it va, p.act = .access a → a.op = .atom k → a.items = [it] → it.loc = .glob va → s.nextItem cid p a = some it →
          (k ≠ 0 → s.forceFor cid it.loc a.size p.pc p.id = (s, true)) →
          let old := leNat (s.peekVA vdn va a.size)
          let new := atomNew (s.fenv cid p.pc) k a.type old it.b.toNat it.c.toNat
          let u := (s.pokeVA vdn (some cid) 4 va (leBytes a.size new)).escape c.group 0 va
          tell = .next (u.landAccess cid { p with act := .access { a with items := [], got := a.got ++ [(it.lane, BitVec.ofNat 64 old)] } }
            { a with items := [], got := a.got ++ [(it.lane, BitVec.ofNat 64 old)] }))
      ∧ (∀ h sel sd, p.act = .qstat h sel sd → s.isFar h = false → c.turnOf p = true → c.queueTurn p h = true → tell = .next (s.setCourse cid (done [.s sd (s.qstatHere vdn h sel)])))
      ∧ (∀ h op st sd vl, p.act = .state h op st sd vl → s.isFar h = false → c.turnOf p = true →
          (∀ q ∈ c.before p.id, ∀ op' st' sd' vl', q.act ≠ .state h op' st' sd' vl') →
          let r := s.stateAccess vdn h op
          tell = .next (r.1.landState cid p op st sd vl r.2)))

/-- 06 R161, R162, 08 R235, R243, 09 R272, 17 R482: the other events of a course that are posted when it issued something: late faults,
walks, fills, wakes, timeouts, evictions, retirement, the tracker, strikes; each acts on what it names while it is still there. -/
def Obligations.CourseEvents : Prop :=
  ∀ (s : State) (cid n lane : Nat) (x : Word) (p : Pend) (a : Access) (c : Course),
    let t := s.task (s.taskOf cid)
    let ofCourse := s.arg = .course cid n lane x
    let found := s.eventPend cid n = some p ∧ p.late = none ∧ p.act = .access a
    let idle := fun (i : Instr) => ofCourse → s.eventPend cid n = none → exec i s = .next s
    let whole := s.arg = .nat cid 0 0 ∧ tget s.courses cid = some c
    let faulted := ofCourse ∧ tget s.courses cid = some c ∧ c.pend n = some p ∧ p.late.isSome = true
    let undone := fun (f : LateFault) => f.cause = 3 && s.rollsBack c.group f.addr
    let parks := exec .lateFault s = .next (s.parkLate cid)
    (ofCourse → (tget s.courses cid).bind (·.pend n) = none → exec .lateFault s = .next s)
    ∧ idle .pageWalkDone ∧ idle .fullEmptyWake ∧ idle .waitaRecheck ∧ idle .waitaTimeout
    ∧ (faulted → c.st = .running → c.pends.all (s.mayStay cid) = true → parks)
    ∧ (faulted → c.st = .saved → parks)
    ∧ (∀ q f, tget s.courses cid = some c → c.lateFirst undone = some (q, f) → s.parkLate cid =
        (s.setCourse cid { c with st := .running }).parkCourse cid q.split f.cause f.event f.addr f.cx f.mask q.pc
          (((tget c.splits q.split).map (·.pc)).getD q.pc) (some q.id))
    ∧ (faulted → c.st = .running → c.pends.all (s.mayStay cid) = false →
      exec .lateFault s = .next ((s.setCourse cid { c with stopping := true }).postOnce (s.now + 1) .lateFault (.course cid n 0 0)))
    ∧ (ofCourse → found → exec .pageWalkDone s = .next (s.accessStep cid p a))
    ∧ (ofCourse → found → ∀ k, a.op = .tag k → exec .fullEmptyWake s = .next (if a.items.isEmpty then s.landAccess cid p a else s.immStep cid p a))
    ∧ (ofCourse → found → ∀ cond lim, a.op = .waita cond lim → exec .waitaRecheck s = .next (s.waitaStep cid p a cond false))
    ∧ (ofCourse → found → ∀ cond lim, a.op = .waita cond (some lim) →
      exec .waitaTimeout s = .next (if a.since + lim ≤ s.now then s.waitaStep cid p a cond true else s))
    ∧ (∀ core vdn gran, s.arg = .nat core vdn gran → ∃ u, exec .atlbFillDone s = .next u ∧ u = { s with atlb := u.atlb }
        ∧ u.atlbEntry core vdn (gran * 65536) = some { vd := vdn, granule := gran, perm := (((s.vd vdn).mapping (gran * 65536)).map (·.perm)).getD 0
                                                       mapped := ((s.vd vdn).mapping (gran * 65536)).isSome
                                                       face := (((s.vd vdn).phys (gran * 65536)).map faceOf).getD 0 })
    ∧ (ofCourse → found → a.op = .store → ∀ it, a.items.find? (fun i => i.lane = lane) = some it →
      (∀ u, s.l1MakeRoom cid it.loc.addr.toNat = some u → exec .bufferedSectorEvict s = .next (u.again cid n))
      ∧ (s.l1MakeRoom cid it.loc.addr.toNat = none → exec .bufferedSectorEvict s =
          .next (s.meetLate cid p { cause := 1, addr := it.loc.addr, mask := if p.mask ≠ 0 then p.mask else laneBit lane })))
    ∧ (ofCourse → s.eventPend cid n = none → x.toNat / 64 ∈ (s.course cid).lineSectors (x.toNat / 256) → (s.group (s.course cid).group).saved = false →
      (∀ b u, s.spillPlace (s.course cid).group = some (b, u) →
        exec .bufferedSectorEvict s = .next (u.setCourse cid { u.course cid with spilt := (u.course cid).spilt ++ [(x.toNat / 64, b)] }))
      ∧ (s.spillPlace (s.course cid).group = none → exec .bufferedSectorEvict s = .next s))
    ∧ (ofCourse → s.eventPend cid n = none → (x.toNat / 64 ∉ (s.course cid).lineSectors (x.toNat / 256) ∨ (s.group (s.course cid).group).saved = true) →
      exec .bufferedSectorEvict s = .next s)
    ∧ (whole → c.alive = true → c.live = 0 → c.st = .running →
      exec .courseRetire s = .next (if c.pends = [] then s.retire cid else s.postOnce (s.now + 1) .courseRetire (.nat cid 0 0)))
    ∧ (whole → (c.alive = false ∨ c.live ≠ 0) → exec .courseRetire s = .next s)
    ∧ (whole → c.st = .running → c.deadlocked t.hdr.lw16 0 = true → ∀ w sp, c.splits.find? (fun p => halfOfSplit t.hdr.lw16 p.1 = 0) = some (w, sp) →
      exec .rejoinDeadlockDetect s = .next (s.parkCourse cid w 0x0b 0 0 0 sp.mask sp.pc sp.pc none))
    ∧ (∀ cell, s.arg = .nat cell cid 0 → (s.course cid).pends ≠ [] →
      exec .trackerEntryFree s = .next (s.postOnce (s.now + 1) .trackerEntryFree (.nat cell cid 0)))
    ∧ (∀ cell e, s.arg = .nat cell cid 0 → (s.course cid).pends = [] → (s.cell cell).tracker.find? (fun e => e.course = cid) = some e →
      let u := s.setCell cell { s.cell cell with tracker := (s.cell cell).tracker.filter (fun e => e.course ≠ cid) }
      exec .trackerEntryFree s = .next (if (u.task e.task).st = .done then u.dropTask e.task else u))
    ∧ (exec .strikeReport s = .next s)

/-- 08 R230, R250 to R253, 05 R155: a migration goes over at its bridge point when the twelve flags read 0 and the other core has room,
moving the mapped registers; one that a rollback took back over its MIGR returns to its core as it is; requests, exchanges of the active
set and the end of a budget act on the courses they name. -/
def Obligations.MigrationAndExchange : Prop :=
  ∀ (s : State) (cid other id : Nat) (c d : Course) (e : Bridge),
    let g := s.group c.group
    let t := s.task g.task
    let toD := !c.dcore
    let there := tget s.courses cid = some c
    let slots := s.freeSlots g.bench g.cell toD
    let b := s.bench g.bench
    let moving := there ∧ c.st = .migrating id ∧ s.arg = .nat cid 0 0
    let fits := s.coreFits g.bench g.cell toD (t.hdr.demand toD) = true
    let ready := moving ∧ id ≠ backId ∧ c.flagsDown = true ∧ fits ∧ s.sec.dbg = []
    (ready → s.findBridge t id = some e → ∃ u slot active, exec .migrationComplete s = .next u ∧ slot ∈ slots
      ∧ u.course cid = { c with
          st := .running, migReq := false, dcore := toD, prof := toD, slot, active, since := s.now, loop := 0, loopI := [], b := []
          v := moveRegs c.v toD (s.bridgeMap t.vd e), sched := s.tableOf g.task toD, pends := c.pends.map Pend.noVector
          splits := c.splits.map (fun p => (p.1, { p.2 with pc := if toD then e.pcd else e.pcl })) }
      ∧ (∀ j, j ≠ cid → u.course j = s.course j) ∧ u.dram = s.dram ∧ u.sram = s.sram)
    ∧ (ready → s.findBridge t id = none → exec .migrationComplete s = .next (s.setCourse cid { c with st := .running, migReq := false }))
    ∧ (moving → id = backId → fits → ∃ u slot active, exec .migrationComplete s = .next u ∧ slot ∈ slots
      ∧ u.course cid = { c with st := .running, dcore := toD, slot, active, since := s.now } ∧ (∀ j, j ≠ cid → u.course j = s.course j)
      ∧ u.dram = s.dram ∧ u.sram = s.sram)
    ∧ (moving → (¬fits ∨ id ≠ backId ∧ c.flagsDown = false) →
      exec .migrationComplete s = .next (s.postOnce (s.now + 1) .migrationComplete (.nat cid 0 0)))
    ∧ (there → s.arg = .nat cid 0 0 → c.st = .running → c.migReq = false → b.migEn = true → t.bridges = true → g.saved = false →
      c.dcore = true → b.dtol = true → s.requests g.bench g.cell false < (s.freeSlots g.bench g.cell false).length →
      exec .migrationRequestPost s = .next (s.setCourse cid { c with migReq := true }))
    ∧ (there → s.arg = .nat cid 1 0 → c.st = .running → c.migReq = false → b.migEn = true → t.bridges = true → g.saved = false →
      c.dcore = false → b.ltod = true → s.requests g.bench g.cell true < (s.freeSlots g.bench g.cell true).length →
      exec .migrationRequestPost s = .next (s.setCourse cid { c with migReq := true }))
    ∧ (there → tget s.courses other = some d → cid ≠ other → s.arg = .nat cid other 0 → c.active = true → d.active = false → c.dcore = true → d.dcore = true →
      d.alive = true → (s.group d.group).bench = g.bench → (s.group d.group).cell = g.cell →
      exec .courseExchange s = .next ((s.setCourse cid { c with active := false, since := s.now }).setCourse other { d with active := true, since := s.now }))
    ∧ (∀ tk bench, s.arg = .nat tk bench 0 → (s.spend tk bench).isSome = true → exec .budgetExhausted s = .next s)
    ∧ (∀ tk bench, s.arg = .nat tk bench 0 → s.spend tk bench = none →
      exec .budgetExhausted s = .next ((s.cands.filter (fun c => s.taskOf c.cid = tk && (s.group (s.course c.cid).group).bench = bench)).foldl
        (fun s c => if (s.course c.cid).st = .running then s.fetchFault c.cid c.w 0x0d 0 else s) s))
    ∧ (∀ k a, s.arg = .nat k a 0 → s.plat.cur ≠ .retention → k < 2 ^ 20 →
      exec .parkedDeadlineKill s = .next (if (s.record k).used && (s.record k).gen = a && s.isPast (s.record k).deadline then s.killRec k 2 else s))
    ∧ (∀ k, s.arg = .nat k 0 0 → exec .faultTaskDeferredWrite s = .next (s.raiseFault k))
    ∧ (∀ die, s.arg = .nat die 0 0 → ((s.die die).waiting = [] ∨ s.lowestFree die 0 8192 = none) → exec .recordFreeGrant s = .next s)
    ∧ (∀ die r rest k, s.arg = .nat die 0 0 → (s.die die).waiting = r :: rest → s.lowestFree die 0 8192 = some k → r.kind = 0 → r.deadline = none →
      let u := ((s.setDie die { s.die die with waiting := rest }).setRecord k { r with gen := (s.record k).gen, used := true, stage := 1, parkedAt := s.now })
      let v := (u.setCourse r.uA { s.course r.uA with st := .parked die (k % 16384) }).raiseFault k
      exec .recordFreeGrant s = .next (if rest = [] then v else v.postOnce v.now .recordFreeGrant (.nat die 0 0)))

/-- 05 R144 to R157, 07 R188 to R212: a dispatcher selects the first of its ranked tasks that it can place; a drain ends in a save; a save
writes the image and frees the leases once it can, and a flush discards what the group has done; a shadow copy that is written ends the
boundary's waits and begins an interval. -/
def Claims.DispatchAndImages : Prop :=
  ∀ (s : State) (gk bench scope tk : Nat),
    let g := s.group gk
    let named := s.arg = .nat gk 0 0
    let r := (s.ageReached bench).selectFrom ((s.ageReached bench).ranked bench)
    let later := exec .groupSaveComplete s = .next (s.postOnce (s.now + 1) .groupSaveComplete (.nat gk 0 0))
    (s.arg = .nat bench 0 0 → s.works = true → exec .dispatchSelect s = .next
      (if r.2 then r.1 else if (r.1.ranked bench).isEmpty then r.1 else r.1.postOnce (s.now + 64) .dispatchSelect (.nat bench 0 0)))
    ∧ (s.arg = .nat bench 0 0 → s.works = false → exec .dispatchSelect s = .next s)
    ∧ (∀ lim, named → g.ended = false → g.saved = false → g.saving = false → g.drain = some lim → lim ≤ s.now → g.slot.isSome = true →
      exec .drainLimit s = .next ((s.setGroup gk { g with saving := true, drain := none }).post (s.now + 1) .groupSaveComplete (.nat gk 0 0)))
    ∧ (named → (g.ended = true ∨ g.saved = true ∨ g.saving = true ∨ g.drain = none ∨ g.slot = none ∨ ∃ lim, g.drain = some lim ∧ s.now < lim) →
      exec .drainLimit s = .next s)
    ∧ (named → g.saving = true → g.ended = false → g.flushing = false → s.saveReady gk = true →
      exec .groupSaveComplete s = .next (s.saveGroup gk) ∧ ((s.saveGroup gk).group gk).saved = true ∧ ((s.saveGroup gk).group gk).banks = []
        ∧ ((s.saveGroup gk).group gk).saving = false)
    ∧ (named → g.saving = true → g.ended = false → g.flushing = true → s.flushReady gk = true →
      exec .groupSaveComplete s = .next (s.flushGroup gk) ∧ ((s.flushGroup gk).group gk).fresh = true ∧ ((s.flushGroup gk).group gk).saved = true
        ∧ ((s.flushGroup gk).group gk).nodes = [] ∧ ((s.flushGroup gk).group gk).banks = [])
    ∧ (named → g.saving = true → g.ended = false → g.flushing = false → s.saveReady gk = false → later)
    ∧ (named → g.saving = true → g.ended = false → g.flushing = true → s.flushReady gk = false → later)
    ∧ (named → (g.saving = false ∨ g.ended = true) → exec .groupSaveComplete s = .next s)
    ∧ (s.arg = .nat gk scope 0 → (∀ c ∈ s.coursesOf gk, (s.course c).alive = false) →
      exec .shadowCopyDone s = .next (if g.ended then s else s.newInterval gk))
    ∧ (∀ c, s.coursesOf gk = [c] → s.arg = .nat gk scope 0 → (s.course c).alive = true → (∃ p ∈ (s.course c).splits, p.2.wait.isCopying scope = true) →
      let t := s.task g.task
      let u := s.setCourse c ((s.course c).passBoundary t.hdr.lw16 scope (fun w => w.isCopying scope))
      exec .shadowCopyDone s = .next (if g.ended then u else u.newInterval gk))
    ∧ (∀ t, s.arg = .nat tk 0 0 → tget s.tasks tk = some t → t.ltod.isSome = true → exec .ltodWaitLimit s = .next (s.setTask tk { t with ltod := some 0 }))
    ∧ (∀ t, s.arg = .nat tk 0 0 → tget s.tasks tk = some t → t.ltod = none → exec .ltodWaitLimit s = .next s)

/-- 05 R137, 17 R479: the notice of a tag that became full at a tick observes the tag for each held task of the device that waits on its
word and had been copied by then, and for no other; a task all of whose words are observed becomes ready. -/
def Claims.TagNotices : Prop :=
  ∀ (s : State) (vdn va tick : Nat), s.arg = .nat vdn va tick → tsorted 0 s.tasks = true →
    let waits := fun (t : Task) => t.st = .held ∧ t.vd = vdn ∧ t.copied ≤ tick ∧ ∃ x ∈ t.trec.slotsOf 1, x.2 = va
    let sees := fun (t : Task) => t.seen ++ ((t.trec.slotsOf 1).filter (fun x => x.2 = va && !t.seen.contains x.1)).map (·.1)
    (∃ t, exec .waitTagNotice s = .next t ∧ (∀ j, ¬waits (s.task j) → t.task j = s.task j) ∧ t.courses = s.courses ∧ t.dram = s.dram ∧ t.full = s.full)
    ∧ (∀ tk x, tget s.tasks tk = some x → waits x → (∀ p ∈ s.tasks, waits p.2 → p = (tk, x)) →
      exec .waitTagNotice s = .next ((s.setTask tk { x with seen := sees x }).settleHeld tk))

/-- 07 R209, R213, R216, 06 R184, 12 R352: a group with SHADOW that consumes an uncorrectable word, not of an address that has failed in
this interval already, rolls back once its segments in flight have completed, or parks once it has escaped; elsewhere the unit that
consumed it meets ECC_UE, a course as a late fault of the instruction whose result it was; the cell counts the error. -/
def Claims.ConsumedErrors : Prop :=
  ∀ (s : State) (who : Consumer) (cause : Nat) (addr : Word), s.arg = .consumer who cause addr →
    let gk := match who with
      | .course c => (s.course c).group
      | .node g _ => g
      | .segment n => (s.copy n).group
      | .group g => g
    let g := s.group gk
    let shadow := (s.task g.task).hdr.shadow
    let counted := s.countError g.bench g.cell
    let tell := exec .uncorrectableConsumed s
    let undoes := shadow = true ∧ (g.undo.isSome = true ∨ s.rollsBack gk addr = true)
    let here := g.ended = false ∧ ¬undoes ∧ g.saved = false
    let whole := g.ended = false ∧ shadow = true ∧ g.saved = false ∧ s.parkedWhole gk = false
    let undo := g.undo.getD { addr }
    let rolls := undo.retry = true ∨ g.escaped = false
    let u := s.setGroup gk { g with undo := none }
    let landing := fun (c : Course) => (c.pends.filter (fun p => p.act = .none && p.due.isSome && !p.writes.isEmpty && p.late.isNone)).getLast?
    (g.ended = true → tell = .next s)
    ∧ (g.ended = false → undoes → tell = .next ((if g.undo.isSome = true ∨ who = .group gk then s else counted).groupUE gk addr))
    ∧ (g.ended = false → ¬undoes → g.saved = true → tell = .next s)
    ∧ (whole → s.segsDone gk = true → rolls → s.groupUE gk addr =
      if undo.retry then u.rollback gk else (u.rollback gk).setGroup gk { (u.rollback gk).group gk with lastUE := some undo.addr })
    ∧ (whole → s.segsDone gk = true → ¬rolls → s.groupStill gk = true → s.groupUE gk addr = u.parkGroup gk)
    ∧ (whole → (s.segsDone gk = false ∨ (¬rolls ∧ s.groupStill gk = false)) → s.groupUE gk addr =
      (s.setGroup gk { g with undo := some undo }).postOnce (s.now + 1) .uncorrectableConsumed (.consumer (.group gk) 3 addr))
    ∧ (here → ∀ cid p, who = .course cid → (s.course cid).alive = true → landing (s.course cid) = some p →
      tell = .next (counted.meetLate cid { p with writes := [] } { cause := 3, addr, mask := lanesIn p.writes }))
    ∧ (here → ∀ cid w sp rest, who = .course cid → (s.course cid).alive = true → landing (s.course cid) = none → (s.course cid).splits = (w, sp) :: rest →
      tell = .next (counted.lateHere cid w { cause := 3, addr, mask := sp.mask }))
    ∧ (here → ∀ i n, who = .node gk i → tget g.nodes i = some n → n.st = .pending →
      tell = .next (counted.parkNode { gk, idx := i, vd := (s.task g.task).vd, n } { cause := 3, addr } n.d.whole { pc := 0 }))
    ∧ (here → ∀ n x, who = .segment n → (s.copy n).segs.find? (fun x => !x.done && !x.parked && !x.sent && x.left.isEmpty) = some x →
      tell = .next (counted.parkSeg n x 3 addr))

/-- Dispatch, drains, saves, flushes, shadow copies, tag notices and consumed errors: DispatchAndImages, TagNotices, ConsumedErrors. -/
def Obligations.DispatchAndImages : Prop :=
  Claims.DispatchAndImages ∧ Claims.TagNotices ∧ Claims.ConsumedErrors

/-- 11 R324 to R337, 18 R505, R514 to R518: the events of a cell's engines: the bow goes to the first waiting course whose turn it is; nodes
are evaluated for every demand of a group that is not saved; a copy's segments move; a multicast lands at one receiver at a time; a
COPYM streams what it copied once every segment has landed. -/
def Obligations.EngineEvents : Prop :=
  ∀ (s : State) (cell gk n i : Nat) (c : Copy) (x : Seg),
    let waits := fun (e : Nat × Nat) => s.bowTurn e
    let free := ∀ p ∈ s.groups, cellKey p.2.bench p.2.cell = cell → p.2.saved = false → p.2.holder = none
    let copied := tget s.copies n = some c
    let stays := (s.group c.group).undo.isSome && !x.underWay
    let seg := copied ∧ c.segs.find? (fun x => x.id = i) = some x ∧ x.done = false
    (s.arg = .nat cell 0 0 → ¬free → exec .bowGrant s = .next s)
    ∧ (s.arg = .nat cell 0 0 → free → (s.cell cell).bowQueue.find? waits = none → exec .bowGrant s = .next s)
    ∧ (∀ e, s.arg = .nat cell 0 0 → free → (s.cell cell).bowQueue.find? waits = some e →
      let u := s.setCell cell { s.cell cell with bowQueue := (s.cell cell).bowQueue.filter (· ≠ e) }
      exec .bowGrant s = .next ((u.setGroup e.1 { s.group e.1 with holder := some e.2 }).enterArray e.1))
    ∧ (s.arg = .nat gk 0 0 → (s.group gk).saved = true → exec .nodeEvaluate s = .next s)
    ∧ (s.arg = .nat gk 0 0 → (s.group gk).saved = false → exec .nodeEvaluate s = .next ((s.group gk).demands.foldl
        (fun s d => if (s.group gk).demands.any (fun e => e.batch = d.batch) then s.serve gk d else s) (s.retryNodes gk)))
    ∧ (s.arg = .nat n i 0 → seg → x.parked = false → (s.group c.group).saved = false → stays = false → c.batch = none → exec .copySegmentComplete s = .next (s.segStep n x))
    ∧ (s.arg = .nat n i 0 → seg → x.parked = false → (s.group c.group).saved = false → stays = true →
      exec .copySegmentComplete s = .next (s.postOnce (s.now + 1) .copySegmentComplete (.nat n i 0)))
    ∧ (s.arg = .nat n i 0 → seg → (x.parked = true ∨ (s.group c.group).saved = true) → exec .copySegmentComplete s = .next s)
    ∧ (s.arg = .nat n i 0 → seg → x.parked = false → (s.group c.group).saved = false → stays = false →
      ∀ b d, c.batch = some b → (s.group c.group).demands.find? (fun d => d.batch = b) = some d →
        exec .copySegmentComplete s = .next (s.storeStep n x d ((d.store.map (·.1)).getD {})))
    ∧ (s.arg = .nat n i gk → seg → gk ∉ x.left → exec .multicastFillLand s = .next s)
    ∧ (s.arg = .nat n i gk → seg → gk ∈ x.left →
      ((s.fifoLate c x gk = true ∨ s.landBytes gk x.off c.bd x.data = none) → exec .multicastFillLand s = .next (s.post (s.now + 1) .multicastFillLand (.nat n i gk)))
      ∧ ∀ u, s.fifoLate c x gk = false → s.landBytes gk x.off c.bd x.data = some u →
        let v := if u.holder gk (x.off / 4096) = some (.copy n) then u.flipToCourse gk (x.off / 4096) else u
        let left := x.left.filter (· ≠ gk)
        exec .multicastFillLand s = .next (if left = [] then v.segDone n { x with left } []
          else (v.setCopy n ((v.copy n).setSeg { x with left })).settleBoundaries))
    ∧ (s.arg = .nat n 0 0 → copied → (c.follow = none ∨ ∃ x ∈ c.segs, x.done = false) → exec .copymFollowOn s = .next s)
    ∧ (s.arg = .nat n 0 0 → copied → (∀ x ∈ c.segs, x.done = true) → ∀ t sb aux, c.follow = some (t, sb, aux) →
      let plane := (s.cell (cellKey c.bench c.cell)).plane.fmt
      let rows := (aux.extractLsb' 8 8).toNat + 1
      let len := rows * planeK (plane.getD 0) * typeSize t
      let scale := if plane = some 12 then some (aux.extractLsb' 32 21).toNat else none
      let array := fun (p : Pend) => match p.act with
        | .array _ => true
        | _ => false
      let first := ((s.course c.course).pends.takeWhile (fun p => p.act ≠ .array .pass)).all (fun p => !array p)
      let idle := s.operandIdle c.course sb.toNat len none && (scale.map (fun a => s.operandIdle c.course a (4 * rows) none)).getD true
      let may := (s.group c.group).saved = false ∧ s.holdsBow c.course = true
      let ready := may ∧ first = true ∧ idle = true
      let r := s.stream c.course c.pc c.trapmask t (aux.getLsbD 23) sb.toNat (aux.extractLsb' 0 8).toNat rows (aux.extractLsb' 16 7).toNat scale
      let u := { r.1 with copies := tdel r.1.copies n }
      ((s.group c.group).saved = true ∨ (may ∧ ¬ready) → exec .copymFollowOn s = .next (s.post (s.now + 1) .copymFollowOn (.nat n 0 0)))
      ∧ ((s.group c.group).saved = false → s.holdsBow c.course = false →
        exec .copymFollowOn s = .next ((s.wantBow c.course).post (s.now + 1) .copymFollowOn (.nat n 0 0)))
      ∧ (ready → r.2 = none → exec .copymFollowOn s = .next ((u.endPend c.course c.pend).settleBoundaries))
      ∧ (∀ x p, ready → r.2 = some x → (u.course c.course).pend c.pend = some p →
        exec .copymFollowOn s = .next (u.arrayStop c.course p x)))

/-- 01 R19, R25, R30, R33, 02 R65, 05 R158, 06 R186, 07 R223, 08 R257, 09 R283: POWER_GOOD brings the module up: its clocks start from zero,
nothing is ready yet, each function has its own time to readiness, what was provisioned stays, and every register shows its reset value. -/
def Obligations.BringUp : Prop :=
  ∀ s : State,
    (s.plat.since = none → ∃ t, exec .powerGood s = .next t
      ∧ t.plat.cur = .p0 ∧ t.plat.since = some s.now ∧ t.now = s.now
      ∧ (∀ b < 64, t.clock b = 0) ∧ (∀ n, Memory.read t.dram n = 0 ∧ Memory.read t.sram n = 0)
      ∧ t.courses = [] ∧ t.tasks = [] ∧ t.vds = [] ∧ t.queues = [] ∧ t.recs = []
      ∧ t.sec.st = s.sec.st ∧ t.sec.ownerHash = s.sec.ownerHash ∧ t.sec.vendorHash = s.sec.vendorHash ∧ t.sec.seed = s.sec.seed
      ∧ s.sec.fuseSvn ≤ t.sec.fuseSvn ∧ (t.sec.bootfail = true → t.sec.fuseSvn = s.sec.fuseSvn)
      ∧ (∀ p ∈ ([(.mgmt, 1500), (.hostPort, 3000), (.die 0, 1200), (.die 3, 1200), (.face 0, 2500), (.face 31, 2500), (.bench 0, 1800),
            (.bench 63, 1800), (.gliron 0 0 0, 4000), (.gliron 7 0 0, 4000)] : List (Func × Nat)),
          { tick := s.now + p.2 * 2000000, ev := { i := .readyTimeout, arg := .func p.1 } } ∈ t.agenda)
      ∧ t.regValue .readyIo = 0 ∧ t.regValue .readyFace = 0 ∧ t.regValue .readyBench = 0 ∧ t.regValue .failIo = 0 ∧ t.regValue .failFace = 0
      ∧ t.regValue .failBench = 0 ∧ t.regValue .pwrCtl = 0 ∧ t.regValue .pwrStatus = 0 ∧ t.regValue .fabCfg = 2000
      ∧ t.regValue .fabId = s.fab.modid.toNat ∧ t.regValue .featMask = 0x3f ∧ t.regValue .preCfg = 200000 ∧ t.regValue .dbgStatus = 0
      ∧ (∀ n < 64, t.regValue (.vdSvbase n) = 0 ∧ t.regValue (.vdSvsize n) = 0 ∧ t.regValue (.vdCkst n) = 0 ∧ t.regValue (.vdSec n) = 0)
      ∧ (∀ n < 64, t.regValue (.dspCfg n) = 1024 ∧ t.regValue (.dspStat n) = 0 ∧ t.regValue (.migCfg n) = 0x40007 ∧ t.regValue (.bankCfg n) = 0x20)
      ∧ (∀ n < 4, t.regValue (.fltCfg n) = 32 ∧ t.regValue (.fltStat n) = 0) ∧ (∀ n < 8, t.regValue (.glStat n) = 0) ∧ (∀ n < 6, t.regValue (.hpStat n) = 0))
    ∧ (s.plat.since ≠ none → exec .powerGood s = .next s)

/-- 01 R29 to R31, 02 R43, 03 R75: a function whose die is ready, in a module that has booted, reports ready: its ready bit sets and no
other; one that has not come up in its time sets its FAIL bit; one that fails clears the one and sets the other; of both failures
FUNC_FAIL is posted, with the FAIL register's offset and the bit. A die takes its faces and benches with it. -/
def Claims.Readiness : Prop :=
  ∀ (s : State) (f : Func) (r i t0 : Nat), s.arg = .func f → funcBit f = some (r, i) → s.plat.since = some t0 →
    let b := (r, i)
    let others := fun (t : State) => ∀ c, c ≠ b → (c.1 = 0 ∨ c.1 = 1 ∨ c.1 = 2) → t.plat.isReady c = s.plat.isReady c ∧ t.plat.isFailed c = s.plat.isFailed c
    let posted := fun (t : State) => (({ s with plat := t.plat } : State).event 64 1 0xff (0x120 + 8 * r) (funcDie f) (leBytes 1 i))
    let down := fun (t : State) => t.plat.isReady b = false ∧ t.plat.isFailed b = true ∧ others t
    let may := (s.sec.bootfail = false ∨ f = .mgmt) ∧ (∀ n, f = .face n → s.plat.isReady (0, 2 + n / 8) = true)
      ∧ (∀ n, f = .bench n → s.plat.isReady (0, 2 + n / 16) = true) ∧ (∀ n m p, f = .gliron n m p → m ≠ s.fab.modid)
    (s.plat.isReady b = false → s.plat.isFailed b = false → may → s.now ≤ t0 + funcTicks f →
      ∃ t, exec .functionReady s = .next t ∧ t.plat.isReady b = true ∧ t.plat.isFailed b = false ∧ others t ∧ t.courses = s.courses ∧ t.dram = s.dram)
    ∧ (t0 + funcTicks f < s.now → exec .functionReady s = .next s)
    ∧ (s.plat.isReady b = false → s.plat.isFailed b = false → t0 + funcTicks f ≤ s.now →
      ∃ t, exec .readyTimeout s = .next t ∧ down t ∧ t = posted t)
    ∧ (s.plat.isReady b = true → (∀ n, f ≠ .die n) → (∀ n m p, f ≠ .gliron n m p) →
      ∃ t, exec .functionFail s = .next t ∧ down t ∧ t = posted t)
    ∧ (∀ n m p, s.plat.isReady b = true → f = .gliron n m p → ∃ t, exec .functionFail s = .next t ∧ down t ∧ t = (posted t).dropPort f
        ∧ (t.port n).replay = [] ∧ (t.port n).waiting = [])
    ∧ (∀ n < 4, f = .die n → s.plat.isReady b = true → ∃ t, exec .functionFail s = .next t ∧ t.plat.isReady b = false
        ∧ (∀ j < 8, t.plat.isReady (1, 8 * n + j) = false) ∧ (∀ j < 16, t.plat.isReady (2, 16 * n + j) = false))

/-- 02 R59: a die-to-die link that fails is down at both ends; MESH_REROUTE names the link and another die through which its traffic passes,
and a die with no link left fails. -/
def Claims.MeshLinkFails : Prop :=
  ∀ (s : State) (a b n : Nat), s.arg = .nat a b n → a < 4 → b < 4 → a ≠ b → s.plat.cur ≠ .off → b ∉ (s.die a).linksDown →
    let last := fun (x y : Nat) => (insertNat (s.die x).linksDown y).length = 3
    ∃ t, exec .meshLinkFail s = .next t ∧ b ∈ (t.die a).linksDown ∧ a ∈ (t.die b).linksDown
      ∧ (∀ d, d ≠ a → d ≠ b → t.die d = s.die d) ∧ t.dram = s.dram ∧ t.courses = s.courses
      ∧ (¬last a b → ¬last b a → ∃ c < 4, c ≠ a ∧ c ≠ b ∧ t = ({ s with dies := t.dies, sched := t.sched } : State).event 64 2 0xff 0 (min a b)
          (leBytes 1 (min a b) ++ leBytes 1 (max a b) ++ leBytes 1 c))
      ∧ (last a b → t.plat.isReady (0, 2 + a) = false)
      ∧ (last b a → t.plat.isReady (0, 2 + b) = false)

/-- READY reports, timeouts, failures of functions and of mesh links: Readiness, MeshLinkFails. -/
def Obligations.Readiness : Prop :=
  Claims.Readiness ∧ Claims.MeshLinkFails

/-- 01 R20 to R22, R26: a request made between transitions begins the transition it asks for; Off loses everything but what was provisioned;
the end of a transition applies its state. -/
def Claims.PowerRequests : Prop :=
  ∀ s : State, s.plat.busy = false → s.plat.cur ≠ .off →
    let begins := fun (i : Instr) (into : Power) (dur : Nat) (ends : Instr) => ∃ t, exec i s = .next t ∧ t.plat.cur = s.plat.cur ∧ t.plat.busy = true
      ∧ t.plat.going = into ∧ t.plat.began = s.now ∧ t.dram = s.dram ∧ { tick := s.now + dur, ev := { i := ends, arg := .none } } ∈ t.agenda
    let forced := s.plat.therm || s.plat.cap
    (s.plat.cur = .p1 → forced = false → begins .pwrReqP0 .p0 4000 .powerTransitionDone)
    ∧ (s.plat.cur = .p1 → forced = true → ∃ t, exec .pwrReqP0 s = .next t ∧ t.plat.cur = .p1 ∧ t.plat.busy = false ∧ t.plat.target = .p0)
    ∧ (s.plat.cur = .p0 → begins .pwrReqP1 .p1 4000 .powerTransitionDone)
    ∧ (s.plat.cur = .p0 ∨ s.plat.cur = .p1 → begins .pwrReqRetention .retention 1 .retentionEntryDone)
    ∧ (s.plat.cur = .retention → begins .pwrReqP0 s.plat.before 200000 .retentionExitDone ∧ begins .pwrReqP1 s.plat.before 200000 .retentionExitDone)
    ∧ (∃ t, exec .pwrReqOff s = .next t ∧ t.plat.cur = .off ∧ t.plat.since = none ∧ t.dram = [] ∧ t.sram = [] ∧ t.courses = [] ∧ t.vds = []
        ∧ t.sec.st = s.sec.st ∧ t.sec.ownerHash = s.sec.ownerHash ∧ t.sec.debugHash = s.sec.debugHash ∧ t.sec.fuseSvn = s.sec.fuseSvn)

/-- 01 R20 to R22, R26: the end of a transition. -/
def Claims.PowerTransitionsEnd : Prop :=
  ∀ s : State, s.plat.busy = true → s.plat.therm = false → s.plat.cap = false →
    (s.plat.going = .p1 → s.plat.target = .p1 → s.plat.cur = .p0 →
      exec .powerTransitionDone s = .next { s with plat := { s.plat with cur := .p1, busy := false } })
    ∧ (s.plat.going = .p0 → s.plat.target = .p0 → s.plat.cur = .p1 →
      exec .powerTransitionDone s = .next { s with plat := { s.plat with cur := .p0, busy := false } })
    ∧ (s.plat.going = .retention → s.plat.target = .retention → s.idleNow = true ∨ s.plat.began + 100000 ≤ s.now →
      exec .retentionEntryDone s = .next { s with plat := { s.plat with cur := .retention, busy := false } })
    ∧ (s.plat.cur = .retention → s.plat.target = s.plat.before → s.plat.before = .p0 ∨ s.plat.before = .p1 →
      ∃ t, exec .retentionExitDone s = .next t ∧ t.plat.cur = s.plat.before ∧ t.plat.busy = false)

/-- 01 R26, R27: the thermal and the power-cap force hold P1 while they last; a trip writes its record and turns the module off. -/
def Claims.ForcesAndTrip : Prop :=
  ∀ (s : State) (n a b : Nat), s.plat.cur ≠ .off →
    let into := fun (i : Instr) (p : Plat) => ∃ t, exec i s = .next t ∧ t.plat.therm = p.therm ∧ t.plat.cap = p.cap
      ∧ (s.plat.busy = false → s.plat.cur = .p0 → s.plat.target = .p0 → (p.therm || p.cap) = true →
          t.plat.busy = true ∧ t.plat.going = .p1 ∧ { tick := s.now + 4000, ev := { i := .powerTransitionDone, arg := .none } } ∈ t.agenda)
      ∧ (s.plat.busy = false → s.plat.cur = .p1 → s.plat.target = .p0 → (p.therm || p.cap) = false → t.plat.busy = true ∧ t.plat.going = .p0)
      ∧ (s.plat.busy = true → t = { s with plat := { s.plat with therm := p.therm, cap := p.cap } })
    into .thermalForce { s.plat with therm := true } ∧ into .thermalForceEnd { s.plat with therm := false }
    ∧ into .powerCapForce { s.plat with cap := true } ∧ into .powerCapEnd { s.plat with cap := false }
    ∧ (s.arg = .nat n a b → ∃ t, exec .tripOff s = .next t ∧ t.plat.trip = some (n, s.now) ∧ t.plat.cur = .off ∧ t.plat.since = none
        ∧ t.dram = [] ∧ t.courses = [])

/-- Power requests, the ends of transitions, forces and the thermal trip: PowerRequests, PowerTransitionsEnd, ForcesAndTrip. -/
def Obligations.PowerStates : Prop :=
  Claims.PowerRequests ∧ Claims.PowerTransitionsEnd ∧ Claims.ForcesAndTrip

/-- 02 R35 to R39, 04 R107: the packet that a working queue pair expects: a write's bytes are written at system scope and acknowledged, a
read is answered with the bytes of memory in packets of the path MTU, an access that no region grants is refused and the queue pair is
in error from then on, the atomic verb is refused, and a command message starts its command. A packet that comes too early, that has
been performed already, or that is above the path MTU changes no memory. -/
def Claims.RocePackets : Prop :=
  ∀ (s : State) (p : RocePkt) (q : Qp) (n : Nat),
    s.arg = .pkt p → s.hostReady = true → tget s.host.qps p.qpn = some q → q.err = false → s.plat.cur ≠ .retention → p.ecn = false →
    78 + p.data.length ≤ 9216 →
    let k := { s with host := { s.host with rxfrm := min (s.host.rxfrm + 1) (2 ^ 48 - 1) } }
    let taken := fun (m : Nat) => ({ q with psn := q.psn + BitVec.ofNat 24 m } : Qp)
    let c := k.setQp p.qpn (taken 1)
    let a := p.va.toNat
    let v := s.vd n
    let fits := p.psn = q.psn ∧ p.data.length ≤ q.mtuBytes
    let early := p.psn ≠ q.psn ∧ (p.psn - q.psn).toNat < 2 ^ 23
    let late := 2 ^ 23 ≤ (p.psn - q.psn).toNat
    let gives := fun (i : Instr) (t : State) => exec i s = .next t
    let refuses := fun (i : Instr) (m : Nat) => gives i ((k.setQp p.qpn { taken m with err := true }).send (.nak p.qpn 2))
    let okW := 2 ^ 57 ≥ a + p.data.length ∧ v.mapsAll a p.data.length = true ∧ v.allows a p.data.length 1 = true
    let okR := 2 ^ 57 ≥ a + p.len ∧ v.mapsAll a p.len = true ∧ (q.mig = true ∨ v.allows a p.len 0 = true)
    let m := max 1 ((p.len + q.mtuBytes - 1) / q.mtuBytes)
    (fits → gives .roceAtomicVerb (c.send (.nak p.qpn 1)))
    ∧ (fits → q.vd = some n → s.granted q n p p.data.length 1 = true → okW →
        ∀ i ∈ [Instr.roceRdmaWrite, .roceRdmaWriteImm],
          (s.faceDown n a p.data.length = false → gives i ((c.pokeVA n none 4 a p.data).send (.ack p.qpn)))
          ∧ (s.faceDown n a p.data.length = true → gives i (c.rnrPkt p)))
    ∧ (fits → q.vd = some n → s.granted q n p p.data.length 1 = false → refuses .roceRdmaWrite 1 ∧ refuses .roceRdmaWriteImm 1)
    ∧ (fits → q.vd = some n → s.granted q n p p.len 0 = true → okR → s.faceDown n a p.len = false → s.poisoned n a p.len = false → s.readsHeld p.qpn < 64 →
        gives .roceRdmaRead ((k.setQp p.qpn (taken m)).sendRead p.qpn (taken m) (s.peekVA n a p.len)))
    ∧ (fits → q.vd = some n → s.granted q n p p.len 0 = false → refuses .roceRdmaRead m)
    ∧ (∀ i, fits → isCmdQp p.qpn = true → 16 ≤ p.data.length → p.data.length ≤ 256 → cmdInstr (fieldB p.data 1 1) = some i →
        let t := (c.send (.ack p.qpn)).post s.now i (.cmd (cmdOf p.qpn p.data))
        gives .roceSend t ∧ gives .roceSendImm t)
    ∧ (∀ i ∈ [Instr.roceAtomicVerb, .roceRdmaWrite, .roceRdmaWriteImm, .roceSend, .roceSendImm],
        (early → gives i (k.send (.nak p.qpn 0)))
        ∧ (late → gives i (k.send (.ack p.qpn)))
        ∧ (p.psn = q.psn → q.mtuBytes < p.data.length → gives i ((k.setQp p.qpn { q with err := true }).send (.nak p.qpn 1))))

/-- 02 R35, R36, 04 R119, R122: frames that the port discards and pauses are counted; a pause holds the priorities it names, and what waited
on the others goes out; buffers that host software posts take the events that wait for them. -/
def Claims.HostPortCounts : Prop :=
  ∀ (s : State) (n ch m : Nat) (e : List Byte),
    let up := fun (x : Nat) => min (x + 1) (2 ^ 48 - 1)
    let c := tgetD s.chans ch {}
    let ready := s.hostReady = true
    let paused : State := { s with host := { s.host with rxfrm := up s.host.rxfrm, pfcrx := up s.host.pfcrx, pause := BitVec.ofNat 8 n } }
    (ready → s.arg = .nat n ch 0 → (n ≠ 0x0800 ∧ n ≠ 0x86dd ∧ n ≠ 0x88b5 ∧ n ≠ 0x8808) ∨ 9216 < ch → exec .frameDiscardEthertype s = .next { s with host := { s.host with rxfrm := up s.host.rxfrm, badtype := up s.host.badtype } })
    ∧ (ready → s.arg = .nat n ch 2 → exec .frameDiscardEthertype s = .next { s with host := { s.host with rxfrm := up s.host.rxfrm, badtype := up s.host.badtype } })
    ∧ (ready → s.arg = .nat n ch 1 → exec .frameDiscardEthertype s = .next { s with host := { s.host with rxfrm := up s.host.rxfrm, fcserr := up s.host.fcserr } })
    ∧ (ready → s.arg = .nat n ch m → exec .pfcPauseRx s = .next paused.resumeSends)
    ∧ (ready → s.arg = .nat n ch m → s.host.held = [] → exec .pfcPauseRx s = .next paused)
    ∧ (s.arg = .nat ch n m → (if ch = 64 then tget s.host.qps 0x100 ≠ none else tget s.vds ch ≠ none) → c.dropped = 0 → s.host.pause = 0 → s.plat.cur ≠ .retention →
        (c.queued = [] → ∃ t, exec .eventSpaceReturn s = .next t ∧ t.out = s.out ∧ tgetD t.chans ch {} = { c with space := c.space + n })
        ∧ (c.queued = [e] → c.space = 0 → 0 < n → ∃ t, exec .eventSpaceReturn s = .next t ∧ s.says t (.event ch c.tag e)
            ∧ tgetD t.chans ch {} = { c with space := n - 1, queued := [], tag := (c.tag + 1) % 2 ^ 32 }))

/-- Packets of a queue pair, counts of the host port, pauses and posted buffers: RocePackets, HostPortCounts. -/
def Obligations.HostPackets : Prop :=
  Claims.RocePackets ∧ Claims.HostPortCounts

/-- 03 R69, R70, 02 R65, 04 R122, 00 R8: a read of a register answers with its value and clears its RC fields; a write of a register without
behaviour of its own gives it the value. -/
def Claims.RegisterFrames : Prop :=
  ∀ (s : State) (f : MgmtFrame) (r : Reg), s.arg = .frame f → s.mgmtUp = true → s.sec.bootfail = false →
    let c := s.countMgmt f
    let off := fieldB f.body 0 8
    let ok := fun (opc : Nat) => f.ver = 1 ∧ f.opc.toNat = opc ∧ f.short = false ∧ f.body.length = 16
    let reads := fun (i : Instr) => exec i s = .next ((c.regCleared r).answer f 0 (leBytes 8 (c.regValue r)))
    let v := BitVec.ofNat 64 (fieldB f.body 8 8)
    (ok 1 → off % 8 = 0 → fieldB f.body 8 2 = 1 → regAt off = some r →
      reads .mregRead ∧ (∀ n, r = .glStat n → reads .glStatRead) ∧ (∀ n, r = .hpStat n → reads .hpStatRead))
    ∧ (ok 1 → off % 8 ≠ 0 → exec .mregRead s = .next (c.answer f 3 []))
    ∧ (ok 1 → off % 8 = 0 → fieldB f.body 8 2 = 1 → regAt off = none → exec .mregRead s = .next (c.answer f 7 []))
    ∧ (ok 2 → off % 8 = 0 → regAt off = some r →
        (s.sec.st = .locked → s.standing f ≠ 1 → r ≠ .pwrCtl → exec .mregWrite s = .next (c.answer f 0xc []))
        ∧ (s.sec.st ≠ .locked ∨ s.standing f = 1 ∨ r = .pwrCtl → exec .mregWrite s = .next ((c.answer f 0 []).writeReg r v)
            ∧ (r.acts = false → exec .registerWrite s = .next ((c.answer f 0 []).writeReg r v))))

/-- 00 R8, 02 R65, 03 R93, 05 R158, 06 R186, 07 R223, 08 R257, 09 R283: what each writable register reads after a write: its RW fields as
written, the others as they were; a write of a read-only register changes nothing. -/
def Claims.RegisterWrites : Prop :=
  ∀ (s : State) (v : Word) (n : Nat), tsorted 0 s.vdRegs = true → tsorted 0 s.fab.routes = true → tsorted 0 s.fab.peering = true →
    let x := v.toNat
    let after := fun (r : Reg) => (s.writeReg r v).regValue r
    after .fabCfg = x % 2 ^ 17 + x / 2 ^ 24 % 2 ^ 8 * 2 ^ 24
    ∧ (s.plat.readyIo.extractLsb' 8 8 = 0 → after .fabId = x % 2 ^ 12) ∧ (s.plat.readyIo.extractLsb' 8 8 ≠ 0 → s.writeReg .fabId v = s)
    ∧ after (.vdSec n) = flagBit (v.getLsbD 1) 1 + flagBit (s.vd n).conf 0
    ∧ after (.fltCfg n) = x % 2 ^ 9 ∧ after .preCfg = x % 2 ^ 32 ∧ after (.dspCfg n) = x % 2 ^ 16
    ∧ after (.migCfg n) = x % 8 + x / 2 ^ 16 % 2 ^ 8 * 2 ^ 16 ∧ after (.bankCfg n) = x % 2 ^ 8
    ∧ (s.slotsReserved n = false → after (.vdSvbase n) = x / 2 ^ 16 % 2 ^ 41 * 2 ^ 16 ∧ after (.vdSvsize n) = x % 2 ^ 48)
    ∧ (s.slotsReserved n = true → s.writeReg (.vdSvbase n) v = s ∧ s.writeReg (.vdSvsize n) v = s)
    ∧ after (.route n) = x
    ∧ after (.peering n) = flagBit (v.getLsbD 63) 63 + x / 2 ^ 18 % 2 ^ 12 * 2 ^ 18 + x / 2 ^ 12 % 2 ^ 6 * 2 ^ 12 + x % 2 ^ 6
    ∧ (∀ r ∈ [Reg.readyIo, .readyFace, .readyBench, .failIo, .failFace, .failBench, .pwrStatus, .secStatus, .dbgStatus, .fwStatus, .featVer, .featMask,
          .glStat n, .hpStat n, .fltStat n, .vdCkst n, .dspStat n, .trip n], s.writeReg r v = s)

/-- What management registers read and what a write leaves in each: RegisterFrames, RegisterWrites. -/
def Obligations.ManagementRegisters : Prop :=
  Claims.RegisterFrames ∧ Claims.RegisterWrites

/-- 03 R70, R73, R94, 04 R95: CMDQP_OPEN opens queue pair 0x100 in place of any earlier one; WARM_RESET answers and brings the module up
anew; SESSION_AUTH gives an SPDM session its standing when key and signature fit; a secured message is performed at once, in its
session; a request that the channel does not know is refused. -/
def Claims.ManagementRequests : Prop :=
  ∀ (s : State) (f : MgmtFrame) (k : Nat) (x : Spdm), s.arg = .frame f → s.mgmtUp = true → s.sec.bootfail = false → f.ver = 1 → f.short = false →
    let c := s.countMgmt f
    let ok := fun (opc len : Nat) => f.opc.toNat = opc ∧ f.body.length = len
    let locked := s.sec.st = .locked ∧ s.standing f ≠ 1
    let key := sliceB f.body 1 97
    let who := fieldB f.body 0 1
    (ok 3 32 → locked → exec .cmdqpOpen s = .next (c.answer f 0xc []))
    ∧ (ok 3 32 → ¬ locked → s.hostReady = true → fieldB f.body 24 1 ≤ 2 → ∃ t q, exec .cmdqpOpen s = .next t
        ∧ tget t.host.qps 0x100 = some q ∧ q.err = false ∧ q.hqpn = BitVec.ofNat 24 (fieldB f.body 0 3) ∧ t.out = s.out ++ [.mgmt f.src f.opc f.tag 0 f.session (leBytes 4 0x100)]
        ∧ (∀ m, m ≠ 0x100 → tget t.host.qps m = tget s.host.qps m))
    ∧ (ok 4 0 → locked → exec .warmReset s = .next (c.answer f 0xc []))
    ∧ (ok 4 0 → ¬ locked → ∃ t, exec .warmReset s = .next t ∧ t.plat.since = some s.now ∧ t.plat.readyIo = 0 ∧ t.courses = [] ∧ t.vds = []
        ∧ t.sec.dbg = [] ∧ t.sec.spdm = [] ∧ t.sec.st = s.sec.st ∧ t.out = s.out ++ [.mgmt f.src f.opc f.tag 0 f.session []])
    ∧ (ok 5 194 → f.session = some k → tget s.sec.spdm k = some x → x.finished = true → who = 1 ∨ who = 2 →
        let good := sha384 key = (if who = 1 then s.sec.ownerHash else s.sec.debugHash)
          ∧ ecdsaOk key (sha384 (Config.transcript x.id) ++ [f.body.getD 0 0]) (sliceB f.body 98 96) = true
        (good → exec .sessionAuth s = .next ({ c with sec := { s.sec with spdm := tset s.sec.spdm k { x with standing := who } } }.answer f 0 []))
        ∧ (¬ good → exec .sessionAuth s = .next (c.answer f 0xf [])))
    ∧ (∀ l, f.opc.toNat = 0x31 → longFrame f = false → 6 ≤ f.body.length → tget s.sec.spdm (fieldB f.body 2 2) = some x → x.finished = true →
        x.opened f.body = some l →
        let g := frameOf f.src (fieldB f.body 2 2) l
        let u := { c with arg := .frame g, sec := { s.sec with spdm := tset s.sec.spdm (fieldB f.body 2 2) { x with carried := x.carried + 1 } } }
        let names : List (Nat × Instr) := [(1, .mregRead), (2, .mregWrite), (3, .cmdqpOpen), (4, .warmReset), (5, .sessionAuth), (0x10, .secProvision),
          (0x11, .secLock), (0x12, .secUnlock), (0x13, .secSetdbg), (0x18, .fwUpdate), (0x19, .fwData), (0x1a, .fwEnd), (0x20, .dbgOpen), (0x21, .dbgClose)]
        ∃ t v, exec .securedMessage s = .next t
          ∧ (∀ i, g.ver = 1 → (g.opc.toNat, i) ∈ names → exec i u = .next v)
          ∧ (g.ver ≠ 1 ∨ g.opc.toNat ∉ names.map (·.1) → exec .mgmtBadOpcode u = .next v)
          ∧ t = { v with out := t.out, sec := t.sec } ∧ t.sec = { v.sec with spdm := t.sec.spdm } ∧ (∀ m, m ≠ fieldB f.body 2 2 → tget t.sec.spdm m = tget v.sec.spdm m)
          ∧ (∀ st b, v.out = s.out ++ [.mgmt g.src g.opc g.tag st (some (fieldB f.body 2 2)) b] →
              t.out = s.out ++ [.mgmt g.src 0x31 f.tag 0 (some (fieldB f.body 2 2)) (x.protect (fieldB f.body 2 2) (mgmtPayload g.opc st g.tag b))]))
    ∧ (isRequest f.opc.toNat = false → longFrame f = false → f.opc ≠ 0x30 → f.opc ≠ 0x31 → exec .mgmtBadOpcode s = .next (c.answer f 2 []))

/-- 03 R72, R73, R86, R87: SPDM requests: what each answers, in the version of its request, and how a session begins, is finished and ends. -/
def Claims.SpdmRequests : Prop :=
  ∀ (s : State) (f : MgmtFrame) (n : Nat) (x : Spdm),
    s.arg = .frame f → f.opc = 0x30 → s.mgmtUp = true → f.ver = 1 → f.short = false → 4 ≤ f.body.length → longFrame f = false → s.sec.bootfail = false →
    let c := s.countFrame
    let ver := fieldB f.body 0 1
    let asks := fun (code : Nat) => fieldB f.body 1 1 = code ∧ if code = 0x84 then ver = 0x10 else ver = 0x12 ∨ ver = 0x13
    let tells := fun (i : Instr) (r : SpdmReply) => exec i s = .next (c.send (.spdm f.src f.tag ver r))
    let op := fieldB f.body 3 1
    let ms := s.measurements
    let key := Config.identity s.sec.seed (sha384 s.sec.image)
    let chain := Config.certChain key
    let off := fieldB f.body 4 2
    let drawn := { c with sec := { s.sec with draws := s.sec.draws + 1 } }
    let rand := Config.random s.sec.draws 32
    (asks 0x84 → tells .spdmGetVersion (.version [0x12, 0x13])) ∧ (asks 0xe1 → tells .spdmGetCapabilities .capabilities)
    ∧ (asks 0xe3 → tells .spdmNegotiateAlgorithms (.algorithms [.ecdsaP384, .sha384, .secp384r1, .aes256gcm]))
    ∧ (fieldB f.body 1 1 ∉ [0x81, 0x82, 0x83, 0x84, 0xe0, 0xe1, 0xe3, 0xe4, 0xe5, 0xe8, 0xec] → ver = 0x12 ∨ ver = 0x13 → tells .spdmUnsupportedRequest .unsupported)
    ∧ (asks 0x81 → tells .spdmGetDigests (.digests [sha384 chain]))
    ∧ (asks 0x82 → fieldB f.body 2 1 % 16 = 0 → 8 ≤ f.body.length →
        tells .spdmGetCertificate (if off < chain.length then .certificate ((chain.drop off).take (fieldB f.body 6 2)) else .invalid))
    ∧ (asks 0x82 → fieldB f.body 2 1 % 16 ≠ 0 → tells .spdmGetCertificate .invalid)
    ∧ (asks 0x83 → exec .spdmChallenge s = .next (drawn.send (.spdm f.src f.tag ver (.challengeAuth (Config.sign key (f.body ++ rand ++ chain))))))
    ∧ (asks 0xe0 → (op = 0 → tells .spdmGetMeasurements (.measurementCount ms.length)) ∧ (op = 0xff → tells .spdmGetMeasurements (.measurements ms))
      ∧ (∀ m, op ≠ 0 → op ≠ 0xff → ms.find? (fun y => y.1 = op) = some m → tells .spdmGetMeasurements (.measurements [m])))
    ∧ (asks 0xe4 → (∀ i < 8, tget s.sec.spdm i ≠ none) → tells .spdmKeyExchange .busy)
    ∧ (asks 0xe4 → n < 8 → tget s.sec.spdm n = none → (∀ i < n, tget s.sec.spdm i ≠ none) → ∃ t y, exec .spdmKeyExchange s = .next t
        ∧ tget t.sec.spdm n = some y ∧ y.id = s.sec.draws ∧ y.finished = false ∧ y.standing = 0 ∧ y.carried = 0
        ∧ t.sec.draws = s.sec.draws + 1 ∧ t.out = s.out ++ [.spdm f.src f.tag ver (.keyExchange n rand)])
    ∧ (f.session = none → (asks 0xe5 → tells .spdmFinish .unexpected) ∧ (asks 0xe8 → tells .spdmHeartbeat .unexpected)
      ∧ (asks 0xec → tells .spdmEndSession .unexpected))
    ∧ (asks 0xe5 → f.session = some n → tget s.sec.spdm n = some x → x.finished = false → ∃ t, exec .spdmFinish s = .next t
        ∧ tget t.sec.spdm n = some { x with finished := true } ∧ t.out = s.out ++ [.spdm f.src f.tag ver .finish])
    ∧ (f.session = some n → tget s.sec.spdm n = some x → x.finished = true → (asks 0xe8 → tells .spdmHeartbeat .heartbeat)
        ∧ (asks 0xec → s.sec.dbg = [] → tsorted 0 s.sec.spdm = true → ∃ t, exec .spdmEndSession s = .next t ∧ tget t.sec.spdm n = none
            ∧ (∀ m, m ≠ n → tget t.sec.spdm m = tget s.sec.spdm m) ∧ t.out = s.out ++ [.spdm f.src f.tag ver .endSession]))

/-- CMDQP_OPEN, WARM_RESET, SESSION_AUTH, secured messages and SPDM requests: ManagementRequests, SpdmRequests. -/
def Obligations.ManagementRequests : Prop :=
  Claims.ManagementRequests ∧ Claims.SpdmRequests

/-- 03 R71, R77, R78: which security requests are accepted and what each leaves; a refused one changes nothing but the count of frames and
its answer. No request returns the module to Unprovisioned. -/
def Obligations.SecurityRequests : Prop :=
  ∀ (s : State) (f : MgmtFrame), s.arg = .frame f → s.mgmtUp = true → s.sec.bootfail = false → f.ver = 1 → f.short = false →
    let c := s.countMgmt f
    let ok := fun (opc len : Nat) => f.opc.toNat = opc ∧ f.body.length = len
    let tr := f.body.drop (f.body.length - 201)
    let key := sliceB tr 0 97
    let count := fieldB tr 97 8
    let sigOk := sha384 key = s.sec.ownerHash ∧ ecdsaOk key ([f.ver, f.opc] ++ f.body.take (f.body.length - 201) ++ key ++ sliceB tr 97 8
      ++ sha384 (Config.identity s.sec.seed (sha384 s.sec.image))) (sliceB tr 105 96) = true
    let refused := fun (i : Instr) (st : Nat) => exec i s = .next (c.answer f st [])
    let owner := s.sec.st ≠ .locked ∨ s.standing f = 1
    let accepted := fun (i : Instr) (x : Sec) => exec i s = .next ({ c with sec := x }.answer f 0 [])
    (ok 0x10 152 → (s.sec.st ≠ .unprovisioned → refused .secProvision 6)
      ∧ (s.sec.st = .unprovisioned → s.plat.cur = .retention → refused .secProvision 0x11)
      ∧ (s.sec.st = .unprovisioned → s.plat.cur ≠ .retention → accepted .secProvision { s.sec with
          st := .openState, ownerHash := sha384 (sliceB f.body 0 97), debugHash := sliceB f.body 97 48 }))
    ∧ (ok 0x11 201 → (s.sec.st ≠ .openState → refused .secLock 6)
      ∧ (s.sec.st = .openState → (¬ sigOk → refused .secLock 0xf) ∧ (sigOk → count ≤ s.sec.counter → refused .secLock 0x10)
        ∧ (sigOk → s.sec.counter < count → s.sec.updating = true → refused .secLock 0x12)
        ∧ (sigOk → s.sec.counter < count → s.sec.updating = false → s.sec.level = 2 → refused .secLock 0xd)
        ∧ (sigOk → s.sec.counter < count → s.sec.updating = false → s.sec.level ≠ 2 →
            accepted .secLock { s.sec with st := .locked, counter := count })))
    ∧ (ok 0x13 249 → (s.sec.st = .unprovisioned → refused .secSetdbg 6) ∧ (¬ owner → refused .secSetdbg 0xc)
      ∧ (s.sec.st ≠ .unprovisioned → owner → (¬ sigOk → refused .secSetdbg 0xf) ∧ (sigOk → count ≤ s.sec.counter → refused .secSetdbg 0x10)
        ∧ (sigOk → s.sec.counter < count → accepted .secSetdbg { s.sec with debugHash := sliceB f.body 0 48, counter := count })))
    ∧ (ok 0x12 201 → (s.sec.st ≠ .locked → refused .secUnlock 6) ∧ (¬ owner → refused .secUnlock 0xc)
      ∧ (s.sec.st = .locked → owner → sigOk → s.sec.counter < count → s.sec.updating = false →
          ∃ t, exec .secUnlock s = .next t ∧ t.sec.st = .openState ∧ t.dram = [] ∧ t.sram = [] ∧ t.sramPoison = [] ∧ t.full = [] ∧ t.poison = []
            ∧ (s.vds = [] → t.sec.dbg = [] ∧ t.sec.counter = count ∧ t.sec.ownerHash = s.sec.ownerHash)))

/-- 03 R74, R83 to R85, R93: an update is received into the inactive slot, verified, and then staged or rejected with its reason. -/
def Claims.FirmwareUpdate : Prop :=
  ∀ (s : State) (f : MgmtFrame), s.arg = .frame f → s.mgmtUp = true → f.ver = 1 → f.short = false →
    let c := s.countMgmt f
    let ok := fun (opc : Nat) => f.opc.toNat = opc
    let off := fieldB f.body 4 4
    let d := f.body.drop 8
    let mine := s.sec.stage = .receiving ∧ (s.sec.st ≠ .locked ∨ s.sessionId f = s.sec.updSession) ∧ fieldB f.body 0 4 = s.sec.update
    let b := s.sec.target.bytes
    let bad := Config.imageMalformed b = true ∨ s.sec.imageOk b = false ∨ Config.imageSvn b < s.sec.fuseSvn
    (ok 0x18 → f.body.length = 209 → s.sec.bootfail = false → s.sec.st ≠ .unprovisioned → s.sec.st ≠ .locked ∨ s.standing f = 1 →
        s.sec.signedBy f = 0 → s.sec.dbg = [] → s.plat.busy = false → s.plat.cur = .p0 ∨ s.plat.cur = .p1 → s.sec.updating = false →
        ∃ t, exec .fwUpdate s = .next t ∧ t.sec.stage = .receiving ∧ t.sec.updLen = fieldB f.body 0 4 ∧ t.sec.update = (s.sec.update + 1) % 2 ^ 32
          ∧ t.sec.target.valid = false ∧ t.sec.updSession = s.sessionId f ∧ t.sec.slot = s.sec.slot
          ∧ (if s.sec.slot then t.sec.slotB = s.sec.slotB else t.sec.slotA = s.sec.slotA)
          ∧ t.out = s.out ++ [.mgmt f.src f.opc f.tag 0 f.session (leBytes 4 t.sec.update)])
    ∧ (ok 0x19 → 8 ≤ f.body.length → f.body.length ≤ 8200 →
        (mine → off % 4096 = 0 → off + d.length ≤ s.sec.updLen → exec .fwData s = .next ({ c with
          sec := s.sec.setTarget { s.sec.target with data := Memory.writeL s.sec.target.data off d } }.answer f 0 []))
        ∧ (s.sec.stage ≠ .receiving → exec .fwData s = .next (c.answer f 6 []))
        ∧ (mine → off % 4096 ≠ 0 → exec .fwData s = .next (c.answer f 3 [])))
    ∧ (ok 0x1a → f.body.length = 4 → mine →
        (s.sec.updLen ≤ 33554432 → exec .fwEnd s = .next (({ c with sec := { s.sec with stage := .verifying } }.answer f 0 []).post (s.now + 1) .fwVerifyDone .none))
        ∧ (33554432 < s.sec.updLen → exec .fwEnd s = .next ({ c with sec := { s.sec with stage := .rejected, reason := 3 } }.answer f 0 [])))
    ∧ (s.sec.stage = .verifying →
        (bad → ∃ n, exec .fwVerifyDone s = .next { s with sec := { s.sec with stage := .rejected, reason := n } }
          ∧ n = if Config.imageMalformed b = true then 4 else if s.sec.imageOk b = false then 1 else 2)
        ∧ (¬ bad → exec .fwVerifyDone s = .next { s with
            sec := { s.sec.setTarget { s.sec.target with valid := true } with stage := .staged, pending := true } }))

/-- 03 R73, R85, R88 to R91: a debug session is granted in the order of checks of R89, ends for the one who opened it, and only a session of
level Invasive halts a course of its device, reads the registers of a halted one and the device's memory, and lets it go on. -/
def Claims.DebugSessions : Prop :=
  ∀ (s : State) (f : MgmtFrame) (k cid : Nat) (d : Dbg) (x : Course) (z : Nat),
    let c := s.countMgmt f
    let up := s.arg = .frame f ∧ s.mgmtUp = true ∧ s.sec.bootfail = false ∧ f.ver = 1 ∧ f.short = false
    let n := fieldB f.body 0 1
    let level := fieldB f.body 1 1
    let buf := fieldB f.body 8 8
    let len := fieldB f.body 16 8
    let v := s.vd n
    (up → f.opc.toNat = 0x20 → f.body.length = 24 → n ≠ 255 → s.sec.st ≠ .unprovisioned →
        (level = 0 ∨ 2 < level → exec .dbgOpen s = .next (c.answer f 3 []))
        ∧ (level = 1 ∨ level = 2 → tget s.vds n = none → exec .dbgOpen s = .next (c.answer f 7 []))
        ∧ (tget s.vds n ≠ none → v.conf = true → level = 2 → exec .dbgOpen s = .next (c.answer f 0xa []))
        ∧ (level = 1 ∨ level = 2 → tget s.vds n ≠ none → ¬ (v.conf = true ∧ level = 2) → s.sec.st ≠ .locked ∨ s.standing f = 2 → s.plat.cur ≠ .retention →
            s.sec.updating = false → s.sec.dbg.length < 8 → len ≠ 0 → len % 4096 = 0 → buf + len ≤ 2 ^ 57 → v.mapsAll buf len = true → v.allows buf len 1 = true →
            (∀ i < 8, i < k → tget s.sec.dbg i ≠ none) → k < 8 → tget s.sec.dbg k = none →
            ∃ t e, exec .dbgOpen s = .next t ∧ tget t.sec.dbg k = some e ∧ e.vd = n ∧ e.level = level ∧ e.mac = f.src ∧ e.session = f.session
              ∧ e.buf = BitVec.ofNat 64 buf ∧ e.len = len ∧ (∀ j, j ≠ k → tget t.sec.dbg j = tget s.sec.dbg j)
              ∧ t.out = s.out ++ [.mgmt f.src f.opc f.tag 0 f.session (leBytes 1 k)]))
    ∧ (up → f.opc.toNat = 0x21 → f.body.length = 8 → tget s.sec.dbg n = none → exec .dbgClose s = .next (c.answer f 7 []))
    ∧ (up → f.opc.toNat = 0x21 → f.body.length = 8 → tget s.sec.dbg n = some d → s.sec.st ≠ .locked → f.src = d.mac →
        ∃ t, exec .dbgClose s = .next t ∧ t.sec.dbg = s.sec.dbg.filter (fun p => p.1 ≠ n) ∧ t.dram = s.dram ∧ t.courses = s.courses)
    ∧ (s.arg = .nat k cid z → tget s.courses cid = some x →
        let all := fun (e : Dbg) => e.vd = 255 ∧ s.sec.st ≠ .locked
        let may := ∃ e, tget s.sec.dbg k = some e ∧ e.level = 2 ∧ (e.vd = s.vdOf cid ∨ all e) ∧ s.plat.cur ≠ .retention
        let own := ∃ e, tget s.sec.dbg k = some e ∧ e.level = 2 ∧ e.vd = s.vdOf cid ∧ e.vd ≠ 255 ∧ s.plat.cur ≠ .retention
        let whole := ∃ e, tget s.sec.dbg k = some e ∧ e.level = 2 ∧ all e ∧ s.plat.cur ≠ .retention
        let sees := fun (op : DbgOp) (l : List Word) => exec .debugHalt { s with arg := .debug k cid op } = .next ({ s with arg := .debug k cid op }.send (.debug k l))
        (may → x.st = .halted → ∀ file rn lane, sees (.readReg file rn lane) [x.readFile file rn lane])
        ∧ (whole → ∀ pa l, sees (.readMem pa l) (packWords (Memory.readN s.dram pa l)))
        ∧ (own → ∀ va l, (s.vd (s.vdOf cid)).mapsAll va l = true → sees (.readMem va l) (packWords (s.peekVA (s.vdOf cid) va l)))
        ∧ ((∀ e, tget s.sec.dbg k = some e → e.level ≠ 2 ∨ s.plat.cur = .retention ∨ (e.vd = 255 ∧ s.sec.st = .locked)) →
            ∀ op, exec .debugHalt { s with arg := .debug k cid op } = .next { s with arg := .debug k cid op })
        ∧ (may → x.st = .running → exec .debugHalt s = .next (s.setCourse cid { x with st := .halted }))
        ∧ (may → x.st = .halted → exec .debugResume s = .next (s.setCourse cid { x with st := .running }))
        ∧ (¬ may → exec .debugHalt s = .next s ∧ exec .debugResume s = .next s))

/-- Firmware updates and debug sessions: FirmwareUpdate, DebugSessions. -/
def Obligations.FirmwareAndDebug : Prop :=
  Claims.FirmwareUpdate ∧ Claims.DebugSessions

/-- 04 R96, R98, R100, 03 R77: the form of a command message is checked before what it asks: its version, its opcode for its channel, its
length. -/
def Claims.CommandForms : Prop :=
  ∀ (s : State) (c : Cmd) (n opc : Nat) (i : Instr), s.hears c n → cmdInstr opc = some i → c.opc.toNat = opc →
    let own := [0x01, 0x02, 0x03, 0x08, 0x09, 0x0a, 0x0b, 0x0c, 0x10].contains opc
    let refused := fun (st : Nat) => exec i s = .next (s.send (.resp c.qpn (if st = 1 then 3 else c.ver) c.opc c.tag st []))
    (c.ver ≠ 2 → c.ver ≠ 3 → refused 1)
    ∧ (c.ver = 3 → (c.qpn = 0x100) ≠ (own = true) → refused 2)
    ∧ (c.ver = 2 → 8 ≤ opc → opc ≤ 0x0c → refused 2)
    ∧ (c.ver = 3 → (c.qpn = 0x100 ↔ own = true) → c.sendLen ≠ 16 + c.len → refused 3)

/-- 04 R103, R104, R120: VD_CREATE takes the lowest free number and its channel; VD_QUERY and FEAT_QUERY answer from the device; VD_DESTROY
drains its queues, and when nothing of it is left its memory reads zero and the command responds. -/
def Claims.DeviceCommands : Prop :=
  ∀ (s : State) (c : Cmd) (n : Nat) (v : VDev),
    let p := fun (off k : Nat) => fieldB c.params off k
    let resp := fun (st : Nat) (b : List Byte) => HostMsg.resp c.qpn c.ver c.opc c.tag st b
    let m := p 0 1
    (s.hears c 0 → cmdHas c 1 64 true → s.sec.st = .unprovisioned → exec .vdCreate s = .next (s.send (resp 6 [])))
    ∧ (s.hears c 0 → cmdHas c 1 64 true → s.sec.st ≠ .unprovisioned → fieldB (c.params.drop 24) 24 1 ≤ 2 → 1 ≤ p 8 2 → p 8 2 ≤ 256 → 1 ≤ p 10 2 → p 10 2 ≤ 256 →
        p 16 8 ≠ 0 → (c.flags.getLsbD 0 = true → s.sec.st = .locked) → n < 64 → tget s.vds n = none → (∀ i < n, tget s.vds i ≠ none) →
        ((s.vds.map (·.2.memq)).foldl (· + ·) 0) + p 0 8 ≤ 786432 → s.host.qps.length < 8192 →
        ∃ t w q, exec .vdCreate s = .next t ∧ tget t.vds n = some w ∧ w.memq = p 0 8 ∧ w.queueq = p 8 2 ∧ w.qpq = p 10 2 ∧ w.benches = BitVec.ofNat 64 (p 16 8)
          ∧ w.conf = c.flags.getLsbD 0 ∧ w.maps = [] ∧ tget t.host.qps (0x100000 + 256 * n) = some q ∧ q.vd = some n ∧ q.err = false
          ∧ (∀ i, i ≠ n → tget t.vds i = tget s.vds i) ∧ t.dram = s.dram ∧ s.says t (resp 0 (leBytes 4 n ++ leBytes 4 (0x100000 + 256 * n))))
    ∧ (s.hears c 0 → cmdHas c 2 8 true → tget s.vds m = none → exec .vdDestroy s = .next (s.send (resp 7 [])))
    ∧ (s.hears c 0 → cmdHas c 2 8 true → tget s.vds m = some v → s.unheld m → v.awaits = true → exec .vdDestroy s = .next (s.send (resp 0xe [])))
    ∧ (s.hears c 0 → cmdHas c 2 8 true → tget s.vds m = some v → s.unheld m → v.awaits = false →
        (∃ t, exec .vdDestroy s = .next t ∧ ∃ d ∈ t.agenda, d.ev = { i := .vdDestroyComplete, arg := .nat m 0 0 })
        ∧ (s.vdQueues m = [] → ∃ t, exec .vdDestroy s = .next t ∧ t.waits = s.waits ++ [{ cmd := c, vd := m }] ∧ (t.vd m) = { v with destroying := true }
            ∧ t.dram = s.dram ∧ t.out = s.out))
    ∧ (s.arg = .nat m 0 0 → (s.vd m).destroying = true → s.vdQueues m = [] → (∀ q ∈ s.vdTasks m, q.2.st = .done) → tsorted 0 s.vds = true →
        ∃ t, exec .vdDestroyComplete s = .next t ∧ tget t.vds m = none ∧ (∀ w ∈ s.waits, w.vd = m → HostMsg.resp w.cmd.qpn w.cmd.ver w.cmd.opc w.cmd.tag 0 [] ∈ t.out ++ t.host.held)
          ∧ (∀ g ∈ (s.vd m).maps, ∀ b ∈ g.phys, ∀ a, b ≤ a → a < b + pageBytes g.page → Memory.read t.dram a = 0))
    ∧ (s.hears c 0 → cmdHas c 3 8 true → tget s.vds m = some v → ∃ b, exec .vdQuery s = .next (s.send (resp 0 b)) ∧ b.length = 48
        ∧ fieldB b 0 1 = m ∧ fieldB b 4 4 = v.asid % 2 ^ 32 ∧ fieldB b 8 8 = v.memq % 2 ^ 64 ∧ fieldB b 16 8 = v.used % 2 ^ 64 ∧ fieldB b 24 2 = v.queueq % 65536
        ∧ fieldB b 28 2 = v.qpq % 65536 ∧ fieldB b 32 8 = v.benches.toNat)
    ∧ (s.hears c n → cmdHas c 0x2c 0 false → s.serves n → exec .featQuery s = .next (s.send (resp 0 (leBytes 8 (s.featVer (s.vd n).migs) ++ leBytes 8 0x3f))))

/-- 04 R95, R107, R120, 01 R33: queue pairs, memory regions and the registers that a device may read. -/
def Claims.ChannelCommands : Prop :=
  ∀ (s : State) (c : Cmd) (n k : Nat) (q : Qp) (r : MemRegion),
    let p := fun (off w : Nat) => fieldB c.params off w
    let resp := fun (st : Nat) (b : List Byte) => HostMsg.resp c.qpn c.ver c.opc c.tag st b
    let num := 0x100000 + 256 * n + k
    (s.hears c 0 → cmdHas c 0x10 16 true → p 0 8 % 8 = 0 → p 8 2 = 1 →
        (∀ e, regAt (p 0 8) = some e → e ∈ [Reg.readyIo, .readyFace, .readyBench, .failIo, .failFace, .failBench, .featVer, .featMask] →
          exec .regRead s = .next (s.send (resp 0 (leBytes 8 (s.regValue e)))))
        ∧ ((∀ e, regAt (p 0 8) = some e → e ∉ [Reg.readyIo, .readyFace, .readyBench, .failIo, .failFace, .failBench, .featVer, .featMask]) →
          exec .regRead s = .next (s.send (resp 3 []))))
    ∧ (s.hears c n → (s.vd n).destroying = false → cmdHas c 0x20 32 false → p 24 1 ≤ 2 → k < 256 → tget s.host.qps num = none →
        (∀ i < k, tget s.host.qps (0x100000 + 256 * n + i) ≠ none) →
        ((s.vdQps n).length < (s.vd n).qpq → (s.allQps n).length < 256 → s.host.qps.length < 8192 → ∃ t e, exec .qpCreate s = .next t ∧ tget t.host.qps num = some e ∧ e.vd = some n ∧ e.err = false
          ∧ e.hqpn = BitVec.ofNat 24 (p 0 3) ∧ (∀ j, j ≠ num → tget t.host.qps j = tget s.host.qps j) ∧ s.says t (resp 0 (leBytes 4 num ++ leBytes 4 0)) ∧ t = { s with host := t.host, out := t.out })
        ∧ ((s.vd n).qpq ≤ (s.vdQps n).length ∨ 256 ≤ (s.allQps n).length → exec .qpCreate s = .next (s.send (resp 4 []))))
    ∧ (s.hears c n → s.serves n → cmdHas c 0x21 8 false → tget s.host.qps (p 0 4) = some q → q.vd = some n → q.mig = false →
        (p 0 4 % 256 = 0 → exec .qpDestroy s = .next (s.send (resp 3 [])))
        ∧ (p 0 4 % 256 ≠ 0 → exec .qpDestroy s = .next ({ s with host := { s.host with qps := tdel s.host.qps (p 0 4) } }.send (resp 0 []))))
    ∧ (s.hears c n → s.serves n → cmdHas c 0x21 8 false → tget s.host.qps (p 0 4) = none → exec .qpDestroy s = .next (s.send (resp 7 [])))
    ∧ (s.hears c n → (s.vd n).destroying = false → cmdHas c 0x24 24 false → (s.host.mrs.filter (fun e => e.2.vd = n)).length < 1024 → s.sched = [] → s.host.mrs.length + s.vds.length < 2 ^ 32 - 1 →
        ∃ t key e, exec .mrReg s = .next t ∧ tget t.host.mrs key = some e ∧ e.vd = n ∧ e.va = BitVec.ofNat 64 (p 0 8) ∧ e.len = p 8 8 ∧ e.perm = p 16 1 % 4
          ∧ e.rkey = BitVec.ofNat 32 key ∧ tget s.host.mrs key = none ∧ (∀ j, j ≠ key → tget t.host.mrs j = tget s.host.mrs j)
          ∧ s.says t (resp 0 (leBytes 4 key ++ leBytes 4 0)) ∧ t = { s with host := t.host, out := t.out })
    ∧ (s.hears c n → s.serves n → cmdHas c 0x25 8 false →
        (tget s.host.mrs (p 0 4) = some r → r.vd = n → exec .mrDereg s = .next ({ s with host := { s.host with mrs := tdel s.host.mrs (p 0 4) } }.send (resp 0 [])))
        ∧ (tget s.host.mrs (p 0 4) = some r → r.vd ≠ n → exec .mrDereg s = .next (s.send (resp 7 [])))
        ∧ (tget s.host.mrs (p 0 4) = none → exec .mrDereg s = .next (s.send (resp 7 []))))

/-- The form of commands; devices, queue pairs, memory regions and readable registers: CommandForms, DeviceCommands, ChannelCommands. -/
def Obligations.HostCommands : Prop :=
  Claims.CommandForms ∧ Claims.DeviceCommands ∧ Claims.ChannelCommands

/-- 04 R105, R106: MAP gives a free range its backing, which reads zero, and takes it from the quota; UNMAP makes the range fail at once and
answers when what was under way is done. -/
def Obligations.MappingCommands : Prop :=
  ∀ (s : State) (c : Cmd) (n : Nat) (phys : List Nat),
    let p := fun (off w : Nat) => fieldB c.params off w
    let resp := fun (st : Nat) (b : List Byte) => HostMsg.resp c.qpn c.ver c.opc c.tag st b
    let va := p 0 8
    let len := p 8 8
    let size := pageBytes (p 16 1)
    let v := s.vd n
    let good := p 16 1 ≤ 2 ∧ len ≠ 0 ∧ va % size = 0 ∧ len % size = 0 ∧ va + len ≤ 2 ^ 57 ∧ p 20 4 ≠ 0 ∧ s.rangeWaits n va len = false
    let faces := (List.range 32).filter (fun i => (p 20 4).testBit i)
    let m : Mapping := { va, len, page := p 16 1, perm := BitVec.ofNat 3 (p 17 1), phys }
    (s.hears c n → v.destroying = false → cmdHas c 0x22 32 false →
      (va % size ≠ 0 ∨ len = 0 → exec .map s = .next (s.send (resp 3 [])))
      ∧ (good → (∃ x ∈ v.maps, x.va < va + len ∧ va < x.va + x.len) → exec .map s = .next (s.send (resp 8 [])))
      ∧ (good → (∀ x ∈ v.maps, ¬ (x.va < va + len ∧ va < x.va + x.len)) → v.memq < unitsOf (m :: v.maps) → exec .map s = .next (s.send (resp 4 [])))
      ∧ (good → (∀ x ∈ v.maps, ¬ (x.va < va + len ∧ va < x.va + x.len)) → unitsOf (m :: v.maps) ≤ v.memq → s.backing faces size (len / size) 0 [] = some phys → s.queues = [] →
          ∃ t, exec .map s = .next t ∧ (t.vd n).maps = putMap m v.maps ∧ (t.vd n).used = unitsOf (m :: v.maps) ∧ (∀ i, i ≠ n → t.vd i = s.vd i)
            ∧ (∀ b ∈ phys, ∀ a, b ≤ a → a < b + size → Memory.read t.dram a = 0)
            ∧ (s.memWf = true → ∀ a, (∀ b ∈ phys, a < b ∨ b + size ≤ a) → Memory.read t.dram a = Memory.read s.dram a) ∧ s.says t (resp 0 [])))
    ∧ (s.hears c n → s.serves n → cmdHas c 0x23 16 false → s.rangeWaits n va len = false →
        (∀ x ∈ v.maps, x.va + x.len ≤ va ∨ va + len ≤ x.va ∨ (va ≤ x.va ∧ x.va + x.len ≤ va + len ∧ x.len % pageBytes x.page = 0)) → s.tasks = [] →
        ∃ t, exec .unmap s = .next t ∧ (t.vd n).maps = v.maps.filter (fun x => x.va + x.len ≤ va || va + len ≤ x.va)
          ∧ (∀ core e, e ∈ tgetD t.atlb core [] → e.vd = n → ¬ (va ≤ e.granule * 65536 ∧ e.granule * 65536 < va + len)) ∧ (v.keys = none → t.dram = s.dram) ∧ t.out = s.out
          ∧ t.waits = s.waits ++ [{ cmd := c, vd := n, obj := va, len }]
          ∧ { tick := s.now + 1, ev := { i := .unmapComplete, arg := .nat n va len } } ∈ t.agenda)
    ∧ (s.arg = .nat n va len → s.waits = [{ cmd := c, vd := n, obj := va, len }] → c.opc.toNat = 0x23 → c.ver = 3 →
        exec .unmapComplete s = .next ({ s with waits := [] }.send (resp 0 [])))

/-- 04 R108 to R117: QUEUE_CREATE takes the lowest free index with the next generation, and HEAD from the tail word; QUEUE_QUERY reads the
descriptor; QUEUE_RESET makes a queue in ERROR active again; QUEUE_DESTROY drains it, and its end retires the index's generation. -/
def Obligations.QueueCommands : Prop :=
  ∀ (s : State) (c : Cmd) (n k : Nat),
    let p := fun (off w : Nat) => fieldB c.params off w
    let resp := fun (st : Nat) (b : List Byte) => HostMsg.resp c.qpn c.ver c.opc c.tag st b
    let v := s.vd n
    let home := p 50 1 % 64
    let q := s.queue k
    let gen := nextGen (tget s.qgens k)
    let handle := BitVec.ofNat 64 (s.fab.modid.toNat * 2 ^ 52 + n * 2 ^ 46 + k * 2 ^ 34 + gen)
    let named := s.findQueue (BitVec.ofNat 64 (p 0 8)) = some k ∧ q.vd = n
    (s.hears c n → s.serves n → v.mig ≠ .stopping → v.mig ≠ .stopped → v.ck = .running → cmdHas c 0x28 128 false →
      p 0 8 % 4096 = 0 → p 0 8 < 2 ^ 57 → p 8 8 % 8 = 0 → p 16 8 % 8 = 0 → 4 ≤ p 48 1 % 32 → p 48 1 % 32 ≤ 20 → p 49 1 % 4 ≤ 1 → v.benches.getLsbD home = true →
      p 40 8 = 0 → k < 4096 → q.live = false → (∀ i < k, (s.queue i).live = true) → (s.vdQueues n).length < v.queueq → s.plat.readyBench.getLsbD home = true →
      p 24 8 = 0 → p 32 8 = 0 → p 96 8 = 0 → s.readFail n (p 8 8) 8 = none → s.writeFail n (p 16 8) 8 = none →
      let tail := leNat (s.peekVA n (p 8 8) 4)
      ∃ t, exec .queueCreate s = .next t ∧ t.queue k = {
            vd := n, gen := gen, kind := (p 49 1 % 4), prio := (bits (p 49 1) 6 4), size := (p 48 1 % 32),
            base := BitVec.ofNat 64 (p 0 8), tailva := BitVec.ofNat 64 (p 8 8), headva := BitVec.ofNat 64 (p 16 8), home := home, tEntry := BitVec.ofNat 64 (p 64 8),
            tBudget := (p 72 5), tDeadline := (p 80 6), tExtents := BitVec.ofNat 64 (p 88 8), head := tail, tail := tail }
        ∧ (∀ i, i ≠ k → t.queue i = s.queue i) ∧ s.says t (resp 0 (leBytes 8 handle.toNat)))
    ∧ (s.hears c n → v.awaits = false → cmdHas c 0x2a 8 false → named → ∃ b, exec .queueQuery s = .next (s.send (resp 0 b)) ∧ b.length = 128
        ∧ fieldB b 0 8 = q.base.toNat ∧ fieldB b 8 8 = q.tailva.toNat ∧ fieldB b 16 8 = q.headva.toNat ∧ fieldB b 24 8 = q.faultq.toNat ∧ fieldB b 32 8 = q.statusq.toNat
        ∧ fieldB b 48 1 = q.size % 256 ∧ fieldB b 50 1 = q.home % 256 ∧ fieldB b 52 4 = (if q.inited then q.head else 0) % 2 ^ 32)
    ∧ (s.hears c n → v.awaits = false → cmdHas c 0x2a 8 false → s.findQueue (BitVec.ofNat 64 (p 0 8)) = none → exec .queueQuery s = .next (s.send (resp 7 [])))
    ∧ (s.hears c n → s.serves n → cmdHas c 0x2b 8 false → named → s.queueWaits k = false →
        (q.st ≠ .error → exec .queueReset s = .next (s.send (resp 6 [])))
        ∧ (q.st = .error → c.flags.getLsbD 0 = false → exec .queueReset s = .next ((s.setQueue k { q with st := .active }).send (resp 0 [])))
        ∧ (q.st = .error → c.flags.getLsbD 0 = true → s.writeFail n q.headva.toNat 8 = none →
            let h := (q.head + 1) % 2 ^ 32
            let t := (s.setQueue k { q with st := .active }).pokeVA n none 3 q.headva.toNat (leBytes 8 h)
            exec .queueReset s = .next ((t.setQueue k { q with st := .active, head := h }).send (resp 0 []))))
    ∧ (s.hears c n → s.serves n → cmdHas c 0x29 8 false → named →
        (s.queueWaits k = true → c.flags.getLsbD 0 = false → exec .queueDestroy s = .next (s.send (resp 9 [])))
        ∧ (s.queueWaits k = false → s.queueNamed k = true → exec .queueDestroy s = .next (s.send (resp 8 [])))
        ∧ (s.queueWaits k = false → s.queueNamed k = false → ∃ t, exec .queueDestroy s = .next t
            ∧ (∃ d ∈ t.agenda, d.ev = { i := .queueDestroyComplete, arg := .nat k 0 0 })
            ∧ (s.tasks = [] → s.recs = [] → (t.queue k).st = .draining ∧ t.waits = s.waits ++ [{ cmd := c, vd := n, obj := k }] ∧ t.dram = s.dram)))
    ∧ (s.arg = .nat k 0 0 → q.live = true → q.st = .draining → s.tasksOf k = [] → s.leftOf k = [] → tsorted 0 s.queues = true → q.statusq = 0 → s.recs = [] →
        s.waits = [{ cmd := c, vd := n, obj := k }] → c.opc.toNat = 0x29 → s.findQueue 0 = none →
        ∃ t, exec .queueDestroyComplete s = .next t ∧ (t.queue k).live = false ∧ tget t.qgens k = some q.gen ∧ t.waits = [] ∧ s.says t (resp 0 []))

/-- 04 R112 to R114, 05 R128 to R140: the dispatcher copies record HEAD of an active queue when its tail word has moved, and counts HEAD on;
a ring that is over-full, a record that fails its checks or cannot be read puts the queue in ERROR. -/
def Claims.RingRecords : Prop :=
  ∀ (s : State) (k n : Nat), s.arg = .nat k n 0 →
    let q := s.queue k
    let tail := leNat (s.peekVA q.vd q.tailva.toNat 4)
    let at_ := q.base.toNat + 128 * (q.head % 2 ^ q.size)
    let r := taskRecOf (s.peekVA q.vd at_ 128)
    let count := (tail + 2 ^ 32 - q.head) % 2 ^ 32
    let turned := s.setBench q.home { s.bench q.home with lastRing := tset (s.bench q.home).lastRing (q.prio - q.step) k }
    let seen := turned.setQueue k { q with tail }
    (q.watched = false ∨ s.bufferRoom k = false → exec .ringRecordCopy s = .next s)
    ∧ (q.watched = true → s.bufferRoom k = true →
      (∀ e, s.readFail q.vd q.tailva.toNat 8 = some e → exec .ringRecordCopy s = .next (turned.queueError k e))
      ∧ (s.readFail q.vd q.tailva.toNat 8 = none →
        (count = 0 → exec .ringRecordCopy s = .next seen)
        ∧ (2 ^ q.size < count → exec .ringRecordCopy s = .next (seen.queueError k 5))
        ∧ (0 < count → count ≤ 2 ^ q.size →
          (∀ e, s.readFail q.vd at_ 128 = some e → exec .ringRecordCopy s = .next (seen.queueError k e))
          ∧ (s.readFail q.vd at_ 128 = none →
            (s.validRec q r = false → exec .ringRecordCopy s = .next (seen.queueError k 4))
            ∧ (∀ e, s.validRec q r = true → s.writeFail q.vd q.headva.toNat 8 = some e → exec .ringRecordCopy s = .next (seen.queueError k e))
            ∧ (s.validRec q r = true → s.writeFail q.vd q.headva.toNat 8 = none → r.type ≠ 2 → ∃ t w, exec .ringRecordCopy s = .next t
              ∧ tget t.tasks s.nextKey = some w ∧ w.vd = q.vd ∧ w.queue = k ∧ w.qgen = q.gen ∧ w.idx = q.head ∧ w.trec = r ∧ w.home = q.home ∧ w.nest = 0
              ∧ w.deadline = (if r.deadline = 0 then none else some (s.now + min r.deadline (2 ^ 47 - 1)))
              ∧ w.budget = (if r.budget = 0 then none else some r.budget) ∧ w.copied = s.now
              ∧ (t.queue k).head = (q.head + 1) % 2 ^ 32 ∧ (t.queue k).tail = tail ∧ (∀ j, j ≠ s.nextKey → tget t.tasks j = tget s.tasks j))))))

/-- 04 R115, R116, 05 R142, R152, R153: what a queue writes to its status queue, what the late deadline and the end of a task leave. -/
def Claims.TaskEnds : Prop :=
  ∀ (s : State) (k n : Nat) (w : Task), s.arg = .nat k n 0 → tget s.tasks k = some w →
    (w.lateLogged = true ∨ w.st = .done ∨ s.isPast w.deadline = false → exec .taskLate s = .next s)
    ∧ (w.lateLogged = false → w.st ≠ .done → s.isPast w.deadline = true → ∃ t, exec .taskLate s = .next t ∧ tget t.tasks k = some { w with passed := true, lateLogged := true }
        ∧ (∀ j, j ≠ k → tget t.tasks j = tget s.tasks j))
    ∧ (w.st ≠ .completing → exec .taskComplete s = .next s)
    ∧ (w.st = .completing → s.groups = [] → s.courses = [] → s.copies = [] → w.trec.slots = [] → w.trec.type ≠ 2 → tsorted 0 s.tasks = true →
        ∃ t, exec .taskComplete s = .next t ∧ tget t.tasks k = none ∧ (∀ j, j ≠ k → tget t.tasks j = tget s.tasks j))
    ∧ (∀ a, w.st = .completing → s.groups = [] → s.courses = [] → s.copies = [] → w.trec.slots = [a] → slotRole a = 2 → (s.vd w.vd).mapsAll (slotAddr a) 8 = true →
        w.trec.type ≠ 2 → ∃ t, exec .taskComplete s = .next t
          ∧ t.dram = (s.pokeVA w.vd none 3 (slotAddr a) (leBytes 8 (s.clock w.home * 65536 + w.status.getD 0))).dram)

/-- 04 R112 to R114, 05 R142, R152, R153: RING_RECORD_COPY, TASK_LATE and TASK_COMPLETE complete: a record that passes its checks becomes a
task, whatever its type; a deadline that has passed marks its task and gives the queue its LATE entry; a completing task whose stores
are performed ends with its status, its signals written. -/
def Claims.TaskTurns : Prop :=
  ∀ (s : State) (k a b : Nat), s.arg = .nat k a b →
    let q := s.queue k
    let tail := leNat (s.peekVA q.vd q.tailva.toNat 4)
    let at_ := q.base.toNat + 128 * (q.head % 2 ^ q.size)
    let r := taskRecOf (s.peekVA q.vd at_ 128)
    let count := (tail + 2 ^ 32 - q.head) % 2 ^ 32
    let seen := (s.setBench q.home { s.bench q.home with lastRing := tset (s.bench q.home).lastRing (q.prio - q.step) k }).setQueue k { q with tail }
    let orphan := r.type = 2 ∧ r.args.getD 0 0 ∈ s.expired
    (q.watched = true → s.bufferRoom k = true → s.readFail q.vd q.tailva.toNat 8 = none → 0 < count → count ≤ 2 ^ q.size →
      s.readFail q.vd at_ 128 = none → s.validRec q r = true → s.writeFail q.vd q.headva.toNat 8 = none →
      (¬ orphan → exec .ringRecordCopy s = .next (seen.takeRecord k r)
        ∧ ∃ t w, exec .ringRecordCopy s = .next t ∧ tget t.tasks s.nextKey = some w ∧ w.trec = r ∧ w.queue = k ∧ w.idx = q.head
          ∧ w.nest = (if r.type = 2 then (r.args.getD 1 0).toNat / 2 ^ 16 % 4 else 0) ∧ (t.queue k).head = (q.head + 1) % 2 ^ 32)
      ∧ (orphan → ∃ t, exec .ringRecordCopy s = .next t ∧ t.tasks = s.tasks ∧ t.expired = s.expired.filter (· ≠ r.args.getD 0 0)
          ∧ (t.queue k).head = (q.head + 1) % 2 ^ 32))
    ∧ (∀ w, tget s.tasks k = some w → w.lateLogged = false → w.st ≠ .done → s.isPast w.deadline = true →
        let u := s.setTask k { w with passed := true, lateLogged := true }
        exec .taskLate s = .next (if (s.queue w.queue).gen = w.qgen then u.statusEntry w.queue 1 0 w.idx else u))
    ∧ (∀ w, tget s.tasks k = some w → w.st = .completing →
        let gs := (s.groups.filter (fun p => p.2.task = k)).map (·.1)
        let cs := s.coursesOfAll gs
        (∀ u, s.storesIn cs = true → s.commitCourses gs cs 4 w.vd = (u, true) →
          exec .taskComplete s = .next ((u.showStores k).endTask k (w.status.getD 0)))
        ∧ ((∀ g ∈ gs, (s.group g).nodes = []) → (∀ c ∈ cs, (s.course c).pends = [] ∧ (s.course c).buf = []) → s.copies = [] → w.trec.slots = [] →
          w.trec.type ≠ 2 → tsorted 0 s.tasks = true → tsorted 0 s.courses = true → ∃ t, exec .taskComplete s = .next t ∧ tget t.tasks k = none
            ∧ (∀ j, j ≠ k → tget t.tasks j = tget s.tasks j) ∧ t.dram = s.dram))

/-- How the dispatcher takes records from rings, and what a queue and a task leave at their end: RingRecords, TaskEnds, TaskTurns. -/
def Obligations.RingRecords : Prop :=
  Claims.RingRecords ∧ Claims.TaskEnds ∧ Claims.TaskTurns

/-- 04 R123 to R127: live migration. MIG_START tracks the granules that are written and opens a queue pair whose rkey reads every mapping;
MIG_DIRTY reads and clears the marks; MIG_STOP stops the device, whose blob is written once it is at rest; MIG_ABORT lets it run;
MIG_RESUME brings a device up from its blob. -/
def Obligations.LiveMigration : Prop :=
  ∀ (s : State) (c w : Cmd) (n : Nat) (v : VDev),
    let p := fun (off k : Nat) => fieldB c.params off k
    let resp := fun (st : Nat) (b : List Byte) => HostMsg.resp c.qpn c.ver c.opc c.tag st b
    let heard := fun (opc len : Nat) => s.hears c 0 ∧ cmdHas c opc len true ∧ p 0 1 = n ∧ tget s.vds n = some v ∧ s.unheld n
    let refused := fun (i : Instr) (st : Nat) => exec i s = .next (s.send (resp st []))
    let va := p 8 8
    let cnt := p 4 2
    (heard 8 40 → fieldB (c.params.drop 8) 24 1 ≤ 2 →
      (v.conf = true → refused .migStart 0xa) ∧ (v.conf = false → v.dbg ≠ 0 → refused .migStart 0xd)
      ∧ (v.conf = false → v.dbg = 0 → v.awaits = true → refused .migStart 0xe)
      ∧ (v.conf = false → v.dbg = 0 → v.mig = .tracking ∨ v.mig = .stopping ∨ v.mig = .stopped → refused .migStart 6)
      ∧ (v.conf = false → v.dbg = 0 → v.mig = .none → (s.allQps n).length < 256 → s.host.qps.length < 8192 → ∃ t q key, exec .migStart s = .next t
          ∧ t.vd n = { v with mig := .tracking, dirty := [], migKey := some (BitVec.ofNat 32 key) } ∧ tget t.host.qps (0x200 + n) = some q ∧ q.vd = some n ∧ q.mig = true
          ∧ t.dram = s.dram ∧ t.courses = s.courses ∧ s.says t (resp 0 (leBytes 4 (0x200 + n) ++ leBytes 4 key))))
    ∧ (heard 9 16 →
      (va % 65536 ≠ 0 ∨ cnt = 0 ∨ 1536 < cnt → refused .migDirty 3)
      ∧ (va % 65536 = 0 → 1 ≤ cnt → cnt ≤ 1536 → (v.awaits = true → refused .migDirty 0xe)
          ∧ (v.mig = .none ∨ v.mig = .stopping → refused .migDirty 6))
      ∧ (va % 65536 = 0 → 1 ≤ cnt → cnt ≤ 1536 → v.mig = .tracking ∨ v.mig = .stopped → ∃ t b, exec .migDirty s = .next t
          ∧ t.vd n = { v with dirty := v.dirty.filter (fun x => x < va / 65536 || va / 65536 + cnt ≤ x) } ∧ s.says t (resp 0 b) ∧ b.length = (cnt + 7) / 8
          ∧ (cnt = 1 → b = [if v.dirty.contains (va / 65536) && (v.phys va).isSome then 1 else 0])))
    ∧ (heard 0xa 24 →
      (v.conf = true → refused .migStop 0xa) ∧ (v.conf = false → v.awaits = true → refused .migStop 0xe)
      ∧ (v.conf = false → v.mig = .none → refused .migStop 6)
      ∧ (v.conf = false → v.mig = .tracking → v.ck = .running → s.unsaveable n = true → refused .migStop 4)
      ∧ (v.conf = false → v.mig = .tracking → v.ck = .running → s.unsaveable n = false → (∃ t, exec .migStop s = .next t
            ∧ { tick := s.now + 1, ev := { i := .migStopComplete, arg := .nat n 0 0 } } ∈ t.agenda)
          ∧ (s.vdGroups n = [] → s.vdQueues n = [] → ∃ t, exec .migStop s = .next t ∧ t.vd n = { v with mig := .stopping }
            ∧ t.waits = s.waits ++ [{ cmd := c, vd := n }] ∧ t.dram = s.dram)))
    ∧ (s.hears c 0 → cmdHas c 0xc 8 true → p 0 1 = n → tget s.vds n = some v →
      (v.mig = .none → refused .migAbort 6) ∧ (v.awaits = true → refused .migAbort 0xe)
      ∧ (v.mig = .stopping → exec .migAbort s = .next { s with waits := s.waits ++ [{ cmd := c, vd := n }] })
      ∧ (v.mig = .tracking ∨ v.mig = .stopped → ∃ t, exec .migAbort s = .next t ∧ t.vd n = { v with mig := .none, dirty := [], migKey := none }
          ∧ t.dram = s.dram ∧ s.says t (resp 0 []) ∧ (v.mig = .tracking → t.queues = s.queues)
          ∧ (v.mig = .stopped → tsorted 0 s.queues = true → ∀ k, (s.queue k).live = true → (s.queue k).vd = n → (s.queue k).st = .stopped →
              (t.queue k).st = .active)))
    ∧ (heard 0xb 24 →
      (v.conf = true → refused .migResume 0xa) ∧ (v.conf = false → v.migin = false ∨ v.mig ≠ .incoming → refused .migResume 6)
      ∧ (v.conf = false → v.migin = true → v.mig = .incoming → (∃ x ∈ (s.blobIn n va).queues, (s.queue x.idx).live = true) → refused .migResume 8)
      ∧ (v.conf = false → v.migin = true → v.mig = .incoming → (∀ x ∈ (s.blobIn n va).queues, (s.queue x.idx).live = false) → ∃ t, exec .migResume s = .next t
          ∧ t.vd n = { v with mig := .resuming } ∧ t.waits = s.waits ++ [{ cmd := c, vd := n }]
          ∧ { tick := s.now + 1, ev := { i := .migResumeComplete, arg := .nat n 0 0 } } ∈ t.agenda))
    ∧ (s.arg = .nat n 0 0 → w.opc.toNat = 0xa → s.waits = [{ cmd := w, vd := n }] → (s.vd n).mig = .stopping → s.deviceStill n = true →
        let blob := Config.blobBytes (s.blobOf n)
        (fieldB w.params 16 8 < blob.length → exec .migStopComplete s = .next ({ s.setVd n { s.vd n with mig := .stopped } with waits := [] }.respond w 4 []))
        ∧ (blob.length ≤ fieldB w.params 16 8 → ∃ t, exec .migStopComplete s = .next t ∧ (t.vd n).mig = .stopped ∧ t.waits = []
            ∧ t.dram = (s.pokeVA n none 3 (fieldB w.params 8 8) blob).dram
            ∧ (w.ver = 3 → s.says t (.resp w.qpn 3 w.opc w.tag 0 (leBytes 8 blob.length)))))
    ∧ (s.arg = .nat n 0 0 → w.opc.toNat = 0xb → s.waits = [{ cmd := w, vd := n }] →
        let due := fun (t : State) => ∃ d ∈ t.agenda, d.ev = { i := .migResumeComplete, arg := .nat n 0 0 }
        ((s.vd n).mig = .resuming → (∃ x ∈ (s.blobIn n (fieldB w.params 8 8)).queues, (s.queue x.idx).live = true) → ∃ t, exec .migResumeComplete s = .next t
            ∧ t.vd n = { s.vd n with mig := .incoming } ∧ t.waits = [] ∧ (w.ver = 3 → s.says t (.resp w.qpn 3 w.opc w.tag 8 [])))
        ∧ ((s.vd n).mig = .resuming → s.blobIn n (fieldB w.params 8 8) = {} → s.vdQueues n = [] → s.recs = [] → s.full = [] → (∀ d, (s.die d).waiting = []) →
          ∃ t, exec .migResumeComplete s = .next t ∧ t.vd n = { s.vd n with mig := .restoring, migsIn := 0, notes := [] } ∧ t.waits = s.waits ∧ t.dram = s.dram ∧ due t)
        ∧ ((s.vd n).mig = .restoring → (∀ g ∈ s.vdGroups n, g.2.saved = false ∨ g.2.ended = true ∨ g.2.fresh = true) →
          ∃ t, exec .migResumeComplete s = .next t ∧ t.vd n = { s.vd n with mig := .none, migs := ((s.vd n).migsIn + 1) % 65536 } ∧ t.waits = [] ∧ t.dram = s.dram
            ∧ (tsorted 0 s.queues = true → ∀ k, (s.queue k).live = true → (s.queue k).vd = n → (s.queue k).st = .stopped → (t.queue k).st = .active)))

/-- 07 R203 to R205, R215 to R217: a checkpoint stops a device, writes its blob and holds it until it is resumed or restored; a bench
fetches the variant that CELL_MAP gives it; a cell that retires is disabled for good and a spare takes its place. -/
def Obligations.CheckpointsAndCells : Prop :=
  ∀ (s : State) (n x y : Nat) (v : VDev), s.arg = .nat n x y →
    let dev := tget s.vds n = some v
    let result := fun (i : Instr) (r : Nat) => exec i s = .next (s.setVd n { v with ckResult := r })
    let due := fun (t : State) (i : Instr) => { tick := s.now + 1, ev := { i := i, arg := .nat n 0 0 } } ∈ t.agenda
    let free := v.ck = .running ∧ v.mig = .none ∧ v.dbg ≠ 2 ∧ v.destroying = false
    let bn := s.bench n
    let blob := Config.blobBytes (s.blobOf n)
    let room := (s.vdReg n).svblob * 65536
    (dev → ¬ free → result .vdCkptStop 3)
    ∧ (dev → free → s.unsaveable n = true ∨ room < blob.length → result .vdCkptStop 2)
    ∧ (dev → free → s.unsaveable n = false → blob.length ≤ room → (∃ t, exec .vdCkptStop s = .next t ∧ due t .vdCkptStopComplete)
        ∧ (s.vdGroups n = [] → s.vdQueues n = [] → ∃ t, exec .vdCkptStop s = .next t ∧ t.vd n = { v with ck := .stopping } ∧ t.dram = s.dram))
    ∧ (dev → v.ck = .stopping → s.deviceStill n = true → s.vdQueues n = [] →
        (room < blob.length → exec .vdCkptStopComplete s = .next (s.setVd n { v with ck := .running, ckResult := 2 }))
        ∧ (blob.length ≤ room → ∃ t, exec .vdCkptStopComplete s = .next t ∧ (t.vd n).ck = .stopped ∧ (t.vd n).ckResult = 1 ∧ (t.vd n).blobLen = blob.length
            ∧ t.dram = (s.pokeVA n none 3 (s.vdReg n).svbase.toNat blob).dram))
    ∧ (dev → v.ck ≠ .stopped → result .vdCkptResume 3 ∧ result .vdCkptRestore 3)
    ∧ (dev → v.ck = .stopped → (s.vdQueues n = [] → exec .vdCkptResume s = .next (s.setVd n { v with ck := .running, ckResult := 1 }))
        ∧ ∃ t, exec .vdCkptRestore s = .next t ∧ t.vd n = { v with ck := .restoring } ∧ due t .vdCkptRestoreComplete)
    ∧ (dev → v.ck = .restoring → s.blobAt n (s.vdReg n).svbase.toNat = some {} → s.tasks = [] → s.groups = [] → s.queues = [] → s.recs = [] → s.full = [] →
        ∃ t, exec .vdCkptRestoreComplete s = .next t ∧ (t.vd n).ck = .reviving ∧ (t.vd n).ckResult = 1 ∧ t.dram = s.dram ∧ due t .vdCkptRestoreComplete)
    ∧ (dev → v.ck = .reviving → (∀ g ∈ s.vdGroups n, g.2.saved = false ∨ g.2.ended = true ∨ g.2.fresh = true) →
        ∃ t, exec .vdCkptRestoreComplete s = .next t ∧ t.vd n = { v with ck := .running } ∧ t.dram = s.dram ∧ t.courses = s.courses
          ∧ (tsorted 0 s.queues = true → ∀ k, (s.queue k).live = true → (s.queue k).vd = n → (s.queue k).st = .stopped → (t.queue k).st = .active))
    ∧ (dev → v.ck = .reviving → (∃ g ∈ s.vdGroups n, g.2.saved = true ∧ g.2.ended = false ∧ g.2.fresh = false) →
        exec .vdCkptRestoreComplete s = .next (s.postOnce (s.now + 1) .vdCkptRestoreComplete (.nat n 0 0)))
    ∧ (dev → v.ck = .restoring → s.blobAt n (s.vdReg n).svbase.toNat = none → exec .vdCkptRestoreComplete s = .next (s.ckDone n 5 .stopped))
    ∧ (n < 64 → ∃ t, exec .cellMapVariantWrite s = .next t ∧ t.bench n = { bn with variant := BitVec.ofNat 16 x } ∧ (∀ b, b ≠ n → t.bench b = s.bench b)
        ∧ t.dram = s.dram ∧ (∀ cid c, tget s.courses cid = some c →
            ((s.group (s.course cid).group).bench ≠ n → tget t.courses cid = some c)
            ∧ ((s.group (s.course cid).group).bench = n → ∃ d, tget t.courses cid = some d ∧ d.staleI = [] ∧ d.sameRegisters c
              ∧ (d.loop = c.loop ∨ c.loop = 0 ∧ d.loop = 64 ∧ d.loopI = c.staleI)))
        ∧ (tsorted 0 s.tasks = true → ∀ k w, tget s.tasks k = some w → ∃ a b, tget t.tasks k = some { w with hdr := { w.hdr with rvstride := a, rvcount := b } }))
    ∧ (n < 64 → x < 9 → y ≠ 2 → bn.failed.getLsbD x = true → exec .cellRetire s = .next s)
    ∧ (n < 64 → x < 9 → y ≠ 2 → bn.failed.getLsbD x = false → s.groupsOn n x = [] → ∃ t, exec .cellRetire s = .next t
        ∧ (t.bench n).failed.getLsbD x = true ∧ (t.bench n).enabled.getLsbD x = false ∧ (∀ b, b ≠ n → t.bench b = s.bench b)
        ∧ (∀ i < 9, i ≠ x → (t.bench n).failed.getLsbD i = bn.failed.getLsbD i ∧ (t.bench n).enabled.getLsbD i = bn.enabled.getLsbD i)
        ∧ ∃ d ∈ t.agenda, d.ev = { i := .cellRetire, arg := .nat n x 2 })
    ∧ (n < 64 → x < 9 → y = 2 → bn.failed.getLsbD x = true → bn.retiring.getLsbD x = true → (∀ g ∈ s.groupsOn n x, g.2.saving = false) →
        ∃ t, exec .cellRetire s = .next t ∧ (∀ b, b ≠ n → t.bench b = s.bench b) ∧ (t.bench n).failed = bn.failed
          ∧ (∀ i < 9, bn.enabled.getLsbD i = true → (t.bench n).enabled.getLsbD i = true)
          ∧ (∀ i < 9, bn.enabled.getLsbD i = false → bn.failed.getLsbD i = false → (∀ j < i, bn.enabled.getLsbD j = true ∨ bn.failed.getLsbD j = true) →
              (t.bench n).enabled.getLsbD i = true))

/-- 02 R44, R46, R53, R66: a flit in order is accepted, and the last of a transaction hands it on with the tick and the peering of its
arrival; one with a wrong CRC is counted, and it and one out of order are answered with a NAK once; what was received is acknowledged
after 64 flits or 1 µs. -/
def Claims.LinkReception : Prop :=
  ∀ (s : State) (p n m : Nat) (f : Flit) (r : FabReq) (x : FabResp), s.portReady p = true → (s.port p).replay = [] →
    let q := s.port p
    let nak : HostMsg := .flit p { kind := 3, ack := q.recvSeq - 1, nak := true }
    let rest := fun (t : State) => t = { s with fab := t.fab, out := t.out, agenda := t.agenda }
    let next := s.arg = .flit p f ∧ flitOk f = true ∧ f.nak = false ∧ f.seq = q.recvSeq ∧ f.credit = 0
    let taken := fun (t : State) => rest t ∧ t.out = s.out ∧ (t.port p).recvSeq = q.recvSeq + 1 ∧ (t.port p).unacked = q.unacked + 1
    (s.arg = .flit p f → flitOk f = false → q.nakked = false → ∃ t, exec .glFlitRx s = .next t ∧ rest t ∧ t.out = s.out ++ [nak]
        ∧ t.port p = { q with crcErr := if q.crcErr = 4095 then 4095 else q.crcErr + 1, nakked := true })
    ∧ (s.arg = .flit p f → flitOk f = true → f.nak = false → f.kind = 1 → f.seq ≠ q.recvSeq → q.nakked = false →
        exec .glFlitRx s = .next ((s.setPort p { q with nakked := true }).send nak))
    ∧ (s.arg = .flit p f → flitOk f = true → f.nak = false → f.kind = 0 → exec .glFlitRx s = .next s)
    ∧ (next → f.kind = 1 → f.last = true → f.req = some r → ∃ t, exec .glFlitRx s = .next t ∧ taken t
        ∧ { tick := s.now, ev := { i := .glRequestArrive, arg := .req p { r with came := some s.now, lvd := some (s.peeredAs r.srcMod r.rvd) } } } ∈ t.agenda)
    ∧ (next → f.kind = 2 → f.last = true → f.req = none → f.resp = some x → ∃ t, exec .glFlitRx s = .next t ∧ taken t
        ∧ { tick := s.now, ev := { i := .glResponseArrive, arg := .resp p { x with came := some s.now } } } ∈ t.agenda)
    ∧ (next → f.kind = 1 ∨ f.kind = 2 → f.last = false → ∃ t, exec .glFlitRx s = .next t ∧ taken t ∧ ∀ d ∈ t.agenda, d ∈ s.agenda ∨ d.ev.i = .glAckTimer)
    ∧ (s.arg = .nat p n m → q.give = [(0, m + 1)] → q.waiting = [] → q.retraining = false → ∃ t g, exec .glAckTimer s = .next t ∧ rest t
        ∧ g.kind = 3 ∧ g.cls = false ∧ g.seq = q.sendSeq ∧ g.ack = q.recvSeq - 1 ∧ g.credit = BitVec.ofNat 16 (min 15 (m + 1))
        ∧ t.out = s.out ++ [.flit p g] ∧ (t.port p).unacked = 0 ∧ (t.port p).sendSeq = q.sendSeq + 1)
    ∧ (s.arg = .nat p n m → q.give = [] → q.unacked = 0 ∨ (q.unacked < 64 ∧ s.now < q.ackFrom + 2000) → exec .glAckTimer s = .next s)
    ∧ (s.arg = .nat p n m → q.give = [] → q.retraining = false → q.unacked ≠ 0 → 64 ≤ q.unacked ∨ q.ackFrom + 2000 ≤ s.now →
        exec .glAckTimer s = .next ((s.setPort p { q with unacked := 0 }).send (.flit p { kind := 3, ack := q.recvSeq - 1 })))

/-- 02 R46, R47, R56: a NAK sends the flits again that it does not acknowledge, a request among them with what is left of its lifetime; the
eighth of one SEQ, or 10 µs without an advancing acknowledgement, retrains the port; a third failure in a row fails it. -/
def Claims.LinkRetries : Prop :=
  ∀ (s : State) (p n m : Nat) (e : OutFlit), s.arg = .nat p n m → s.portReady p = true →
    let q := s.port p
    let a := BitVec.ofNat 12 n
    let count := if q.nakSeq = a ∧ q.naks ≠ 0 then q.naks + 1 else 1
    (q.replay = [e] → 2048 ≤ (a - e.flit.seq).toNat → e.flit.req = none → q.retraining = false → count < 8 → ∃ t, exec .glNakRx s = .next t
        ∧ t.out = s.out ++ [.flit p e.flit] ∧ (t.port p).replay = [{ e with tick := s.now }] ∧ (t.port p).naks = count ∧ (t.port p).nakSeq = a ∧ t.dram = s.dram)
    ∧ (∀ r, q.replay = [e] → 2048 ≤ (a - e.flit.seq).toNat → e.flit.req = some r → q.retraining = false → count < 8 →
        let here := lifeSpent (s.now - e.tick)
        (here < r.life → ∃ t, exec .glNakRx s = .next t ∧ t.out = s.out ++ [.flit p { e.flit with req := some { r with life := r.life - here } }])
        ∧ (r.life ≤ here → ∃ t, exec .glNakRx s = .next t ∧ t.out = s.out ++ [.flit p { e.flit with req := none }]))
    ∧ (q.replay = [e] → 2048 ≤ (a - e.flit.seq).toNat → 8 ≤ count → ∃ t, exec .glNakRx s = .next t
        ∧ { tick := s.now, ev := { i := .glRetrain, arg := .nat p 0 0 } } ∈ t.agenda)
    ∧ (q.replay = [e] → (a - e.flit.seq).toNat < 2048 → q.waiting = [] → q.retraining = false → ∃ t, exec .glNakRx s = .next t ∧ (t.port p).replay = [] ∧ t.out = s.out)
    ∧ (q.retraining = false → q.replay ≠ [] → 8 ≤ q.naks ∨ q.progress + 20000 ≤ s.now → ∃ t ok, exec .glRetrain s = .next t ∧ (t.port p).retraining = true
        ∧ (t.port p).retrain = (if q.retrain = 255 then 255 else q.retrain + 1) ∧ { tick := s.now + 2000000, ev := { i := .glRetrainDone, arg := .nat p ok 0 } } ∈ t.agenda
        ∧ t.out = s.out)
    ∧ (q.retraining = true → n ≠ 0 → q.replay = [e] → e.flit.req = none → q.waiting = [] → ∃ t, exec .glRetrainDone s = .next t ∧ (t.port p).retraining = false
        ∧ (t.port p).fails = 0 ∧ t.out = s.out ++ [.flit p e.flit])
    ∧ (q.retraining = true → n = 0 → q.fails + 1 < 3 → ∃ t, exec .glRetrainDone s = .next t ∧ (t.port p).retraining = true ∧ (t.port p).fails = q.fails + 1)
    ∧ (q.retraining = true → n = 0 → 2 ≤ q.fails → p < 8 → ∃ t, exec .glRetrainDone s = .next t ∧ t.portReady p = false ∧ t.plat.isFailed (0, 8 + p) = true
        ∧ (t.port p).replay = [])

/-- Reception of flits, acknowledgements, NAKs, retries and retraining: LinkReception, LinkRetries. -/
def Obligations.FabricLinks : Prop :=
  Claims.LinkReception ∧ Claims.LinkRetries

/-- 02 R50 to R61, R66: a request whose lifetime runs out is discarded; one for another module goes on by its next turn, or is answered
ROUTE_DEAD; one for this module is performed for the device that the peering table gives, or refused; and a repeated one gets the answer
of the first. -/
def Claims.FabricRequests : Prop :=
  ∀ (s : State) (p turn vdn o ty : Nat) (rest : List Nat) (r : FabReq) (evm : Bool) (pc a b c : Word) (ans : FabResp) (tag : BitVec 20), s.arg = .req p r →
    let answers := fun (t : State) (st : FabStatus) (ad : Word) (m : LaneMask) (l : List Word) => t.respondTo p r st ad m l
    let n := typeSize ty
    let old := leNat (s.peekVA vdn a.toNat n)
    let spent := lifeSpent (s.now - r.came.getD s.now)
    let here := r.turns = turn :: rest ∧ spent < r.life ∧ turn = 3
    let v := s.vd vdn
    let owner := r.lvd.getD (s.peeredAs r.srcMod r.rvd)
    let allowed := owner = some vdn ∧ tget s.vds vdn = some v ∧ (v.conf = false ∨ (s.vdReg vdn).fab = true)
    let mine := allowed ∧ v.deaf = false
    (r.turns = turn :: rest → r.life ≤ spent → exec .glRequestArrive s = .next (s.dropReq p r))
    ∧ (r.turns = turn :: rest → spent < r.life → turn ≠ 3 → s.portReady (turnPort p turn) = false →
        exec .glRequestArrive s = .next (answers s .routeDead 0 0 []))
    ∧ (r.turns = turn :: rest → spent < r.life → turn ≠ 3 → s.portReady (turnPort p turn) = true →
        exec .glRequestArrive s = .next ((s.sendOn (turnPort p turn) (r.came.getD s.now) (some p) { r with turns := rest, taken := turn :: r.taken }).giveBack
          p (bufKey r.vc r.cls) (flitsOf (reqData r))))
    ∧ (here → (∀ h w st, r.op ≠ .notice h w st) → owner = none → exec .glRequestArrive s = .next (answers s .prot 0 0 []))
    ∧ (here → (∀ h w st, r.op ≠ .notice h w st) → allowed → v.deaf = true → exec .glRequestArrive s = .next (s.giveBack p (bufKey r.vc r.cls) (flitsOf (reqData r))))
    ∧ (here → mine → r.op = .copyRead a o → r.tagged = none → s.farFault vdn a.toNat o 1 = none →
        exec .glRequestArrive s = .next (answers s .ok 0 0 (packWords (s.peekVA vdn a.toNat o))))
    ∧ (here → mine → r.op = .ratom o ty evm pc a b c → r.tagged = some tag → r.retry = false → s.farFault vdn a.toNat n (atomNeed o) = none → o = 0 →
        ∃ t, exec .glRequestArrive s = .next (answers t .ok 0 0 [BitVec.ofNat 64 old]) ∧ t.dram = s.dram
          ∧ (t.die (s.targetDie vdn p r.op)).recall r.srcMod.toNat r.srcDie tag.toNat = some { tx := r.tx, data := [BitVec.ofNat 64 old] })
    ∧ (here → mine → r.tagged = some tag → r.retry = true → (s.die (s.targetDie vdn p r.op)).recall r.srcMod.toNat r.srcDie tag.toNat = some ans →
        (∀ h w st, r.op ≠ .notice h w st) → exec .glRequestArrive s = .next (answers s ans.status ans.addr ans.mask ans.data))
    ∧ (here → mine → r.tagged = some tag → r.retry = true → (s.die (s.targetDie vdn p r.op)).recall r.srcMod.toNat r.srcDie tag.toNat = none →
        (∀ h w st, r.op ≠ .notice h w st) → exec .glRequestArrive s = .next (answers s .refused 0 0 []))

/-- 02 R52, R57, R62, 01 R21, 06 R161: an answer that is taken in time lands in the instruction that waits for it, one taken in Retention at
its exit; an error status, or no answer within the timeout, is a late fault of it. -/
def Claims.FabricAnswers : Prop :=
  ∀ (s : State) (p d tx z cid n : Nat) (r : FabResp) (o : Outstanding) (c : Course) (q : Pend) (route : Word) (op : FabOp) (dest : Dest) (ty : Nat) (acq : Option Nat),
    s.fab.outs = [o] → o.req.op = op → o.course = some (cid, n) → o.seg = none → o.record = none → o.notice = none →
    tget s.courses cid = some c → (s.group c.group).shadow = none → c.pend n = some q → q.act = .remote route op dest ty acq →
    (∃ o' t' e p' a' b' c', op = .ratom o' t' e p' a' b' c') →
    let tag := o.tagged.getD 0
    let late := fun (t : State) (cause : Nat) => ∃ u x f, tget t.courses cid = some u ∧ u.stopping = true ∧ x ∈ u.pends ∧ x.id = q.id ∧ x.late = some f ∧ f.cause = cause
        ∧ f.addr = farAddrOf op ∧ f.mask = q.mask ∧ (cause = 6 → f.cx = BitVec.ofNat 64 tag) ∧ { tick := s.now, ev := { i := .lateFault, arg := .course cid n 0 0 } } ∈ t.agenda
    let freed := s.giveBack p (bufKey r.vc false) (flitsOf (respData r))
    (s.arg = .resp p r → r.turns = [] → r.die = o.die → r.tx = o.tx → r.came.getD s.now ≤ o.limit → s.plat.cur ≠ .retention →
        (r.status = .ok → c.pends = [q] → acq = none → ∃ t u, exec .glResponseArrive s = .next t ∧ t.fab.outs = [] ∧ tget t.courses cid = some u ∧ u.sameValues c
            ∧ u.pends = [{ q with act := .none, writes := q.writes ++ gotWrites dest ty ((([0] : List Nat).filter (fun l => !r.mask.getLsbD l)).zip r.data) }]
            ∧ ∃ d ∈ t.agenda, d.ev = { i := .instructionComplete, arg := .course cid n 0 0 })
        ∧ (r.status = .pageMiss → r.addr = 0 → ∃ t, exec .glResponseArrive s = .next t ∧ late t 1)
        ∧ (r.status = .prot → ∃ t, exec .glResponseArrive s = .next t ∧ late t (if o.req.retry then 6 else 2)))
    ∧ (s.arg = .resp p r → r.turns = [] → r.die ≠ o.die ∨ r.tx ≠ o.tx ∨ o.limit < r.came.getD s.now → exec .glResponseArrive s = .next freed)
    ∧ (s.arg = .resp p r → r.turns = [] → r.die = o.die → r.tx = o.tx → r.came.getD s.now ≤ o.limit → s.plat.cur = .retention →
        exec .glResponseArrive s = .next { freed with fab := { freed.fab with kept := freed.fab.kept ++ [(p, r)] } })
    ∧ (∀ t rest, s.arg = .resp p r → r.turns = t :: rest → exec .glResponseArrive s = .next (freed.sendResp (turnPort p t) { r with turns := rest }))
    ∧ (s.arg = .nat d tx z → o.die = d → o.tx = tx → s.now < o.limit → exec .fabricTimeout s = .next s)
    ∧ (s.arg = .nat d tx z → o.die = d → o.tx = tx → o.limit ≤ s.now → s.answerHere o = false →
        ∃ t, exec .fabricTimeout s = .next t ∧ (∀ y ∈ t.fab.outs, y ∉ s.fab.outs) ∧ late t (if o.tagged.isSome then 6 else 5))

/-- Requests and answers between modules: FabricRequests, FabricAnswers. -/
def Obligations.FabricExchange : Prop :=
  Claims.FabricRequests ∧ Claims.FabricAnswers

/-- 02 R64, 06 R167, R171, 22 R536: a fault task for another module is sent, and a notice, until acknowledged; a notice that arrives marks
the record it names. -/
def Obligations.FaultTraffic : Prop :=
  ∀ (s : State) (k w st d : Nat) (h route : Word) (r : PRec),
    let x := s.record k
    let q := s.faultQueueOf k
    let there := fun (h : Word) => s.moduleRoute (bits h.toNat 63 52)
    let ri := recKey (bits h.toNat 51 50) (bits h.toNat 49 36)
    let current := bits h.toNat 63 52 = s.fab.modid.toNat ∧ (s.record ri).used = true ∧ (s.record ri).gen = bits h.toNat 31 0
    (s.arg = .nat k 0 0 → x.used = true → x.stage = 1 → q ≠ 0 → bits q.toNat 63 52 ≠ s.fab.modid.toNat → s.fab.outs = [] →
        (there q = none → exec .faultEnqResend s = .next (s.post (s.now + s.fab.timeout * 2000) .faultEnqResend (.nat k 0 0)))
        ∧ (there q = some route → ∃ t, exec .faultEnqResend s = .next t ∧ (∃ o ∈ t.fab.outs, o.record = some (k * 2 ^ 32 + x.gen)
            ∧ o.req.op = .faultEnq q (s.recHandle k) (s.faultArgs k) (x.deadline.map (fun t => t - s.now)) x.passed ∧ o.limit = s.now + s.fab.timeout * 2000) ∧ t.dram = s.dram
            ∧ t.recs = s.recs))
    ∧ (s.arg = .nat k 0 0 → x.used = false ∨ x.stage ≠ 1 → exec .faultEnqResend s = .next s)
    ∧ (s.arg = .nat k 0 0 → s.fab.notices = [(k, { record := h, what := w, status := st, die := d })] → s.fab.outs = [] →
        (there h = none → exec .faultNoticeResend s = .next (s.post (s.now + s.fab.timeout * 2000) .faultNoticeResend (.nat k 0 0)))
        ∧ (there h = some route → ∃ t, exec .faultNoticeResend s = .next t ∧ ∃ o ∈ t.fab.outs, o.notice = some k ∧ o.die = d ∧ o.req.op = .notice h w st))
    ∧ (∀ j y, s.arg = .nat k 0 0 → j < k → s.fab.notices = [(j, y), (k, { record := y.record, what := w, status := st, die := d })] → exec .faultNoticeResend s = .next s)
    ∧ (s.arg = .notice h w st → current → r = s.record ri →
        (w = 0 → exec .faultNoticeRx s = .next (s.setRecord ri { r with stage := 3 }))
        ∧ (w = 1 → exec .faultNoticeRx s = .next (s.setRecord ri { r with childLost := true }))
        ∧ (w = 2 → st = 0 → exec .faultNoticeRx s = .next (s.setRecord ri { r with unres := true }))
        ∧ (w = 2 → st ≠ 0 → exec .faultNoticeRx s = .next (s.setRecord ri { r with childLost := true })))
    ∧ (s.arg = .notice h w st → ¬ current → exec .faultNoticeRx s = .next s)
end

