-- ==== Sys2Proof/Laws/Tables.lean ====
section
/-! SUPPORT. The laws of tables and of memory: what a read finds after a write, and that every memory operation keeps the canonical
form. -/
namespace Sys2Proof.Machine

/-! ## Tables -/

@[simp] theorem tget_nil {α : Type} (k : Nat) : tget ([] : FMap α) k = none := rfl

/-- After an entry is set, a read finds it at its key and the old entries elsewhere. -/
theorem tget_tset {α : Type} (m : FMap α) (k : Nat) (v : α) (n : Nat) : tget (tset m k v) n = if k = n then some v else tget m n := by
  induction m with
  | nil =>
    simp only [tset, tget]
    split
    · rfl
    · split <;> rfl
  | cons p m ih =>
    obtain ⟨a, x⟩ := p
    simp only [tset]
    split
    · simp only [tget]
      split
      · rfl
      · split
        · rw [if_neg (by omega), if_pos (by omega)]
        · rfl
    · split
      · simp only [tget]
        split
        · rfl
        · split
          · rw [if_neg (by omega), if_pos (by omega)]
          · rw [if_neg (by omega), if_neg (by omega)]
      · simp only [tget, ih]
        by_cases h : a = n
        · rw [if_pos h, if_pos h, if_neg (by omega)]
        · rw [if_neg h, if_neg h]
          by_cases h2 : n < a
          · rw [if_pos h2, if_pos h2, if_neg (by omega)]
          · rw [if_neg h2, if_neg h2]

@[simp] theorem tget_tset_same {α : Type} (m : FMap α) (k : Nat) (v : α) : tget (tset m k v) k = some v := by simp [tget_tset]
theorem tget_tset_other {α : Type} (m : FMap α) {k n : Nat} (v : α) (h : k ≠ n) : tget (tset m k v) n = tget m n := by
  rw [tget_tset, if_neg h]
@[simp] theorem tgetD_tset_same {α : Type} (m : FMap α) (k : Nat) (v d : α) : tgetD (tset m k v) k d = v := by simp [tgetD]
theorem tgetD_tset_other {α : Type} (m : FMap α) {k n : Nat} (v d : α) (h : k ≠ n) : tgetD (tset m k v) n d = tgetD m n d := by
  rw [tgetD, tgetD, tget_tset_other m v h]
theorem tgetD_of_tget {α : Type} {m : FMap α} {k : Nat} {v : α} (d : α) (h : tget m k = some v) : tgetD m k d = v := by rw [tgetD, h]; rfl

/-- A table sorted from a bound is sorted from every lower one. -/
theorem tsorted_mono {α : Type} {lo hi : Nat} {m : FMap α} (h : lo ≤ hi) (hm : tsorted hi m = true) : tsorted lo m = true := by
  cases m with
  | nil => rfl
  | cons p m =>
    simp only [tsorted, Bool.and_eq_true, decide_eq_true_eq] at hm ⊢
    exact ⟨by omega, hm.2⟩

theorem tsorted_tset {α : Type} {lo : Nat} {m : FMap α} {k : Nat} (v : α) (hk : lo ≤ k) (hm : tsorted lo m = true) :
    tsorted lo (tset m k v) = true := by
  induction m generalizing lo with
  | nil => simp [tset, tsorted, hk]
  | cons p m ih =>
    obtain ⟨a, x⟩ := p
    simp only [tsorted, Bool.and_eq_true, decide_eq_true_eq] at hm
    simp only [tset]
    split
    · simp only [tsorted, Bool.and_eq_true, decide_eq_true_eq]
      exact ⟨hk, by omega, hm.2⟩
    · split
      · subst k
        simp only [tsorted, Bool.and_eq_true, decide_eq_true_eq]
        exact hm
      · simp only [tsorted, Bool.and_eq_true, decide_eq_true_eq]
        exact ⟨hm.1, ih (by omega) hm.2⟩

theorem tsorted_tdel {α : Type} {lo : Nat} {m : FMap α} (k : Nat) (hm : tsorted lo m = true) : tsorted lo (tdel m k) = true := by
  induction m generalizing lo with
  | nil => rfl
  | cons p m ih =>
    obtain ⟨a, x⟩ := p
    have hm' := hm
    simp only [tsorted, Bool.and_eq_true, decide_eq_true_eq] at hm
    simp only [tdel]
    split
    · exact tsorted_mono (by omega) hm.2
    · split
      · exact hm'
      · simp only [tsorted, Bool.and_eq_true, decide_eq_true_eq]
        exact ⟨hm.1, ih hm.2⟩

theorem tsorted_tput {α : Type} [DecidableEq α] (d : α) {lo : Nat} {m : FMap α} {k : Nat} (v : α) (hk : lo ≤ k)
    (hm : tsorted lo m = true) : tsorted lo (tput d m k v) = true := by
  unfold tput
  split
  · exact tsorted_tdel k hm
  · exact tsorted_tset v hk hm

/-- Below its bound a sorted table lists nothing. -/
theorem tget_lt {α : Type} {lo : Nat} {m : FMap α} {k : Nat} (hm : tsorted lo m = true) (hk : k < lo) : tget m k = none := by
  cases m with
  | nil => rfl
  | cons p m =>
    obtain ⟨a, x⟩ := p
    simp only [tsorted, Bool.and_eq_true, decide_eq_true_eq] at hm
    simp only [tget]
    rw [if_neg (by omega), if_pos (by omega)]

/-- After an entry of a sorted table is removed, a read finds nothing at its key and the old entries elsewhere. -/
theorem tget_tdel {α : Type} {lo : Nat} {m : FMap α} (k n : Nat) (hm : tsorted lo m = true) :
    tget (tdel m k) n = if k = n then none else tget m n := by
  induction m generalizing lo with
  | nil => simp [tdel]
  | cons p m ih =>
    obtain ⟨a, x⟩ := p
    simp only [tsorted, Bool.and_eq_true, decide_eq_true_eq] at hm
    simp only [tdel]
    by_cases h1 : a = k
    · rw [if_pos h1]
      subst h1
      by_cases h2 : a = n
      · rw [if_pos h2]; subst h2; exact tget_lt hm.2 (by omega)
      · rw [if_neg h2]
        simp only [tget]
        rw [if_neg h2]
        split
        · exact tget_lt hm.2 (by omega)
        · rfl
    · rw [if_neg h1]
      by_cases h3 : k < a
      · rw [if_pos h3]
        by_cases h2 : k = n
        · rw [if_pos h2]; subst h2; simp only [tget]; rw [if_neg h1, if_pos h3]
        · rw [if_neg h2]
      · rw [if_neg h3]
        simp only [tget, ih hm.2]
        by_cases h2 : k = n
        · rw [if_pos h2]; subst h2; rw [if_neg h1, if_neg h3]; simp
        · simp only [if_neg h2]

/-- After an entry of a sorted table without defaults is put, a read finds it at its key and the old entries elsewhere. -/
theorem tgetD_tput {α : Type} [DecidableEq α] (d : α) {lo : Nat} {m : FMap α} (k : Nat) (v : α) (n : Nat) (hm : tsorted lo m = true) :
    tgetD (tput d m k v) n d = if k = n then v else tgetD m n d := by
  unfold tput tgetD
  split
  · rename_i h
    rw [tget_tdel k n hm]
    split
    · rw [h]; rfl
    · rfl
  · rw [tget_tset]
    split <;> rfl

/-! ## Memory -/

theorem all_tset {α : Type} {q : Nat × α → Bool} {m : FMap α} {k : Nat} {v : α} (hv : q (k, v) = true) (hm : m.all q = true) :
    (tset m k v).all q = true := by
  induction m with
  | nil => simp [tset, hv]
  | cons p m ih =>
    obtain ⟨a, x⟩ := p
    simp only [List.all_cons, Bool.and_eq_true] at hm
    simp only [tset]
    split
    · simp [hv, hm]
    · split
      · simp only [List.all_cons, Bool.and_eq_true]; exact ⟨hv, hm.2⟩
      · simp only [List.all_cons, Bool.and_eq_true]; exact ⟨hm.1, ih hm.2⟩

theorem all_tdel {α : Type} {q : Nat × α → Bool} {m : FMap α} (k : Nat) (hm : m.all q = true) : (tdel m k).all q = true := by
  induction m with
  | nil => rfl
  | cons p m ih =>
    obtain ⟨a, x⟩ := p
    have hm' := hm
    simp only [List.all_cons, Bool.and_eq_true] at hm
    simp only [tdel]
    split
    · exact hm.2
    · split
      · exact hm'
      · simp only [List.all_cons, Bool.and_eq_true]; exact ⟨hm.1, ih hm.2⟩

/-- A store of one byte keeps the canonical form. -/
theorem Memory.wf_write {m : List Host.Cell} (a : Nat) (b : Byte) (h : Memory.wf m = true) : Memory.wf (Memory.write m a b) = true := by
  simp only [Memory.wf, Bool.and_eq_true] at h ⊢
  unfold Memory.write tput
  split
  · exact ⟨tsorted_tdel a h.1, all_tdel a h.2⟩
  · rename_i hb
    exact ⟨tsorted_tset b (Nat.zero_le _) h.1, all_tset (by simpa using hb) h.2⟩

/-- A store of a byte string keeps the canonical form. -/
theorem Memory.wf_writeL {m : List Host.Cell} (a : Nat) (l : List Byte) (h : Memory.wf m = true) : Memory.wf (Memory.writeL m a l) = true := by
  induction l generalizing m a with
  | nil => exact h
  | cons b r ih => exact ih (a + 1) (Memory.wf_write a b h)

theorem tsorted_filter {α : Type} {lo : Nat} {m : FMap α} (q : Nat × α → Bool) (hm : tsorted lo m = true) : tsorted lo (m.filter q) = true := by
  induction m generalizing lo with
  | nil => rfl
  | cons p m ih =>
    obtain ⟨a, x⟩ := p
    simp only [tsorted, Bool.and_eq_true, decide_eq_true_eq] at hm
    simp only [List.filter_cons]
    split
    · simp only [tsorted, Bool.and_eq_true, decide_eq_true_eq]; exact ⟨hm.1, ih hm.2⟩
    · exact tsorted_mono (by omega) (ih hm.2)

/-- Zeroing keeps the canonical form. -/
theorem Memory.wf_zero {m : List Host.Cell} (a n : Nat) (h : Memory.wf m = true) : Memory.wf (Memory.zero m a n) = true := by
  simp only [Memory.wf, Bool.and_eq_true] at h ⊢
  refine ⟨tsorted_filter _ h.1, ?_⟩
  rw [List.all_eq_true] at h ⊢
  intro p hp
  exact h.2 p (List.mem_filter.mp hp).1

/-- A read after a store finds the byte at its address and the old bytes elsewhere. -/
theorem Memory.read_write {m : List Host.Cell} (a : Nat) (b : Byte) (n : Nat) (h : Memory.wf m = true) :
    Memory.read (Memory.write m a b) n = if a = n then b else Memory.read m n := by
  simp only [Memory.wf, Bool.and_eq_true] at h
  exact tgetD_tput 0 a b n h.1

end Sys2Proof.Machine
end

