-- ==== Sys2Proof/Laws/State.lean ====
section
/-! SUPPORT. What each update of the state leaves in each field, and what the readers find after it. -/
namespace Sys2Proof.Machine

/-! ## State.setCourse -/

@[simp] theorem State.setCourse_now (s : State) (k : Nat) (x : Course) : (s.setCourse k x).now = s.now := rfl
@[simp] theorem State.setCourse_free (s : State) (k : Nat) (x : Course) : (s.setCourse k x).free = s.free := rfl
@[simp] theorem State.setCourse_sched (s : State) (k : Nat) (x : Course) : (s.setCourse k x).sched = s.sched := rfl
@[simp] theorem State.setCourse_inputs (s : State) (k : Nat) (x : Course) : (s.setCourse k x).inputs = s.inputs := rfl
@[simp] theorem State.setCourse_agenda (s : State) (k : Nat) (x : Course) : (s.setCourse k x).agenda = s.agenda := rfl
@[simp] theorem State.setCourse_arg (s : State) (k : Nat) (x : Course) : (s.setCourse k x).arg = s.arg := rfl
@[simp] theorem State.setCourse_out (s : State) (k : Nat) (x : Course) : (s.setCourse k x).out = s.out := rfl
@[simp] theorem State.setCourse_cur (s : State) (k : Nat) (x : Course) : (s.setCourse k x).cur = s.cur := rfl
@[simp] theorem State.setCourse_plat (s : State) (k : Nat) (x : Course) : (s.setCourse k x).plat = s.plat := rfl
@[simp] theorem State.setCourse_fab (s : State) (k : Nat) (x : Course) : (s.setCourse k x).fab = s.fab := rfl
@[simp] theorem State.setCourse_host (s : State) (k : Nat) (x : Course) : (s.setCourse k x).host = s.host := rfl
@[simp] theorem State.setCourse_sec (s : State) (k : Nat) (x : Course) : (s.setCourse k x).sec = s.sec := rfl
@[simp] theorem State.setCourse_preDrain (s : State) (k : Nat) (x : Course) : (s.setCourse k x).preDrain = s.preDrain := rfl
@[simp] theorem State.setCourse_dram (s : State) (k : Nat) (x : Course) : (s.setCourse k x).dram = s.dram := rfl
@[simp] theorem State.setCourse_full (s : State) (k : Nat) (x : Course) : (s.setCourse k x).full = s.full := rfl
@[simp] theorem State.setCourse_poison (s : State) (k : Nat) (x : Course) : (s.setCourse k x).poison = s.poison := rfl
@[simp] theorem State.setCourse_sram (s : State) (k : Nat) (x : Course) : (s.setCourse k x).sram = s.sram := rfl
@[simp] theorem State.setCourse_sramPoison (s : State) (k : Nat) (x : Course) : (s.setCourse k x).sramPoison = s.sramPoison := rfl
@[simp] theorem State.setCourse_atlb (s : State) (k : Nat) (x : Course) : (s.setCourse k x).atlb = s.atlb := rfl
@[simp] theorem State.setCourse_benches (s : State) (k : Nat) (x : Course) : (s.setCourse k x).benches = s.benches := rfl
@[simp] theorem State.setCourse_cells (s : State) (k : Nat) (x : Course) : (s.setCourse k x).cells = s.cells := rfl
@[simp] theorem State.setCourse_dies (s : State) (k : Nat) (x : Course) : (s.setCourse k x).dies = s.dies := rfl
@[simp] theorem State.setCourse_recs (s : State) (k : Nat) (x : Course) : (s.setCourse k x).recs = s.recs := rfl
@[simp] theorem State.setCourse_chans (s : State) (k : Nat) (x : Course) : (s.setCourse k x).chans = s.chans := rfl
@[simp] theorem State.setCourse_vds (s : State) (k : Nat) (x : Course) : (s.setCourse k x).vds = s.vds := rfl
@[simp] theorem State.setCourse_vdRegs (s : State) (k : Nat) (x : Course) : (s.setCourse k x).vdRegs = s.vdRegs := rfl
@[simp] theorem State.setCourse_queues (s : State) (k : Nat) (x : Course) : (s.setCourse k x).queues = s.queues := rfl
@[simp] theorem State.setCourse_qgens (s : State) (k : Nat) (x : Course) : (s.setCourse k x).qgens = s.qgens := rfl
@[simp] theorem State.setCourse_tasks (s : State) (k : Nat) (x : Course) : (s.setCourse k x).tasks = s.tasks := rfl
@[simp] theorem State.setCourse_groups (s : State) (k : Nat) (x : Course) : (s.setCourse k x).groups = s.groups := rfl
@[simp] theorem State.setCourse_courses (s : State) (k : Nat) (x : Course) : (s.setCourse k x).courses = tset s.courses k x := rfl
@[simp] theorem State.setCourse_copies (s : State) (k : Nat) (x : Course) : (s.setCourse k x).copies = s.copies := rfl
@[simp] theorem State.setCourse_waits (s : State) (k : Nat) (x : Course) : (s.setCourse k x).waits = s.waits := rfl
@[simp] theorem State.setCourse_expired (s : State) (k : Nat) (x : Course) : (s.setCourse k x).expired = s.expired := rfl
@[simp] theorem State.setCourse_blobs (s : State) (k : Nat) (x : Course) : (s.setCourse k x).blobs = s.blobs := rfl
@[simp] theorem State.setCourse_nextKey (s : State) (k : Nat) (x : Course) : (s.setCourse k x).nextKey = s.nextKey := rfl

/-! ## State.setGroup -/

@[simp] theorem State.setGroup_now (s : State) (k : Nat) (x : Group) : (s.setGroup k x).now = s.now := rfl
@[simp] theorem State.setGroup_free (s : State) (k : Nat) (x : Group) : (s.setGroup k x).free = s.free := rfl
@[simp] theorem State.setGroup_sched (s : State) (k : Nat) (x : Group) : (s.setGroup k x).sched = s.sched := rfl
@[simp] theorem State.setGroup_inputs (s : State) (k : Nat) (x : Group) : (s.setGroup k x).inputs = s.inputs := rfl
@[simp] theorem State.setGroup_agenda (s : State) (k : Nat) (x : Group) : (s.setGroup k x).agenda = s.agenda := rfl
@[simp] theorem State.setGroup_arg (s : State) (k : Nat) (x : Group) : (s.setGroup k x).arg = s.arg := rfl
@[simp] theorem State.setGroup_out (s : State) (k : Nat) (x : Group) : (s.setGroup k x).out = s.out := rfl
@[simp] theorem State.setGroup_cur (s : State) (k : Nat) (x : Group) : (s.setGroup k x).cur = s.cur := rfl
@[simp] theorem State.setGroup_plat (s : State) (k : Nat) (x : Group) : (s.setGroup k x).plat = s.plat := rfl
@[simp] theorem State.setGroup_fab (s : State) (k : Nat) (x : Group) : (s.setGroup k x).fab = s.fab := rfl
@[simp] theorem State.setGroup_host (s : State) (k : Nat) (x : Group) : (s.setGroup k x).host = s.host := rfl
@[simp] theorem State.setGroup_sec (s : State) (k : Nat) (x : Group) : (s.setGroup k x).sec = s.sec := rfl
@[simp] theorem State.setGroup_preDrain (s : State) (k : Nat) (x : Group) : (s.setGroup k x).preDrain = s.preDrain := rfl
@[simp] theorem State.setGroup_dram (s : State) (k : Nat) (x : Group) : (s.setGroup k x).dram = s.dram := rfl
@[simp] theorem State.setGroup_full (s : State) (k : Nat) (x : Group) : (s.setGroup k x).full = s.full := rfl
@[simp] theorem State.setGroup_poison (s : State) (k : Nat) (x : Group) : (s.setGroup k x).poison = s.poison := rfl
@[simp] theorem State.setGroup_sram (s : State) (k : Nat) (x : Group) : (s.setGroup k x).sram = s.sram := rfl
@[simp] theorem State.setGroup_sramPoison (s : State) (k : Nat) (x : Group) : (s.setGroup k x).sramPoison = s.sramPoison := rfl
@[simp] theorem State.setGroup_atlb (s : State) (k : Nat) (x : Group) : (s.setGroup k x).atlb = s.atlb := rfl
@[simp] theorem State.setGroup_benches (s : State) (k : Nat) (x : Group) : (s.setGroup k x).benches = s.benches := rfl
@[simp] theorem State.setGroup_cells (s : State) (k : Nat) (x : Group) : (s.setGroup k x).cells = s.cells := rfl
@[simp] theorem State.setGroup_dies (s : State) (k : Nat) (x : Group) : (s.setGroup k x).dies = s.dies := rfl
@[simp] theorem State.setGroup_recs (s : State) (k : Nat) (x : Group) : (s.setGroup k x).recs = s.recs := rfl
@[simp] theorem State.setGroup_chans (s : State) (k : Nat) (x : Group) : (s.setGroup k x).chans = s.chans := rfl
@[simp] theorem State.setGroup_vds (s : State) (k : Nat) (x : Group) : (s.setGroup k x).vds = s.vds := rfl
@[simp] theorem State.setGroup_vdRegs (s : State) (k : Nat) (x : Group) : (s.setGroup k x).vdRegs = s.vdRegs := rfl
@[simp] theorem State.setGroup_queues (s : State) (k : Nat) (x : Group) : (s.setGroup k x).queues = s.queues := rfl
@[simp] theorem State.setGroup_qgens (s : State) (k : Nat) (x : Group) : (s.setGroup k x).qgens = s.qgens := rfl
@[simp] theorem State.setGroup_tasks (s : State) (k : Nat) (x : Group) : (s.setGroup k x).tasks = s.tasks := rfl
@[simp] theorem State.setGroup_groups (s : State) (k : Nat) (x : Group) : (s.setGroup k x).groups = tset s.groups k x := rfl
@[simp] theorem State.setGroup_courses (s : State) (k : Nat) (x : Group) : (s.setGroup k x).courses = s.courses := rfl
@[simp] theorem State.setGroup_copies (s : State) (k : Nat) (x : Group) : (s.setGroup k x).copies = s.copies := rfl
@[simp] theorem State.setGroup_waits (s : State) (k : Nat) (x : Group) : (s.setGroup k x).waits = s.waits := rfl
@[simp] theorem State.setGroup_expired (s : State) (k : Nat) (x : Group) : (s.setGroup k x).expired = s.expired := rfl
@[simp] theorem State.setGroup_blobs (s : State) (k : Nat) (x : Group) : (s.setGroup k x).blobs = s.blobs := rfl
@[simp] theorem State.setGroup_nextKey (s : State) (k : Nat) (x : Group) : (s.setGroup k x).nextKey = s.nextKey := rfl

/-! ## State.setTask -/

@[simp] theorem State.setTask_now (s : State) (k : Nat) (x : Task) : (s.setTask k x).now = s.now := rfl
@[simp] theorem State.setTask_free (s : State) (k : Nat) (x : Task) : (s.setTask k x).free = s.free := rfl
@[simp] theorem State.setTask_sched (s : State) (k : Nat) (x : Task) : (s.setTask k x).sched = s.sched := rfl
@[simp] theorem State.setTask_inputs (s : State) (k : Nat) (x : Task) : (s.setTask k x).inputs = s.inputs := rfl
@[simp] theorem State.setTask_agenda (s : State) (k : Nat) (x : Task) : (s.setTask k x).agenda = s.agenda := rfl
@[simp] theorem State.setTask_arg (s : State) (k : Nat) (x : Task) : (s.setTask k x).arg = s.arg := rfl
@[simp] theorem State.setTask_out (s : State) (k : Nat) (x : Task) : (s.setTask k x).out = s.out := rfl
@[simp] theorem State.setTask_cur (s : State) (k : Nat) (x : Task) : (s.setTask k x).cur = s.cur := rfl
@[simp] theorem State.setTask_plat (s : State) (k : Nat) (x : Task) : (s.setTask k x).plat = s.plat := rfl
@[simp] theorem State.setTask_fab (s : State) (k : Nat) (x : Task) : (s.setTask k x).fab = s.fab := rfl
@[simp] theorem State.setTask_host (s : State) (k : Nat) (x : Task) : (s.setTask k x).host = s.host := rfl
@[simp] theorem State.setTask_sec (s : State) (k : Nat) (x : Task) : (s.setTask k x).sec = s.sec := rfl
@[simp] theorem State.setTask_preDrain (s : State) (k : Nat) (x : Task) : (s.setTask k x).preDrain = s.preDrain := rfl
@[simp] theorem State.setTask_dram (s : State) (k : Nat) (x : Task) : (s.setTask k x).dram = s.dram := rfl
@[simp] theorem State.setTask_full (s : State) (k : Nat) (x : Task) : (s.setTask k x).full = s.full := rfl
@[simp] theorem State.setTask_poison (s : State) (k : Nat) (x : Task) : (s.setTask k x).poison = s.poison := rfl
@[simp] theorem State.setTask_sram (s : State) (k : Nat) (x : Task) : (s.setTask k x).sram = s.sram := rfl
@[simp] theorem State.setTask_sramPoison (s : State) (k : Nat) (x : Task) : (s.setTask k x).sramPoison = s.sramPoison := rfl
@[simp] theorem State.setTask_atlb (s : State) (k : Nat) (x : Task) : (s.setTask k x).atlb = s.atlb := rfl
@[simp] theorem State.setTask_benches (s : State) (k : Nat) (x : Task) : (s.setTask k x).benches = s.benches := rfl
@[simp] theorem State.setTask_cells (s : State) (k : Nat) (x : Task) : (s.setTask k x).cells = s.cells := rfl
@[simp] theorem State.setTask_dies (s : State) (k : Nat) (x : Task) : (s.setTask k x).dies = s.dies := rfl
@[simp] theorem State.setTask_recs (s : State) (k : Nat) (x : Task) : (s.setTask k x).recs = s.recs := rfl
@[simp] theorem State.setTask_chans (s : State) (k : Nat) (x : Task) : (s.setTask k x).chans = s.chans := rfl
@[simp] theorem State.setTask_vds (s : State) (k : Nat) (x : Task) : (s.setTask k x).vds = s.vds := rfl
@[simp] theorem State.setTask_vdRegs (s : State) (k : Nat) (x : Task) : (s.setTask k x).vdRegs = s.vdRegs := rfl
@[simp] theorem State.setTask_queues (s : State) (k : Nat) (x : Task) : (s.setTask k x).queues = s.queues := rfl
@[simp] theorem State.setTask_qgens (s : State) (k : Nat) (x : Task) : (s.setTask k x).qgens = s.qgens := rfl
@[simp] theorem State.setTask_tasks (s : State) (k : Nat) (x : Task) : (s.setTask k x).tasks = tset s.tasks k x := rfl
@[simp] theorem State.setTask_groups (s : State) (k : Nat) (x : Task) : (s.setTask k x).groups = s.groups := rfl
@[simp] theorem State.setTask_courses (s : State) (k : Nat) (x : Task) : (s.setTask k x).courses = s.courses := rfl
@[simp] theorem State.setTask_copies (s : State) (k : Nat) (x : Task) : (s.setTask k x).copies = s.copies := rfl
@[simp] theorem State.setTask_waits (s : State) (k : Nat) (x : Task) : (s.setTask k x).waits = s.waits := rfl
@[simp] theorem State.setTask_expired (s : State) (k : Nat) (x : Task) : (s.setTask k x).expired = s.expired := rfl
@[simp] theorem State.setTask_blobs (s : State) (k : Nat) (x : Task) : (s.setTask k x).blobs = s.blobs := rfl
@[simp] theorem State.setTask_nextKey (s : State) (k : Nat) (x : Task) : (s.setTask k x).nextKey = s.nextKey := rfl

/-! ## State.setVd -/

@[simp] theorem State.setVd_now (s : State) (k : Nat) (x : VDev) : (s.setVd k x).now = s.now := rfl
@[simp] theorem State.setVd_free (s : State) (k : Nat) (x : VDev) : (s.setVd k x).free = s.free := rfl
@[simp] theorem State.setVd_sched (s : State) (k : Nat) (x : VDev) : (s.setVd k x).sched = s.sched := rfl
@[simp] theorem State.setVd_inputs (s : State) (k : Nat) (x : VDev) : (s.setVd k x).inputs = s.inputs := rfl
@[simp] theorem State.setVd_agenda (s : State) (k : Nat) (x : VDev) : (s.setVd k x).agenda = s.agenda := rfl
@[simp] theorem State.setVd_arg (s : State) (k : Nat) (x : VDev) : (s.setVd k x).arg = s.arg := rfl
@[simp] theorem State.setVd_out (s : State) (k : Nat) (x : VDev) : (s.setVd k x).out = s.out := rfl
@[simp] theorem State.setVd_cur (s : State) (k : Nat) (x : VDev) : (s.setVd k x).cur = s.cur := rfl
@[simp] theorem State.setVd_plat (s : State) (k : Nat) (x : VDev) : (s.setVd k x).plat = s.plat := rfl
@[simp] theorem State.setVd_fab (s : State) (k : Nat) (x : VDev) : (s.setVd k x).fab = s.fab := rfl
@[simp] theorem State.setVd_host (s : State) (k : Nat) (x : VDev) : (s.setVd k x).host = s.host := rfl
@[simp] theorem State.setVd_sec (s : State) (k : Nat) (x : VDev) : (s.setVd k x).sec = s.sec := rfl
@[simp] theorem State.setVd_preDrain (s : State) (k : Nat) (x : VDev) : (s.setVd k x).preDrain = s.preDrain := rfl
@[simp] theorem State.setVd_dram (s : State) (k : Nat) (x : VDev) : (s.setVd k x).dram = s.dram := rfl
@[simp] theorem State.setVd_full (s : State) (k : Nat) (x : VDev) : (s.setVd k x).full = s.full := rfl
@[simp] theorem State.setVd_poison (s : State) (k : Nat) (x : VDev) : (s.setVd k x).poison = s.poison := rfl
@[simp] theorem State.setVd_sram (s : State) (k : Nat) (x : VDev) : (s.setVd k x).sram = s.sram := rfl
@[simp] theorem State.setVd_sramPoison (s : State) (k : Nat) (x : VDev) : (s.setVd k x).sramPoison = s.sramPoison := rfl
@[simp] theorem State.setVd_atlb (s : State) (k : Nat) (x : VDev) : (s.setVd k x).atlb = s.atlb := rfl
@[simp] theorem State.setVd_benches (s : State) (k : Nat) (x : VDev) : (s.setVd k x).benches = s.benches := rfl
@[simp] theorem State.setVd_cells (s : State) (k : Nat) (x : VDev) : (s.setVd k x).cells = s.cells := rfl
@[simp] theorem State.setVd_dies (s : State) (k : Nat) (x : VDev) : (s.setVd k x).dies = s.dies := rfl
@[simp] theorem State.setVd_recs (s : State) (k : Nat) (x : VDev) : (s.setVd k x).recs = s.recs := rfl
@[simp] theorem State.setVd_chans (s : State) (k : Nat) (x : VDev) : (s.setVd k x).chans = s.chans := rfl
@[simp] theorem State.setVd_vds (s : State) (k : Nat) (x : VDev) : (s.setVd k x).vds = tset s.vds k x := rfl
@[simp] theorem State.setVd_vdRegs (s : State) (k : Nat) (x : VDev) : (s.setVd k x).vdRegs = s.vdRegs := rfl
@[simp] theorem State.setVd_queues (s : State) (k : Nat) (x : VDev) : (s.setVd k x).queues = s.queues := rfl
@[simp] theorem State.setVd_qgens (s : State) (k : Nat) (x : VDev) : (s.setVd k x).qgens = s.qgens := rfl
@[simp] theorem State.setVd_tasks (s : State) (k : Nat) (x : VDev) : (s.setVd k x).tasks = s.tasks := rfl
@[simp] theorem State.setVd_groups (s : State) (k : Nat) (x : VDev) : (s.setVd k x).groups = s.groups := rfl
@[simp] theorem State.setVd_courses (s : State) (k : Nat) (x : VDev) : (s.setVd k x).courses = s.courses := rfl
@[simp] theorem State.setVd_copies (s : State) (k : Nat) (x : VDev) : (s.setVd k x).copies = s.copies := rfl
@[simp] theorem State.setVd_waits (s : State) (k : Nat) (x : VDev) : (s.setVd k x).waits = s.waits := rfl
@[simp] theorem State.setVd_expired (s : State) (k : Nat) (x : VDev) : (s.setVd k x).expired = s.expired := rfl
@[simp] theorem State.setVd_blobs (s : State) (k : Nat) (x : VDev) : (s.setVd k x).blobs = s.blobs := rfl
@[simp] theorem State.setVd_nextKey (s : State) (k : Nat) (x : VDev) : (s.setVd k x).nextKey = s.nextKey := rfl

/-! ## State.setVdReg -/

@[simp] theorem State.setVdReg_now (s : State) (k : Nat) (x : VdRegs) : (s.setVdReg k x).now = s.now := rfl
@[simp] theorem State.setVdReg_free (s : State) (k : Nat) (x : VdRegs) : (s.setVdReg k x).free = s.free := rfl
@[simp] theorem State.setVdReg_sched (s : State) (k : Nat) (x : VdRegs) : (s.setVdReg k x).sched = s.sched := rfl
@[simp] theorem State.setVdReg_inputs (s : State) (k : Nat) (x : VdRegs) : (s.setVdReg k x).inputs = s.inputs := rfl
@[simp] theorem State.setVdReg_agenda (s : State) (k : Nat) (x : VdRegs) : (s.setVdReg k x).agenda = s.agenda := rfl
@[simp] theorem State.setVdReg_arg (s : State) (k : Nat) (x : VdRegs) : (s.setVdReg k x).arg = s.arg := rfl
@[simp] theorem State.setVdReg_out (s : State) (k : Nat) (x : VdRegs) : (s.setVdReg k x).out = s.out := rfl
@[simp] theorem State.setVdReg_cur (s : State) (k : Nat) (x : VdRegs) : (s.setVdReg k x).cur = s.cur := rfl
@[simp] theorem State.setVdReg_plat (s : State) (k : Nat) (x : VdRegs) : (s.setVdReg k x).plat = s.plat := rfl
@[simp] theorem State.setVdReg_fab (s : State) (k : Nat) (x : VdRegs) : (s.setVdReg k x).fab = s.fab := rfl
@[simp] theorem State.setVdReg_host (s : State) (k : Nat) (x : VdRegs) : (s.setVdReg k x).host = s.host := rfl
@[simp] theorem State.setVdReg_sec (s : State) (k : Nat) (x : VdRegs) : (s.setVdReg k x).sec = s.sec := rfl
@[simp] theorem State.setVdReg_preDrain (s : State) (k : Nat) (x : VdRegs) : (s.setVdReg k x).preDrain = s.preDrain := rfl
@[simp] theorem State.setVdReg_dram (s : State) (k : Nat) (x : VdRegs) : (s.setVdReg k x).dram = s.dram := rfl
@[simp] theorem State.setVdReg_full (s : State) (k : Nat) (x : VdRegs) : (s.setVdReg k x).full = s.full := rfl
@[simp] theorem State.setVdReg_poison (s : State) (k : Nat) (x : VdRegs) : (s.setVdReg k x).poison = s.poison := rfl
@[simp] theorem State.setVdReg_sram (s : State) (k : Nat) (x : VdRegs) : (s.setVdReg k x).sram = s.sram := rfl
@[simp] theorem State.setVdReg_sramPoison (s : State) (k : Nat) (x : VdRegs) : (s.setVdReg k x).sramPoison = s.sramPoison := rfl
@[simp] theorem State.setVdReg_atlb (s : State) (k : Nat) (x : VdRegs) : (s.setVdReg k x).atlb = s.atlb := rfl
@[simp] theorem State.setVdReg_benches (s : State) (k : Nat) (x : VdRegs) : (s.setVdReg k x).benches = s.benches := rfl
@[simp] theorem State.setVdReg_cells (s : State) (k : Nat) (x : VdRegs) : (s.setVdReg k x).cells = s.cells := rfl
@[simp] theorem State.setVdReg_dies (s : State) (k : Nat) (x : VdRegs) : (s.setVdReg k x).dies = s.dies := rfl
@[simp] theorem State.setVdReg_recs (s : State) (k : Nat) (x : VdRegs) : (s.setVdReg k x).recs = s.recs := rfl
@[simp] theorem State.setVdReg_chans (s : State) (k : Nat) (x : VdRegs) : (s.setVdReg k x).chans = s.chans := rfl
@[simp] theorem State.setVdReg_vds (s : State) (k : Nat) (x : VdRegs) : (s.setVdReg k x).vds = s.vds := rfl
@[simp] theorem State.setVdReg_vdRegs (s : State) (k : Nat) (x : VdRegs) : (s.setVdReg k x).vdRegs = tput {} s.vdRegs k x := rfl
@[simp] theorem State.setVdReg_queues (s : State) (k : Nat) (x : VdRegs) : (s.setVdReg k x).queues = s.queues := rfl
@[simp] theorem State.setVdReg_qgens (s : State) (k : Nat) (x : VdRegs) : (s.setVdReg k x).qgens = s.qgens := rfl
@[simp] theorem State.setVdReg_tasks (s : State) (k : Nat) (x : VdRegs) : (s.setVdReg k x).tasks = s.tasks := rfl
@[simp] theorem State.setVdReg_groups (s : State) (k : Nat) (x : VdRegs) : (s.setVdReg k x).groups = s.groups := rfl
@[simp] theorem State.setVdReg_courses (s : State) (k : Nat) (x : VdRegs) : (s.setVdReg k x).courses = s.courses := rfl
@[simp] theorem State.setVdReg_copies (s : State) (k : Nat) (x : VdRegs) : (s.setVdReg k x).copies = s.copies := rfl
@[simp] theorem State.setVdReg_waits (s : State) (k : Nat) (x : VdRegs) : (s.setVdReg k x).waits = s.waits := rfl
@[simp] theorem State.setVdReg_expired (s : State) (k : Nat) (x : VdRegs) : (s.setVdReg k x).expired = s.expired := rfl
@[simp] theorem State.setVdReg_blobs (s : State) (k : Nat) (x : VdRegs) : (s.setVdReg k x).blobs = s.blobs := rfl
@[simp] theorem State.setVdReg_nextKey (s : State) (k : Nat) (x : VdRegs) : (s.setVdReg k x).nextKey = s.nextKey := rfl

/-! ## State.setBench -/

@[simp] theorem State.setBench_now (s : State) (k : Nat) (x : Bench) : (s.setBench k x).now = s.now := rfl
@[simp] theorem State.setBench_free (s : State) (k : Nat) (x : Bench) : (s.setBench k x).free = s.free := rfl
@[simp] theorem State.setBench_sched (s : State) (k : Nat) (x : Bench) : (s.setBench k x).sched = s.sched := rfl
@[simp] theorem State.setBench_inputs (s : State) (k : Nat) (x : Bench) : (s.setBench k x).inputs = s.inputs := rfl
@[simp] theorem State.setBench_agenda (s : State) (k : Nat) (x : Bench) : (s.setBench k x).agenda = s.agenda := rfl
@[simp] theorem State.setBench_arg (s : State) (k : Nat) (x : Bench) : (s.setBench k x).arg = s.arg := rfl
@[simp] theorem State.setBench_out (s : State) (k : Nat) (x : Bench) : (s.setBench k x).out = s.out := rfl
@[simp] theorem State.setBench_cur (s : State) (k : Nat) (x : Bench) : (s.setBench k x).cur = s.cur := rfl
@[simp] theorem State.setBench_plat (s : State) (k : Nat) (x : Bench) : (s.setBench k x).plat = s.plat := rfl
@[simp] theorem State.setBench_fab (s : State) (k : Nat) (x : Bench) : (s.setBench k x).fab = s.fab := rfl
@[simp] theorem State.setBench_host (s : State) (k : Nat) (x : Bench) : (s.setBench k x).host = s.host := rfl
@[simp] theorem State.setBench_sec (s : State) (k : Nat) (x : Bench) : (s.setBench k x).sec = s.sec := rfl
@[simp] theorem State.setBench_preDrain (s : State) (k : Nat) (x : Bench) : (s.setBench k x).preDrain = s.preDrain := rfl
@[simp] theorem State.setBench_dram (s : State) (k : Nat) (x : Bench) : (s.setBench k x).dram = s.dram := rfl
@[simp] theorem State.setBench_full (s : State) (k : Nat) (x : Bench) : (s.setBench k x).full = s.full := rfl
@[simp] theorem State.setBench_poison (s : State) (k : Nat) (x : Bench) : (s.setBench k x).poison = s.poison := rfl
@[simp] theorem State.setBench_sram (s : State) (k : Nat) (x : Bench) : (s.setBench k x).sram = s.sram := rfl
@[simp] theorem State.setBench_sramPoison (s : State) (k : Nat) (x : Bench) : (s.setBench k x).sramPoison = s.sramPoison := rfl
@[simp] theorem State.setBench_atlb (s : State) (k : Nat) (x : Bench) : (s.setBench k x).atlb = s.atlb := rfl
@[simp] theorem State.setBench_benches (s : State) (k : Nat) (x : Bench) : (s.setBench k x).benches = tset s.benches k x := rfl
@[simp] theorem State.setBench_cells (s : State) (k : Nat) (x : Bench) : (s.setBench k x).cells = s.cells := rfl
@[simp] theorem State.setBench_dies (s : State) (k : Nat) (x : Bench) : (s.setBench k x).dies = s.dies := rfl
@[simp] theorem State.setBench_recs (s : State) (k : Nat) (x : Bench) : (s.setBench k x).recs = s.recs := rfl
@[simp] theorem State.setBench_chans (s : State) (k : Nat) (x : Bench) : (s.setBench k x).chans = s.chans := rfl
@[simp] theorem State.setBench_vds (s : State) (k : Nat) (x : Bench) : (s.setBench k x).vds = s.vds := rfl
@[simp] theorem State.setBench_vdRegs (s : State) (k : Nat) (x : Bench) : (s.setBench k x).vdRegs = s.vdRegs := rfl
@[simp] theorem State.setBench_queues (s : State) (k : Nat) (x : Bench) : (s.setBench k x).queues = s.queues := rfl
@[simp] theorem State.setBench_qgens (s : State) (k : Nat) (x : Bench) : (s.setBench k x).qgens = s.qgens := rfl
@[simp] theorem State.setBench_tasks (s : State) (k : Nat) (x : Bench) : (s.setBench k x).tasks = s.tasks := rfl
@[simp] theorem State.setBench_groups (s : State) (k : Nat) (x : Bench) : (s.setBench k x).groups = s.groups := rfl
@[simp] theorem State.setBench_courses (s : State) (k : Nat) (x : Bench) : (s.setBench k x).courses = s.courses := rfl
@[simp] theorem State.setBench_copies (s : State) (k : Nat) (x : Bench) : (s.setBench k x).copies = s.copies := rfl
@[simp] theorem State.setBench_waits (s : State) (k : Nat) (x : Bench) : (s.setBench k x).waits = s.waits := rfl
@[simp] theorem State.setBench_expired (s : State) (k : Nat) (x : Bench) : (s.setBench k x).expired = s.expired := rfl
@[simp] theorem State.setBench_blobs (s : State) (k : Nat) (x : Bench) : (s.setBench k x).blobs = s.blobs := rfl
@[simp] theorem State.setBench_nextKey (s : State) (k : Nat) (x : Bench) : (s.setBench k x).nextKey = s.nextKey := rfl

/-! ## State.setDie -/

@[simp] theorem State.setDie_now (s : State) (k : Nat) (x : Die) : (s.setDie k x).now = s.now := rfl
@[simp] theorem State.setDie_free (s : State) (k : Nat) (x : Die) : (s.setDie k x).free = s.free := rfl
@[simp] theorem State.setDie_sched (s : State) (k : Nat) (x : Die) : (s.setDie k x).sched = s.sched := rfl
@[simp] theorem State.setDie_inputs (s : State) (k : Nat) (x : Die) : (s.setDie k x).inputs = s.inputs := rfl
@[simp] theorem State.setDie_agenda (s : State) (k : Nat) (x : Die) : (s.setDie k x).agenda = s.agenda := rfl
@[simp] theorem State.setDie_arg (s : State) (k : Nat) (x : Die) : (s.setDie k x).arg = s.arg := rfl
@[simp] theorem State.setDie_out (s : State) (k : Nat) (x : Die) : (s.setDie k x).out = s.out := rfl
@[simp] theorem State.setDie_cur (s : State) (k : Nat) (x : Die) : (s.setDie k x).cur = s.cur := rfl
@[simp] theorem State.setDie_plat (s : State) (k : Nat) (x : Die) : (s.setDie k x).plat = s.plat := rfl
@[simp] theorem State.setDie_fab (s : State) (k : Nat) (x : Die) : (s.setDie k x).fab = s.fab := rfl
@[simp] theorem State.setDie_host (s : State) (k : Nat) (x : Die) : (s.setDie k x).host = s.host := rfl
@[simp] theorem State.setDie_sec (s : State) (k : Nat) (x : Die) : (s.setDie k x).sec = s.sec := rfl
@[simp] theorem State.setDie_preDrain (s : State) (k : Nat) (x : Die) : (s.setDie k x).preDrain = s.preDrain := rfl
@[simp] theorem State.setDie_dram (s : State) (k : Nat) (x : Die) : (s.setDie k x).dram = s.dram := rfl
@[simp] theorem State.setDie_full (s : State) (k : Nat) (x : Die) : (s.setDie k x).full = s.full := rfl
@[simp] theorem State.setDie_poison (s : State) (k : Nat) (x : Die) : (s.setDie k x).poison = s.poison := rfl
@[simp] theorem State.setDie_sram (s : State) (k : Nat) (x : Die) : (s.setDie k x).sram = s.sram := rfl
@[simp] theorem State.setDie_sramPoison (s : State) (k : Nat) (x : Die) : (s.setDie k x).sramPoison = s.sramPoison := rfl
@[simp] theorem State.setDie_atlb (s : State) (k : Nat) (x : Die) : (s.setDie k x).atlb = s.atlb := rfl
@[simp] theorem State.setDie_benches (s : State) (k : Nat) (x : Die) : (s.setDie k x).benches = s.benches := rfl
@[simp] theorem State.setDie_cells (s : State) (k : Nat) (x : Die) : (s.setDie k x).cells = s.cells := rfl
@[simp] theorem State.setDie_dies (s : State) (k : Nat) (x : Die) : (s.setDie k x).dies = tset s.dies k x := rfl
@[simp] theorem State.setDie_recs (s : State) (k : Nat) (x : Die) : (s.setDie k x).recs = s.recs := rfl
@[simp] theorem State.setDie_chans (s : State) (k : Nat) (x : Die) : (s.setDie k x).chans = s.chans := rfl
@[simp] theorem State.setDie_vds (s : State) (k : Nat) (x : Die) : (s.setDie k x).vds = s.vds := rfl
@[simp] theorem State.setDie_vdRegs (s : State) (k : Nat) (x : Die) : (s.setDie k x).vdRegs = s.vdRegs := rfl
@[simp] theorem State.setDie_queues (s : State) (k : Nat) (x : Die) : (s.setDie k x).queues = s.queues := rfl
@[simp] theorem State.setDie_qgens (s : State) (k : Nat) (x : Die) : (s.setDie k x).qgens = s.qgens := rfl
@[simp] theorem State.setDie_tasks (s : State) (k : Nat) (x : Die) : (s.setDie k x).tasks = s.tasks := rfl
@[simp] theorem State.setDie_groups (s : State) (k : Nat) (x : Die) : (s.setDie k x).groups = s.groups := rfl
@[simp] theorem State.setDie_courses (s : State) (k : Nat) (x : Die) : (s.setDie k x).courses = s.courses := rfl
@[simp] theorem State.setDie_copies (s : State) (k : Nat) (x : Die) : (s.setDie k x).copies = s.copies := rfl
@[simp] theorem State.setDie_waits (s : State) (k : Nat) (x : Die) : (s.setDie k x).waits = s.waits := rfl
@[simp] theorem State.setDie_expired (s : State) (k : Nat) (x : Die) : (s.setDie k x).expired = s.expired := rfl
@[simp] theorem State.setDie_blobs (s : State) (k : Nat) (x : Die) : (s.setDie k x).blobs = s.blobs := rfl
@[simp] theorem State.setDie_nextKey (s : State) (k : Nat) (x : Die) : (s.setDie k x).nextKey = s.nextKey := rfl

/-! ## State.setCell -/

@[simp] theorem State.setCell_now (s : State) (k : Nat) (x : Cell) : (s.setCell k x).now = s.now := rfl
@[simp] theorem State.setCell_free (s : State) (k : Nat) (x : Cell) : (s.setCell k x).free = s.free := rfl
@[simp] theorem State.setCell_sched (s : State) (k : Nat) (x : Cell) : (s.setCell k x).sched = s.sched := rfl
@[simp] theorem State.setCell_inputs (s : State) (k : Nat) (x : Cell) : (s.setCell k x).inputs = s.inputs := rfl
@[simp] theorem State.setCell_agenda (s : State) (k : Nat) (x : Cell) : (s.setCell k x).agenda = s.agenda := rfl
@[simp] theorem State.setCell_arg (s : State) (k : Nat) (x : Cell) : (s.setCell k x).arg = s.arg := rfl
@[simp] theorem State.setCell_out (s : State) (k : Nat) (x : Cell) : (s.setCell k x).out = s.out := rfl
@[simp] theorem State.setCell_cur (s : State) (k : Nat) (x : Cell) : (s.setCell k x).cur = s.cur := rfl
@[simp] theorem State.setCell_plat (s : State) (k : Nat) (x : Cell) : (s.setCell k x).plat = s.plat := rfl
@[simp] theorem State.setCell_fab (s : State) (k : Nat) (x : Cell) : (s.setCell k x).fab = s.fab := rfl
@[simp] theorem State.setCell_host (s : State) (k : Nat) (x : Cell) : (s.setCell k x).host = s.host := rfl
@[simp] theorem State.setCell_sec (s : State) (k : Nat) (x : Cell) : (s.setCell k x).sec = s.sec := rfl
@[simp] theorem State.setCell_preDrain (s : State) (k : Nat) (x : Cell) : (s.setCell k x).preDrain = s.preDrain := rfl
@[simp] theorem State.setCell_dram (s : State) (k : Nat) (x : Cell) : (s.setCell k x).dram = s.dram := rfl
@[simp] theorem State.setCell_full (s : State) (k : Nat) (x : Cell) : (s.setCell k x).full = s.full := rfl
@[simp] theorem State.setCell_poison (s : State) (k : Nat) (x : Cell) : (s.setCell k x).poison = s.poison := rfl
@[simp] theorem State.setCell_sram (s : State) (k : Nat) (x : Cell) : (s.setCell k x).sram = s.sram := rfl
@[simp] theorem State.setCell_sramPoison (s : State) (k : Nat) (x : Cell) : (s.setCell k x).sramPoison = s.sramPoison := rfl
@[simp] theorem State.setCell_atlb (s : State) (k : Nat) (x : Cell) : (s.setCell k x).atlb = s.atlb := rfl
@[simp] theorem State.setCell_benches (s : State) (k : Nat) (x : Cell) : (s.setCell k x).benches = s.benches := rfl
@[simp] theorem State.setCell_cells (s : State) (k : Nat) (x : Cell) : (s.setCell k x).cells = tset s.cells k x := rfl
@[simp] theorem State.setCell_dies (s : State) (k : Nat) (x : Cell) : (s.setCell k x).dies = s.dies := rfl
@[simp] theorem State.setCell_recs (s : State) (k : Nat) (x : Cell) : (s.setCell k x).recs = s.recs := rfl
@[simp] theorem State.setCell_chans (s : State) (k : Nat) (x : Cell) : (s.setCell k x).chans = s.chans := rfl
@[simp] theorem State.setCell_vds (s : State) (k : Nat) (x : Cell) : (s.setCell k x).vds = s.vds := rfl
@[simp] theorem State.setCell_vdRegs (s : State) (k : Nat) (x : Cell) : (s.setCell k x).vdRegs = s.vdRegs := rfl
@[simp] theorem State.setCell_queues (s : State) (k : Nat) (x : Cell) : (s.setCell k x).queues = s.queues := rfl
@[simp] theorem State.setCell_qgens (s : State) (k : Nat) (x : Cell) : (s.setCell k x).qgens = s.qgens := rfl
@[simp] theorem State.setCell_tasks (s : State) (k : Nat) (x : Cell) : (s.setCell k x).tasks = s.tasks := rfl
@[simp] theorem State.setCell_groups (s : State) (k : Nat) (x : Cell) : (s.setCell k x).groups = s.groups := rfl
@[simp] theorem State.setCell_courses (s : State) (k : Nat) (x : Cell) : (s.setCell k x).courses = s.courses := rfl
@[simp] theorem State.setCell_copies (s : State) (k : Nat) (x : Cell) : (s.setCell k x).copies = s.copies := rfl
@[simp] theorem State.setCell_waits (s : State) (k : Nat) (x : Cell) : (s.setCell k x).waits = s.waits := rfl
@[simp] theorem State.setCell_expired (s : State) (k : Nat) (x : Cell) : (s.setCell k x).expired = s.expired := rfl
@[simp] theorem State.setCell_blobs (s : State) (k : Nat) (x : Cell) : (s.setCell k x).blobs = s.blobs := rfl
@[simp] theorem State.setCell_nextKey (s : State) (k : Nat) (x : Cell) : (s.setCell k x).nextKey = s.nextKey := rfl

/-! ## State.setRecord -/

@[simp] theorem State.setRecord_now (s : State) (k : Nat) (x : PRec) : (s.setRecord k x).now = s.now := rfl
@[simp] theorem State.setRecord_free (s : State) (k : Nat) (x : PRec) : (s.setRecord k x).free = s.free := rfl
@[simp] theorem State.setRecord_sched (s : State) (k : Nat) (x : PRec) : (s.setRecord k x).sched = s.sched := rfl
@[simp] theorem State.setRecord_inputs (s : State) (k : Nat) (x : PRec) : (s.setRecord k x).inputs = s.inputs := rfl
@[simp] theorem State.setRecord_agenda (s : State) (k : Nat) (x : PRec) : (s.setRecord k x).agenda = s.agenda := rfl
@[simp] theorem State.setRecord_arg (s : State) (k : Nat) (x : PRec) : (s.setRecord k x).arg = s.arg := rfl
@[simp] theorem State.setRecord_out (s : State) (k : Nat) (x : PRec) : (s.setRecord k x).out = s.out := rfl
@[simp] theorem State.setRecord_cur (s : State) (k : Nat) (x : PRec) : (s.setRecord k x).cur = s.cur := rfl
@[simp] theorem State.setRecord_plat (s : State) (k : Nat) (x : PRec) : (s.setRecord k x).plat = s.plat := rfl
@[simp] theorem State.setRecord_fab (s : State) (k : Nat) (x : PRec) : (s.setRecord k x).fab = s.fab := rfl
@[simp] theorem State.setRecord_host (s : State) (k : Nat) (x : PRec) : (s.setRecord k x).host = s.host := rfl
@[simp] theorem State.setRecord_sec (s : State) (k : Nat) (x : PRec) : (s.setRecord k x).sec = s.sec := rfl
@[simp] theorem State.setRecord_preDrain (s : State) (k : Nat) (x : PRec) : (s.setRecord k x).preDrain = s.preDrain := rfl
@[simp] theorem State.setRecord_dram (s : State) (k : Nat) (x : PRec) : (s.setRecord k x).dram = s.dram := rfl
@[simp] theorem State.setRecord_full (s : State) (k : Nat) (x : PRec) : (s.setRecord k x).full = s.full := rfl
@[simp] theorem State.setRecord_poison (s : State) (k : Nat) (x : PRec) : (s.setRecord k x).poison = s.poison := rfl
@[simp] theorem State.setRecord_sram (s : State) (k : Nat) (x : PRec) : (s.setRecord k x).sram = s.sram := rfl
@[simp] theorem State.setRecord_sramPoison (s : State) (k : Nat) (x : PRec) : (s.setRecord k x).sramPoison = s.sramPoison := rfl
@[simp] theorem State.setRecord_atlb (s : State) (k : Nat) (x : PRec) : (s.setRecord k x).atlb = s.atlb := rfl
@[simp] theorem State.setRecord_benches (s : State) (k : Nat) (x : PRec) : (s.setRecord k x).benches = s.benches := rfl
@[simp] theorem State.setRecord_cells (s : State) (k : Nat) (x : PRec) : (s.setRecord k x).cells = s.cells := rfl
@[simp] theorem State.setRecord_dies (s : State) (k : Nat) (x : PRec) : (s.setRecord k x).dies = s.dies := rfl
@[simp] theorem State.setRecord_recs (s : State) (k : Nat) (x : PRec) : (s.setRecord k x).recs = tset s.recs k x := rfl
@[simp] theorem State.setRecord_chans (s : State) (k : Nat) (x : PRec) : (s.setRecord k x).chans = s.chans := rfl
@[simp] theorem State.setRecord_vds (s : State) (k : Nat) (x : PRec) : (s.setRecord k x).vds = s.vds := rfl
@[simp] theorem State.setRecord_vdRegs (s : State) (k : Nat) (x : PRec) : (s.setRecord k x).vdRegs = s.vdRegs := rfl
@[simp] theorem State.setRecord_queues (s : State) (k : Nat) (x : PRec) : (s.setRecord k x).queues = s.queues := rfl
@[simp] theorem State.setRecord_qgens (s : State) (k : Nat) (x : PRec) : (s.setRecord k x).qgens = s.qgens := rfl
@[simp] theorem State.setRecord_tasks (s : State) (k : Nat) (x : PRec) : (s.setRecord k x).tasks = s.tasks := rfl
@[simp] theorem State.setRecord_groups (s : State) (k : Nat) (x : PRec) : (s.setRecord k x).groups = s.groups := rfl
@[simp] theorem State.setRecord_courses (s : State) (k : Nat) (x : PRec) : (s.setRecord k x).courses = s.courses := rfl
@[simp] theorem State.setRecord_copies (s : State) (k : Nat) (x : PRec) : (s.setRecord k x).copies = s.copies := rfl
@[simp] theorem State.setRecord_waits (s : State) (k : Nat) (x : PRec) : (s.setRecord k x).waits = s.waits := rfl
@[simp] theorem State.setRecord_expired (s : State) (k : Nat) (x : PRec) : (s.setRecord k x).expired = s.expired := rfl
@[simp] theorem State.setRecord_blobs (s : State) (k : Nat) (x : PRec) : (s.setRecord k x).blobs = s.blobs := rfl
@[simp] theorem State.setRecord_nextKey (s : State) (k : Nat) (x : PRec) : (s.setRecord k x).nextKey = s.nextKey := rfl

/-! ## State.setQueue -/

@[simp] theorem State.setQueue_now (s : State) (k : Nat) (x : Queue) : (s.setQueue k x).now = s.now := rfl
@[simp] theorem State.setQueue_free (s : State) (k : Nat) (x : Queue) : (s.setQueue k x).free = s.free := rfl
@[simp] theorem State.setQueue_sched (s : State) (k : Nat) (x : Queue) : (s.setQueue k x).sched = s.sched := rfl
@[simp] theorem State.setQueue_inputs (s : State) (k : Nat) (x : Queue) : (s.setQueue k x).inputs = s.inputs := rfl
@[simp] theorem State.setQueue_agenda (s : State) (k : Nat) (x : Queue) : (s.setQueue k x).agenda = s.agenda := rfl
@[simp] theorem State.setQueue_arg (s : State) (k : Nat) (x : Queue) : (s.setQueue k x).arg = s.arg := rfl
@[simp] theorem State.setQueue_out (s : State) (k : Nat) (x : Queue) : (s.setQueue k x).out = s.out := rfl
@[simp] theorem State.setQueue_cur (s : State) (k : Nat) (x : Queue) : (s.setQueue k x).cur = s.cur := rfl
@[simp] theorem State.setQueue_plat (s : State) (k : Nat) (x : Queue) : (s.setQueue k x).plat = s.plat := rfl
@[simp] theorem State.setQueue_fab (s : State) (k : Nat) (x : Queue) : (s.setQueue k x).fab = s.fab := rfl
@[simp] theorem State.setQueue_host (s : State) (k : Nat) (x : Queue) : (s.setQueue k x).host = s.host := rfl
@[simp] theorem State.setQueue_sec (s : State) (k : Nat) (x : Queue) : (s.setQueue k x).sec = s.sec := rfl
@[simp] theorem State.setQueue_preDrain (s : State) (k : Nat) (x : Queue) : (s.setQueue k x).preDrain = s.preDrain := rfl
@[simp] theorem State.setQueue_dram (s : State) (k : Nat) (x : Queue) : (s.setQueue k x).dram = s.dram := rfl
@[simp] theorem State.setQueue_full (s : State) (k : Nat) (x : Queue) : (s.setQueue k x).full = s.full := rfl
@[simp] theorem State.setQueue_poison (s : State) (k : Nat) (x : Queue) : (s.setQueue k x).poison = s.poison := rfl
@[simp] theorem State.setQueue_sram (s : State) (k : Nat) (x : Queue) : (s.setQueue k x).sram = s.sram := rfl
@[simp] theorem State.setQueue_sramPoison (s : State) (k : Nat) (x : Queue) : (s.setQueue k x).sramPoison = s.sramPoison := rfl
@[simp] theorem State.setQueue_atlb (s : State) (k : Nat) (x : Queue) : (s.setQueue k x).atlb = s.atlb := rfl
@[simp] theorem State.setQueue_benches (s : State) (k : Nat) (x : Queue) : (s.setQueue k x).benches = s.benches := rfl
@[simp] theorem State.setQueue_cells (s : State) (k : Nat) (x : Queue) : (s.setQueue k x).cells = s.cells := rfl
@[simp] theorem State.setQueue_dies (s : State) (k : Nat) (x : Queue) : (s.setQueue k x).dies = s.dies := rfl
@[simp] theorem State.setQueue_recs (s : State) (k : Nat) (x : Queue) : (s.setQueue k x).recs = s.recs := rfl
@[simp] theorem State.setQueue_chans (s : State) (k : Nat) (x : Queue) : (s.setQueue k x).chans = s.chans := rfl
@[simp] theorem State.setQueue_vds (s : State) (k : Nat) (x : Queue) : (s.setQueue k x).vds = s.vds := rfl
@[simp] theorem State.setQueue_vdRegs (s : State) (k : Nat) (x : Queue) : (s.setQueue k x).vdRegs = s.vdRegs := rfl
@[simp] theorem State.setQueue_queues (s : State) (k : Nat) (x : Queue) : (s.setQueue k x).queues = tset s.queues k x := rfl
@[simp] theorem State.setQueue_qgens (s : State) (k : Nat) (x : Queue) : (s.setQueue k x).qgens = s.qgens := rfl
@[simp] theorem State.setQueue_tasks (s : State) (k : Nat) (x : Queue) : (s.setQueue k x).tasks = s.tasks := rfl
@[simp] theorem State.setQueue_groups (s : State) (k : Nat) (x : Queue) : (s.setQueue k x).groups = s.groups := rfl
@[simp] theorem State.setQueue_courses (s : State) (k : Nat) (x : Queue) : (s.setQueue k x).courses = s.courses := rfl
@[simp] theorem State.setQueue_copies (s : State) (k : Nat) (x : Queue) : (s.setQueue k x).copies = s.copies := rfl
@[simp] theorem State.setQueue_waits (s : State) (k : Nat) (x : Queue) : (s.setQueue k x).waits = s.waits := rfl
@[simp] theorem State.setQueue_expired (s : State) (k : Nat) (x : Queue) : (s.setQueue k x).expired = s.expired := rfl
@[simp] theorem State.setQueue_blobs (s : State) (k : Nat) (x : Queue) : (s.setQueue k x).blobs = s.blobs := rfl
@[simp] theorem State.setQueue_nextKey (s : State) (k : Nat) (x : Queue) : (s.setQueue k x).nextKey = s.nextKey := rfl

/-! ## State.setPort -/

@[simp] theorem State.setPort_now (s : State) (k : Nat) (x : Port) : (s.setPort k x).now = s.now := rfl
@[simp] theorem State.setPort_free (s : State) (k : Nat) (x : Port) : (s.setPort k x).free = s.free := rfl
@[simp] theorem State.setPort_sched (s : State) (k : Nat) (x : Port) : (s.setPort k x).sched = s.sched := rfl
@[simp] theorem State.setPort_inputs (s : State) (k : Nat) (x : Port) : (s.setPort k x).inputs = s.inputs := rfl
@[simp] theorem State.setPort_agenda (s : State) (k : Nat) (x : Port) : (s.setPort k x).agenda = s.agenda := rfl
@[simp] theorem State.setPort_arg (s : State) (k : Nat) (x : Port) : (s.setPort k x).arg = s.arg := rfl
@[simp] theorem State.setPort_out (s : State) (k : Nat) (x : Port) : (s.setPort k x).out = s.out := rfl
@[simp] theorem State.setPort_cur (s : State) (k : Nat) (x : Port) : (s.setPort k x).cur = s.cur := rfl
@[simp] theorem State.setPort_plat (s : State) (k : Nat) (x : Port) : (s.setPort k x).plat = s.plat := rfl
@[simp] theorem State.setPort_fab (s : State) (k : Nat) (x : Port) : (s.setPort k x).fab = { s.fab with ports := tset s.fab.ports k x } := rfl
@[simp] theorem State.setPort_host (s : State) (k : Nat) (x : Port) : (s.setPort k x).host = s.host := rfl
@[simp] theorem State.setPort_sec (s : State) (k : Nat) (x : Port) : (s.setPort k x).sec = s.sec := rfl
@[simp] theorem State.setPort_preDrain (s : State) (k : Nat) (x : Port) : (s.setPort k x).preDrain = s.preDrain := rfl
@[simp] theorem State.setPort_dram (s : State) (k : Nat) (x : Port) : (s.setPort k x).dram = s.dram := rfl
@[simp] theorem State.setPort_full (s : State) (k : Nat) (x : Port) : (s.setPort k x).full = s.full := rfl
@[simp] theorem State.setPort_poison (s : State) (k : Nat) (x : Port) : (s.setPort k x).poison = s.poison := rfl
@[simp] theorem State.setPort_sram (s : State) (k : Nat) (x : Port) : (s.setPort k x).sram = s.sram := rfl
@[simp] theorem State.setPort_sramPoison (s : State) (k : Nat) (x : Port) : (s.setPort k x).sramPoison = s.sramPoison := rfl
@[simp] theorem State.setPort_atlb (s : State) (k : Nat) (x : Port) : (s.setPort k x).atlb = s.atlb := rfl
@[simp] theorem State.setPort_benches (s : State) (k : Nat) (x : Port) : (s.setPort k x).benches = s.benches := rfl
@[simp] theorem State.setPort_cells (s : State) (k : Nat) (x : Port) : (s.setPort k x).cells = s.cells := rfl
@[simp] theorem State.setPort_dies (s : State) (k : Nat) (x : Port) : (s.setPort k x).dies = s.dies := rfl
@[simp] theorem State.setPort_recs (s : State) (k : Nat) (x : Port) : (s.setPort k x).recs = s.recs := rfl
@[simp] theorem State.setPort_chans (s : State) (k : Nat) (x : Port) : (s.setPort k x).chans = s.chans := rfl
@[simp] theorem State.setPort_vds (s : State) (k : Nat) (x : Port) : (s.setPort k x).vds = s.vds := rfl
@[simp] theorem State.setPort_vdRegs (s : State) (k : Nat) (x : Port) : (s.setPort k x).vdRegs = s.vdRegs := rfl
@[simp] theorem State.setPort_queues (s : State) (k : Nat) (x : Port) : (s.setPort k x).queues = s.queues := rfl
@[simp] theorem State.setPort_qgens (s : State) (k : Nat) (x : Port) : (s.setPort k x).qgens = s.qgens := rfl
@[simp] theorem State.setPort_tasks (s : State) (k : Nat) (x : Port) : (s.setPort k x).tasks = s.tasks := rfl
@[simp] theorem State.setPort_groups (s : State) (k : Nat) (x : Port) : (s.setPort k x).groups = s.groups := rfl
@[simp] theorem State.setPort_courses (s : State) (k : Nat) (x : Port) : (s.setPort k x).courses = s.courses := rfl
@[simp] theorem State.setPort_copies (s : State) (k : Nat) (x : Port) : (s.setPort k x).copies = s.copies := rfl
@[simp] theorem State.setPort_waits (s : State) (k : Nat) (x : Port) : (s.setPort k x).waits = s.waits := rfl
@[simp] theorem State.setPort_expired (s : State) (k : Nat) (x : Port) : (s.setPort k x).expired = s.expired := rfl
@[simp] theorem State.setPort_blobs (s : State) (k : Nat) (x : Port) : (s.setPort k x).blobs = s.blobs := rfl
@[simp] theorem State.setPort_nextKey (s : State) (k : Nat) (x : Port) : (s.setPort k x).nextKey = s.nextKey := rfl

/-! ## State.post -/

@[simp] theorem State.post_now (s : State) (t : Nat) (i : Instr) (a : EvArg) : (s.post t i a).now = s.now := rfl
@[simp] theorem State.post_free (s : State) (t : Nat) (i : Instr) (a : EvArg) : (s.post t i a).free = s.free := rfl
@[simp] theorem State.post_sched (s : State) (t : Nat) (i : Instr) (a : EvArg) : (s.post t i a).sched = s.sched := rfl
@[simp] theorem State.post_inputs (s : State) (t : Nat) (i : Instr) (a : EvArg) : (s.post t i a).inputs = s.inputs := rfl
@[simp] theorem State.post_agenda (s : State) (t : Nat) (i : Instr) (a : EvArg) : (s.post t i a).agenda = s.agenda ++ [{ tick := t, ev := { i, arg := a } }] := rfl
@[simp] theorem State.post_arg (s : State) (t : Nat) (i : Instr) (a : EvArg) : (s.post t i a).arg = s.arg := rfl
@[simp] theorem State.post_out (s : State) (t : Nat) (i : Instr) (a : EvArg) : (s.post t i a).out = s.out := rfl
@[simp] theorem State.post_cur (s : State) (t : Nat) (i : Instr) (a : EvArg) : (s.post t i a).cur = s.cur := rfl
@[simp] theorem State.post_plat (s : State) (t : Nat) (i : Instr) (a : EvArg) : (s.post t i a).plat = s.plat := rfl
@[simp] theorem State.post_fab (s : State) (t : Nat) (i : Instr) (a : EvArg) : (s.post t i a).fab = s.fab := rfl
@[simp] theorem State.post_host (s : State) (t : Nat) (i : Instr) (a : EvArg) : (s.post t i a).host = s.host := rfl
@[simp] theorem State.post_sec (s : State) (t : Nat) (i : Instr) (a : EvArg) : (s.post t i a).sec = s.sec := rfl
@[simp] theorem State.post_preDrain (s : State) (t : Nat) (i : Instr) (a : EvArg) : (s.post t i a).preDrain = s.preDrain := rfl
@[simp] theorem State.post_dram (s : State) (t : Nat) (i : Instr) (a : EvArg) : (s.post t i a).dram = s.dram := rfl
@[simp] theorem State.post_full (s : State) (t : Nat) (i : Instr) (a : EvArg) : (s.post t i a).full = s.full := rfl
@[simp] theorem State.post_poison (s : State) (t : Nat) (i : Instr) (a : EvArg) : (s.post t i a).poison = s.poison := rfl
@[simp] theorem State.post_sram (s : State) (t : Nat) (i : Instr) (a : EvArg) : (s.post t i a).sram = s.sram := rfl
@[simp] theorem State.post_sramPoison (s : State) (t : Nat) (i : Instr) (a : EvArg) : (s.post t i a).sramPoison = s.sramPoison := rfl
@[simp] theorem State.post_atlb (s : State) (t : Nat) (i : Instr) (a : EvArg) : (s.post t i a).atlb = s.atlb := rfl
@[simp] theorem State.post_benches (s : State) (t : Nat) (i : Instr) (a : EvArg) : (s.post t i a).benches = s.benches := rfl
@[simp] theorem State.post_cells (s : State) (t : Nat) (i : Instr) (a : EvArg) : (s.post t i a).cells = s.cells := rfl
@[simp] theorem State.post_dies (s : State) (t : Nat) (i : Instr) (a : EvArg) : (s.post t i a).dies = s.dies := rfl
@[simp] theorem State.post_recs (s : State) (t : Nat) (i : Instr) (a : EvArg) : (s.post t i a).recs = s.recs := rfl
@[simp] theorem State.post_chans (s : State) (t : Nat) (i : Instr) (a : EvArg) : (s.post t i a).chans = s.chans := rfl
@[simp] theorem State.post_vds (s : State) (t : Nat) (i : Instr) (a : EvArg) : (s.post t i a).vds = s.vds := rfl
@[simp] theorem State.post_vdRegs (s : State) (t : Nat) (i : Instr) (a : EvArg) : (s.post t i a).vdRegs = s.vdRegs := rfl
@[simp] theorem State.post_queues (s : State) (t : Nat) (i : Instr) (a : EvArg) : (s.post t i a).queues = s.queues := rfl
@[simp] theorem State.post_qgens (s : State) (t : Nat) (i : Instr) (a : EvArg) : (s.post t i a).qgens = s.qgens := rfl
@[simp] theorem State.post_tasks (s : State) (t : Nat) (i : Instr) (a : EvArg) : (s.post t i a).tasks = s.tasks := rfl
@[simp] theorem State.post_groups (s : State) (t : Nat) (i : Instr) (a : EvArg) : (s.post t i a).groups = s.groups := rfl
@[simp] theorem State.post_courses (s : State) (t : Nat) (i : Instr) (a : EvArg) : (s.post t i a).courses = s.courses := rfl
@[simp] theorem State.post_copies (s : State) (t : Nat) (i : Instr) (a : EvArg) : (s.post t i a).copies = s.copies := rfl
@[simp] theorem State.post_waits (s : State) (t : Nat) (i : Instr) (a : EvArg) : (s.post t i a).waits = s.waits := rfl
@[simp] theorem State.post_expired (s : State) (t : Nat) (i : Instr) (a : EvArg) : (s.post t i a).expired = s.expired := rfl
@[simp] theorem State.post_blobs (s : State) (t : Nat) (i : Instr) (a : EvArg) : (s.post t i a).blobs = s.blobs := rfl
@[simp] theorem State.post_nextKey (s : State) (t : Nat) (i : Instr) (a : EvArg) : (s.post t i a).nextKey = s.nextKey := rfl

/-! ## State.send -/

@[simp] theorem State.send_now (s : State) (m : HostMsg) : (s.send m).now = s.now := by
  unfold State.send; split <;> rfl
@[simp] theorem State.send_free (s : State) (m : HostMsg) : (s.send m).free = s.free := by
  unfold State.send; split <;> rfl
@[simp] theorem State.send_sched (s : State) (m : HostMsg) : (s.send m).sched = s.sched := by
  unfold State.send; split <;> rfl
@[simp] theorem State.send_inputs (s : State) (m : HostMsg) : (s.send m).inputs = s.inputs := by
  unfold State.send; split <;> rfl
@[simp] theorem State.send_agenda (s : State) (m : HostMsg) : (s.send m).agenda = s.agenda := by
  unfold State.send; split <;> rfl
@[simp] theorem State.send_arg (s : State) (m : HostMsg) : (s.send m).arg = s.arg := by
  unfold State.send; split <;> rfl
@[simp] theorem State.send_out (s : State) (m : HostMsg) : (s.send m).out = if s.paused m then s.out else s.out ++ [m] := by
  unfold State.send; split <;> rfl
@[simp] theorem State.send_cur (s : State) (m : HostMsg) : (s.send m).cur = s.cur := by
  unfold State.send; split <;> rfl
@[simp] theorem State.send_plat (s : State) (m : HostMsg) : (s.send m).plat = s.plat := by
  unfold State.send; split <;> rfl
@[simp] theorem State.send_fab (s : State) (m : HostMsg) : (s.send m).fab = s.fab := by
  unfold State.send; split <;> rfl
@[simp] theorem State.send_host (s : State) (m : HostMsg) : (s.send m).host = if s.paused m then { s.host with held := s.host.held ++ [m] } else s.host := by
  unfold State.send; split <;> rfl
@[simp] theorem State.send_sec (s : State) (m : HostMsg) : (s.send m).sec = s.sec := by
  unfold State.send; split <;> rfl
@[simp] theorem State.send_preDrain (s : State) (m : HostMsg) : (s.send m).preDrain = s.preDrain := by
  unfold State.send; split <;> rfl
@[simp] theorem State.send_dram (s : State) (m : HostMsg) : (s.send m).dram = s.dram := by
  unfold State.send; split <;> rfl
@[simp] theorem State.send_full (s : State) (m : HostMsg) : (s.send m).full = s.full := by
  unfold State.send; split <;> rfl
@[simp] theorem State.send_poison (s : State) (m : HostMsg) : (s.send m).poison = s.poison := by
  unfold State.send; split <;> rfl
@[simp] theorem State.send_sram (s : State) (m : HostMsg) : (s.send m).sram = s.sram := by
  unfold State.send; split <;> rfl
@[simp] theorem State.send_sramPoison (s : State) (m : HostMsg) : (s.send m).sramPoison = s.sramPoison := by
  unfold State.send; split <;> rfl
@[simp] theorem State.send_atlb (s : State) (m : HostMsg) : (s.send m).atlb = s.atlb := by
  unfold State.send; split <;> rfl
@[simp] theorem State.send_benches (s : State) (m : HostMsg) : (s.send m).benches = s.benches := by
  unfold State.send; split <;> rfl
@[simp] theorem State.send_cells (s : State) (m : HostMsg) : (s.send m).cells = s.cells := by
  unfold State.send; split <;> rfl
@[simp] theorem State.send_dies (s : State) (m : HostMsg) : (s.send m).dies = s.dies := by
  unfold State.send; split <;> rfl
@[simp] theorem State.send_recs (s : State) (m : HostMsg) : (s.send m).recs = s.recs := by
  unfold State.send; split <;> rfl
@[simp] theorem State.send_chans (s : State) (m : HostMsg) : (s.send m).chans = s.chans := by
  unfold State.send; split <;> rfl
@[simp] theorem State.send_vds (s : State) (m : HostMsg) : (s.send m).vds = s.vds := by
  unfold State.send; split <;> rfl
@[simp] theorem State.send_vdRegs (s : State) (m : HostMsg) : (s.send m).vdRegs = s.vdRegs := by
  unfold State.send; split <;> rfl
@[simp] theorem State.send_queues (s : State) (m : HostMsg) : (s.send m).queues = s.queues := by
  unfold State.send; split <;> rfl
@[simp] theorem State.send_qgens (s : State) (m : HostMsg) : (s.send m).qgens = s.qgens := by
  unfold State.send; split <;> rfl
@[simp] theorem State.send_tasks (s : State) (m : HostMsg) : (s.send m).tasks = s.tasks := by
  unfold State.send; split <;> rfl
@[simp] theorem State.send_groups (s : State) (m : HostMsg) : (s.send m).groups = s.groups := by
  unfold State.send; split <;> rfl
@[simp] theorem State.send_courses (s : State) (m : HostMsg) : (s.send m).courses = s.courses := by
  unfold State.send; split <;> rfl
@[simp] theorem State.send_copies (s : State) (m : HostMsg) : (s.send m).copies = s.copies := by
  unfold State.send; split <;> rfl
@[simp] theorem State.send_waits (s : State) (m : HostMsg) : (s.send m).waits = s.waits := by
  unfold State.send; split <;> rfl
@[simp] theorem State.send_expired (s : State) (m : HostMsg) : (s.send m).expired = s.expired := by
  unfold State.send; split <;> rfl
@[simp] theorem State.send_blobs (s : State) (m : HostMsg) : (s.send m).blobs = s.blobs := by
  unfold State.send; split <;> rfl
@[simp] theorem State.send_nextKey (s : State) (m : HostMsg) : (s.send m).nextKey = s.nextKey := by
  unfold State.send; split <;> rfl

/-! ## Readers after an update of their own table -/

@[simp] theorem State.course_setCourse (s : State) (k : Nat) (x : Course) (n : Nat) : (s.setCourse k x).course n = if k = n then x else s.course n := by
  simp only [State.course, State.setCourse, tgetD, tget_tset]; split <;> rfl
@[simp] theorem State.group_setGroup (s : State) (k : Nat) (x : Group) (n : Nat) : (s.setGroup k x).group n = if k = n then x else s.group n := by
  simp only [State.group, State.setGroup, tgetD, tget_tset]; split <;> rfl
@[simp] theorem State.task_setTask (s : State) (k : Nat) (x : Task) (n : Nat) : (s.setTask k x).task n = if k = n then x else s.task n := by
  simp only [State.task, State.setTask, tgetD, tget_tset]; split <;> rfl
@[simp] theorem State.vd_setVd (s : State) (k : Nat) (x : VDev) (n : Nat) : (s.setVd k x).vd n = if k = n then x else s.vd n := by
  simp only [State.vd, State.setVd, tgetD, tget_tset]; split <;> rfl
@[simp] theorem State.bench_setBench (s : State) (k : Nat) (x : Bench) (n : Nat) : (s.setBench k x).bench n = if k = n then x else s.bench n := by
  simp only [State.bench, State.setBench, tgetD, tget_tset]; split <;> rfl
@[simp] theorem State.die_setDie (s : State) (k : Nat) (x : Die) (n : Nat) : (s.setDie k x).die n = if k = n then x else s.die n := by
  simp only [State.die, State.setDie, tgetD, tget_tset]; split <;> rfl
@[simp] theorem State.cell_setCell (s : State) (k : Nat) (x : Cell) (n : Nat) : (s.setCell k x).cell n = if k = n then x else s.cell n := by
  simp only [State.cell, State.setCell, tgetD, tget_tset]; split <;> rfl
@[simp] theorem State.record_setRecord (s : State) (k : Nat) (x : PRec) (n : Nat) : (s.setRecord k x).record n = if k = n then x else s.record n := by
  simp only [State.record, State.setRecord, tgetD, tget_tset]; split <;> rfl
@[simp] theorem State.queue_setQueue (s : State) (k : Nat) (x : Queue) (n : Nat) : (s.setQueue k x).queue n = if k = n then x else s.queue n := by
  simp only [State.queue, State.setQueue, tgetD, tget_tset]; split <;> rfl

end Sys2Proof.Machine
end

