-- ==== Sys2Proof/Laws/Issue.lean ====
section
/-! SUPPORT. What the issue of an instruction does: the context in which it issues, and what it leaves unchanged. -/
namespace Sys2Proof.Machine

/-- The issuing context of an instruction is built from the state. -/
theorem issuer_ctx {s : State} {i : Instr} {k : Ctx} (h : s.issuer i = some k) :
    s.cur = some (k.cid, k.w) ∧ tget s.courses k.cid = some k.c ∧ tget k.c.splits k.w = some k.sp
      ∧ k = s.ctx i k.cid k.w k.c k.sp := by
  unfold State.issuer at h
  split at h
  · cases h
  split at h
  · cases h
  split at h
  · cases h
  dsimp only at h
  split at h
  · cases h
    refine ⟨?_, ?_, ?_, rfl⟩ <;> assumption
  · cases h

/-- None of the checks before an instruction's own finds anything in its issuing context. -/
theorem issuer_checks {s : State} {i : Instr} {k : Ctx} (h : s.issuer i = some k) :
    (s.spend k.g.task k.g.bench).isSome = true ∧ isUdf i = false ∧ (k.lw && tileMajor i) = false ∧ reserved i = false
      ∧ k.sched.bad = false ∧ (k.c.prof && profileOperand i) = false ∧ (isWide i && decide (k.k0 ≠ k.c.live)) = false := by
  unfold State.issuer at h
  split at h
  · cases h
  split at h
  · cases h
  split at h
  · cases h
  dsimp only at h
  split at h
  · rename_i hk
    cases h
    simp only [Bool.and_eq_true, Bool.not_eq_true'] at hk
    obtain ⟨⟨⟨⟨⟨⟨h1, h2⟩, h3⟩, h4⟩, h5⟩, h6⟩, h7⟩ := hk
    exact ⟨h1, h2, h3, h4, h5, h6, h7⟩
  · cases h

/-- In its issuing context an instruction does what its meaning says there. -/
theorem withIssue_issuer {s : State} {i : Instr} {k : Ctx} {f : Ctx → Out} (h : s.issuer i = some k) : withIssue i s f = f k := by
  obtain ⟨h1, h2, h3, h4⟩ := issuer_ctx h
  obtain ⟨c1, c2, c3, c4, c5, c6, c7⟩ := issuer_checks h
  unfold withIssue
  rw [h1]; dsimp only
  rw [h2]; dsimp only
  rw [h3]; dsimp only
  rw [← h4]
  rw [if_neg (by simp only [Option.isNone_iff_eq_none]; intro e; rw [e] at c1; cases c1), if_neg (by simp only [c2, c3, Bool.or_false]; exact Bool.false_ne_true),
    if_neg (by simp only [c4, c5, Bool.or_false]; exact Bool.false_ne_true), if_neg (by simp only [c6]; exact Bool.false_ne_true),
    if_neg (by simp only [c7]; exact Bool.false_ne_true)]

/-- A register instruction issues its writes. -/
theorem regInstr_issuer {s : State} {i : Instr} {k : Ctx} {f : Ctx → List RegWrite} (h : s.issuer i = some k) :
    regInstr i s f = .next (k.issue (f k)) := withIssue_issuer h

/-- The fields of the issuing context. -/
theorem issuer_state {s : State} {i : Instr} {k : Ctx} (h : s.issuer i = some k) : k.s = s := by
  rw [(issuer_ctx h).2.2.2]; rfl
theorem issuer_instr {s : State} {i : Instr} {k : Ctx} (h : s.issuer i = some k) : k.i = i := by
  rw [(issuer_ctx h).2.2.2]; rfl
theorem issuer_fields {s : State} {i : Instr} {k : Ctx} (h : s.issuer i = some k) : k.x = (xFieldsOf i).getD {} := by
  rw [(issuer_ctx h).2.2.2]; rfl

theorem issuer_course {s : State} {i : Instr} {k : Ctx} (h : s.issuer i = some k) : s.course k.cid = k.c :=
  tgetD_of_tget _ (issuer_ctx h).2.1
theorem issuer_group {s : State} {i : Instr} {k : Ctx} (h : s.issuer i = some k) : s.group k.c.group = k.g := by
  have := (issuer_ctx h).2.2.2
  generalize k.cid = a, k.w = b, k.c = c, k.sp = d at *
  rw [this]; rfl

/-- Drawing an issue slot changes the budget and the chunks of its task, and may make their exhaustion due. -/
theorem spend_next {s u : State} {t b : Nat} (h : s.spend t b = some u) :
    ∃ ts ag, u = { s with tasks := ts, agenda := s.agenda ++ ag } ∧ (ts = s.tasks ∨ ∃ x y, ts = tset s.tasks t { s.task t with budget := x, chunks := y }) := by
  unfold State.spend at h
  dsimp only at h
  split at h
  · cases h
    exact ⟨s.tasks, [], by simp, .inl rfl⟩
  · split at h
    · have h := (Option.some.inj h).symm
      split at h
      · unfold State.postOnce at h
        split at h
        · exact ⟨_, [], by rw [h, List.append_nil]; rfl, .inr ⟨_, _, rfl⟩⟩
        · exact ⟨_, _, h, .inr ⟨_, _, rfl⟩⟩
      · exact ⟨_, [], by rw [h, List.append_nil]; rfl, .inr ⟨_, _, rfl⟩⟩
    · split at h
      · cases h
      · have h := (Option.some.inj h).symm
        exact ⟨_, [], by rw [h, List.append_nil]; rfl, .inr ⟨_, _, rfl⟩⟩

theorem pends_ite {α : Type} (b : Bool) (l : List α) (p : α) : (if b = true then l ++ [p] else l) = l ++ (if b = true then [p] else []) := by cases b <;> simp
/-- What the issue of an instruction changes: the budget of its task, what is due, the course's split, and one pending instruction
(05 R155, 08 R228 to R234). -/
theorem issueAt_next {k : Ctx} (pc : Word) (ws : List RegWrite) (act : Action) (own : Bool) (mask : LaneMask) (xbar : Bool)
    (late : Option LateFault) (h : k.sp.redo = none) (hg : (k.s.group k.c.group) = k.g) (hc : k.s.course k.cid = k.c) :
    ∃ ts ag ps, (k.issueAt pc ws act own mask xbar late).1 = { k.s with
        tasks := ts, agenda := k.s.agenda ++ ag, nextKey := k.s.nextKey + 1
        courses := tset k.s.courses k.cid { k.c with
          splits := tset k.c.splits k.w { k.sp with pc, last := k.s.now, tried := k.s.now, yield := 0, excess := k.overNext k.c }
          pends := k.c.pends ++ ps, loop := k.c.loop - 1 } }
      ∧ (ts = k.s.tasks ∨ ∃ x y, ts = tset k.s.tasks k.g.task { k.s.task k.g.task with budget := x, chunks := y })
      ∧ ps.length ≤ 1 ∧ (ws ≠ [] ∨ act ≠ .none → ps ≠ [])
      ∧ ∀ p ∈ ps, p.id = k.s.nextKey ∧ p.pc = k.pc ∧ p.split = k.w ∧ p.flag = k.sched.flag ∧ p.writes = ws ∧ p.act = act
          ∧ p.late.map (·.cause) = late.map (·.cause) := by
  obtain ⟨ts, ag, hs, ht⟩ : ∃ ts ag, ((k.s.spend (k.c.group |> k.s.group).task k.g.bench).getD k.s) = { k.s with tasks := ts, agenda := k.s.agenda ++ ag }
      ∧ (ts = k.s.tasks ∨ ∃ x y, ts = tset k.s.tasks k.g.task { k.s.task k.g.task with budget := x, chunks := y }) := by
    rw [hg]
    cases hu : k.s.spend k.g.task k.g.bench with
    | none => exact ⟨k.s.tasks, [], by simp, .inl rfl⟩
    | some u => exact spend_next hu
  unfold Ctx.issueAt
  rw [hs]
  have hc' : ({ k.s with tasks := ts, agenda := k.s.agenda ++ ag } : State).course k.cid = k.c := hc
  simp only [h, hc', pends_ite]
  cases hl : latClass k.i <;> cases late <;> cases own <;> simp only [Option.isSome, Bool.false_eq_true, if_false, if_true, Option.map]
  all_goals (first
    | refine ⟨ts, ag, _, rfl, ht, ?_, ?_, ?_⟩
    | refine ⟨ts, ag ++ [_], _, by simp only [← List.append_assoc]; rfl, ht, ?_, ?_, ?_⟩)
  all_goals (first
    | (split <;> simp; done)
    | (intro _; simp; done)
    | (intro hw; simp; rcases hw with hw | hw <;> simp [hw])
    )

/-- The issue of an instruction with fixed effects, in its issuing context. -/
theorem issue_next {s : State} {i : Instr} {k : Ctx} (hi : s.issuer i = some k) (h : k.sp.redo = none) (ws : List RegWrite) :
    ∃ ts ag ps, k.issue ws = { s with
        tasks := ts, agenda := s.agenda ++ ag, nextKey := s.nextKey + 1
        courses := tset s.courses k.cid { k.c with
          splits := tset k.c.splits k.w { k.sp with pc := k.next, last := s.now, tried := s.now, yield := 0, excess := k.overNext k.c }
          pends := k.c.pends ++ ps, loop := k.c.loop - 1 } }
      ∧ (ts = s.tasks ∨ ∃ x y, ts = tset s.tasks k.g.task { s.task k.g.task with budget := x, chunks := y })
      ∧ ps.length ≤ 1 ∧ (ws ≠ [] → ps ≠ [])
      ∧ ∀ p ∈ ps, p.pc = k.pc ∧ p.split = k.w ∧ p.flag = k.sched.flag ∧ p.writes = ws ∧ p.act = .none ∧ p.late = none := by
  have hs := issuer_state hi
  obtain ⟨ts, ag, ps, h1, h2, h3, h4, h5⟩ := issueAt_next k.next ws .none false 0 false none h
    (by rw [hs]; exact issuer_group hi) (by rw [hs]; exact issuer_course hi)
  rw [hs] at h1 h2
  exact ⟨ts, ag, ps, h1, h2, h3, fun h => h4 (.inl h), fun p hp => by
    have := h5 p hp
    refine ⟨this.2.1, this.2.2.1, this.2.2.2.1, this.2.2.2.2.1, this.2.2.2.2.2.1, ?_⟩
    have h6 := this.2.2.2.2.2.2
    cases hl : p.late <;> simp_all⟩

end Sys2Proof.Machine
end

