-- ==== Sys2Proof/Laws/PerInstr.lean ====
section
/-! SUPPORT. Laws about instructions as terms, one lemma for each constructor. -/
namespace Sys2Proof.Laws.TableRow

/-- The instruction that the decoder's tables give at an opcode for the fields of an instruction (14 R405 to R413). -/
def ofRow (i : Instr) (op : Opcode) : Option Instr :=
  match xFieldsOf i, literalOf i, scalarFieldsOf i, vecFieldsOf i, branchFieldsOf i with
  | some x, none, _, _, _ => (xRow op.maj.toNat op.min.toNat).map (fun f => f x)
  | some x, some l, _, _, _ => (xlRow op.maj.toNat op.min.toNat).map (fun f => f x l)
  | none, none, some x, _, _ => (scalarRow op.maj.toNat).map (fun f => f x)
  | none, some l, some x, _, _ => (slRow op.maj.toNat).map (fun f => f x l)
  | none, _, none, some x, _ => (vecRow op.maj.toNat (op.min.toNat % 16)).map (fun f => f x)
  | none, _, none, none, some x => (branchRow op.maj.toNat).map (fun f => f x)
  | none, _, none, none, none => some i

/-- At its own opcode the tables give the instruction back; an event of the module has no opcode. -/
def Statement (i : Instr) : Prop := ∀ op, opcodeOf i = some op → ofRow i op = some i

theorem powerGood : Statement .powerGood := fun _ h => nomatch h
theorem functionReady : Statement .functionReady := fun _ h => nomatch h
theorem readyTimeout : Statement .readyTimeout := fun _ h => nomatch h
theorem functionFail : Statement .functionFail := fun _ h => nomatch h
theorem pwrReqP0 : Statement .pwrReqP0 := fun _ h => nomatch h
theorem pwrReqP1 : Statement .pwrReqP1 := fun _ h => nomatch h
theorem pwrReqRetention : Statement .pwrReqRetention := fun _ h => nomatch h
theorem pwrReqOff : Statement .pwrReqOff := fun _ h => nomatch h
theorem powerTransitionDone : Statement .powerTransitionDone := fun _ h => nomatch h
theorem retentionEntryDone : Statement .retentionEntryDone := fun _ h => nomatch h
theorem retentionExitDone : Statement .retentionExitDone := fun _ h => nomatch h
theorem thermalForce : Statement .thermalForce := fun _ h => nomatch h
theorem thermalForceEnd : Statement .thermalForceEnd := fun _ h => nomatch h
theorem powerCapForce : Statement .powerCapForce := fun _ h => nomatch h
theorem powerCapEnd : Statement .powerCapEnd := fun _ h => nomatch h
theorem tripOff : Statement .tripOff := fun _ h => nomatch h
theorem meshLinkFail : Statement .meshLinkFail := fun _ h => nomatch h
theorem frameDiscardEthertype : Statement .frameDiscardEthertype := fun _ h => nomatch h
theorem roceSend : Statement .roceSend := fun _ h => nomatch h
theorem roceSendImm : Statement .roceSendImm := fun _ h => nomatch h
theorem roceRdmaWrite : Statement .roceRdmaWrite := fun _ h => nomatch h
theorem roceRdmaWriteImm : Statement .roceRdmaWriteImm := fun _ h => nomatch h
theorem roceRdmaRead : Statement .roceRdmaRead := fun _ h => nomatch h
theorem roceAtomicVerb : Statement .roceAtomicVerb := fun _ h => nomatch h
theorem pfcPauseRx : Statement .pfcPauseRx := fun _ h => nomatch h
theorem mregRead : Statement .mregRead := fun _ h => nomatch h
theorem mregWrite : Statement .mregWrite := fun _ h => nomatch h
theorem registerWrite : Statement .registerWrite := fun _ h => nomatch h
theorem glStatRead : Statement .glStatRead := fun _ h => nomatch h
theorem hpStatRead : Statement .hpStatRead := fun _ h => nomatch h
theorem cellMapVariantWrite : Statement .cellMapVariantWrite := fun _ h => nomatch h
theorem cellRetire : Statement .cellRetire := fun _ h => nomatch h
theorem vdCkptStop : Statement .vdCkptStop := fun _ h => nomatch h
theorem vdCkptResume : Statement .vdCkptResume := fun _ h => nomatch h
theorem vdCkptRestore : Statement .vdCkptRestore := fun _ h => nomatch h
theorem cmdqpOpen : Statement .cmdqpOpen := fun _ h => nomatch h
theorem warmReset : Statement .warmReset := fun _ h => nomatch h
theorem sessionAuth : Statement .sessionAuth := fun _ h => nomatch h
theorem securedMessage : Statement .securedMessage := fun _ h => nomatch h
theorem secProvision : Statement .secProvision := fun _ h => nomatch h
theorem secLock : Statement .secLock := fun _ h => nomatch h
theorem secUnlock : Statement .secUnlock := fun _ h => nomatch h
theorem secSetdbg : Statement .secSetdbg := fun _ h => nomatch h
theorem fwUpdate : Statement .fwUpdate := fun _ h => nomatch h
theorem fwData : Statement .fwData := fun _ h => nomatch h
theorem fwEnd : Statement .fwEnd := fun _ h => nomatch h
theorem fwVerifyDone : Statement .fwVerifyDone := fun _ h => nomatch h
theorem dbgOpen : Statement .dbgOpen := fun _ h => nomatch h
theorem dbgClose : Statement .dbgClose := fun _ h => nomatch h
theorem spdmGetVersion : Statement .spdmGetVersion := fun _ h => nomatch h
theorem spdmGetCapabilities : Statement .spdmGetCapabilities := fun _ h => nomatch h
theorem spdmNegotiateAlgorithms : Statement .spdmNegotiateAlgorithms := fun _ h => nomatch h
theorem spdmGetDigests : Statement .spdmGetDigests := fun _ h => nomatch h
theorem spdmGetCertificate : Statement .spdmGetCertificate := fun _ h => nomatch h
theorem spdmChallenge : Statement .spdmChallenge := fun _ h => nomatch h
theorem spdmGetMeasurements : Statement .spdmGetMeasurements := fun _ h => nomatch h
theorem spdmKeyExchange : Statement .spdmKeyExchange := fun _ h => nomatch h
theorem spdmFinish : Statement .spdmFinish := fun _ h => nomatch h
theorem spdmEndSession : Statement .spdmEndSession := fun _ h => nomatch h
theorem spdmHeartbeat : Statement .spdmHeartbeat := fun _ h => nomatch h
theorem vdCreate : Statement .vdCreate := fun _ h => nomatch h
theorem vdDestroy : Statement .vdDestroy := fun _ h => nomatch h
theorem vdQuery : Statement .vdQuery := fun _ h => nomatch h
theorem migStart : Statement .migStart := fun _ h => nomatch h
theorem migDirty : Statement .migDirty := fun _ h => nomatch h
theorem migStop : Statement .migStop := fun _ h => nomatch h
theorem migStopComplete : Statement .migStopComplete := fun _ h => nomatch h
theorem migResume : Statement .migResume := fun _ h => nomatch h
theorem migAbort : Statement .migAbort := fun _ h => nomatch h
theorem regRead : Statement .regRead := fun _ h => nomatch h
theorem qpCreate : Statement .qpCreate := fun _ h => nomatch h
theorem qpDestroy : Statement .qpDestroy := fun _ h => nomatch h
theorem map : Statement .map := fun _ h => nomatch h
theorem unmap : Statement .unmap := fun _ h => nomatch h
theorem unmapComplete : Statement .unmapComplete := fun _ h => nomatch h
theorem mrReg : Statement .mrReg := fun _ h => nomatch h
theorem mrDereg : Statement .mrDereg := fun _ h => nomatch h
theorem queueCreate : Statement .queueCreate := fun _ h => nomatch h
theorem queueDestroy : Statement .queueDestroy := fun _ h => nomatch h
theorem queueDestroyComplete : Statement .queueDestroyComplete := fun _ h => nomatch h
theorem queueQuery : Statement .queueQuery := fun _ h => nomatch h
theorem queueReset : Statement .queueReset := fun _ h => nomatch h
theorem featQuery : Statement .featQuery := fun _ h => nomatch h
theorem glFlitRx : Statement .glFlitRx := fun _ h => nomatch h
theorem glNakRx : Statement .glNakRx := fun _ h => nomatch h
theorem glAckTimer : Statement .glAckTimer := fun _ h => nomatch h
theorem glRetrain : Statement .glRetrain := fun _ h => nomatch h
theorem glRetrainDone : Statement .glRetrainDone := fun _ h => nomatch h
theorem glRequestArrive : Statement .glRequestArrive := fun _ h => nomatch h
theorem glResponseArrive : Statement .glResponseArrive := fun _ h => nomatch h
theorem fabricTimeout : Statement .fabricTimeout := fun _ h => nomatch h
theorem faultEnqResend : Statement .faultEnqResend := fun _ h => nomatch h
theorem faultNoticeRx : Statement .faultNoticeRx := fun _ h => nomatch h
theorem faultNoticeResend : Statement .faultNoticeResend := fun _ h => nomatch h
theorem ringRecordCopy : Statement .ringRecordCopy := fun _ h => nomatch h
theorem waitTagNotice : Statement .waitTagNotice := fun _ h => nomatch h
theorem dispatchSelect : Statement .dispatchSelect := fun _ h => nomatch h
theorem drainLimit : Statement .drainLimit := fun _ h => nomatch h
theorem groupSaveComplete : Statement .groupSaveComplete := fun _ h => nomatch h
theorem migrationRequestPost : Statement .migrationRequestPost := fun _ h => nomatch h
theorem taskLate : Statement .taskLate := fun _ h => nomatch h
theorem parkedDeadlineKill : Statement .parkedDeadlineKill := fun _ h => nomatch h
theorem budgetExhausted : Statement .budgetExhausted := fun _ h => nomatch h
theorem taskComplete : Statement .taskComplete := fun _ h => nomatch h
theorem lateFault : Statement .lateFault := fun _ h => nomatch h
theorem faultTaskDeferredWrite : Statement .faultTaskDeferredWrite := fun _ h => nomatch h
theorem recordFreeGrant : Statement .recordFreeGrant := fun _ h => nomatch h
theorem uncorrectableConsumed : Statement .uncorrectableConsumed := fun _ h => nomatch h
theorem shadowCopyDone : Statement .shadowCopyDone := fun _ h => nomatch h
theorem strikeReport : Statement .strikeReport := fun _ h => nomatch h
theorem rejoinDeadlockDetect : Statement .rejoinDeadlockDetect := fun _ h => nomatch h
theorem courseExchange : Statement .courseExchange := fun _ h => nomatch h
theorem instructionComplete : Statement .instructionComplete := fun _ h => nomatch h
theorem courseRetire : Statement .courseRetire := fun _ h => nomatch h
theorem trackerEntryFree : Statement .trackerEntryFree := fun _ h => nomatch h
theorem migrationComplete : Statement .migrationComplete := fun _ h => nomatch h
theorem atlbFillDone : Statement .atlbFillDone := fun _ h => nomatch h
theorem pageWalkDone : Statement .pageWalkDone := fun _ h => nomatch h
theorem bufferedSectorEvict : Statement .bufferedSectorEvict := fun _ h => nomatch h
theorem fullEmptyWake : Statement .fullEmptyWake := fun _ h => nomatch h
theorem waitaRecheck : Statement .waitaRecheck := fun _ h => nomatch h
theorem waitaTimeout : Statement .waitaTimeout := fun _ h => nomatch h
theorem nodeEvaluate : Statement .nodeEvaluate := fun _ h => nomatch h
theorem bowGrant : Statement .bowGrant := fun _ h => nomatch h
theorem copymFollowOn : Statement .copymFollowOn := fun _ h => nomatch h
theorem copySegmentComplete : Statement .copySegmentComplete := fun _ h => nomatch h
theorem multicastFillLand : Statement .multicastFillLand := fun _ h => nomatch h
theorem nopS (sch : BitVec 4) (z : BitVec 20) : Statement (.nopS sch z) := by
  intro op h; cases h; rfl
theorem nopX (x : XFields) : Statement (.nopX x) := by
  intro op h; cases h; rfl
theorem saddS (x : SScalar) : Statement (.saddS x) := by
  intro op h; cases h; rfl
theorem saddSl (x : SScalar) (lit : Word) : Statement (.saddSl x lit) := by
  intro op h; cases h; rfl
theorem saddX (x : XFields) : Statement (.saddX x) := by
  intro op h; cases h; rfl
theorem ssub (x : XFields) : Statement (.ssub x) := by
  intro op h; cases h; rfl
theorem smul (x : XFields) : Statement (.smul x) := by
  intro op h; cases h; rfl
theorem smulh (x : XFields) : Statement (.smulh x) := by
  intro op h; cases h; rfl
theorem sand (x : XFields) : Statement (.sand x) := by
  intro op h; cases h; rfl
theorem sor (x : XFields) : Statement (.sor x) := by
  intro op h; cases h; rfl
theorem sxor (x : XFields) : Statement (.sxor x) := by
  intro op h; cases h; rfl
theorem sshlS (x : SScalar) : Statement (.sshlS x) := by
  intro op h; cases h; rfl
theorem sshlX (x : XFields) : Statement (.sshlX x) := by
  intro op h; cases h; rfl
theorem sshrS (x : SScalar) : Statement (.sshrS x) := by
  intro op h; cases h; rfl
theorem sshrX (x : XFields) : Statement (.sshrX x) := by
  intro op h; cases h; rfl
theorem ssar (x : XFields) : Statement (.ssar x) := by
  intro op h; cases h; rfl
theorem sclz (x : XFields) : Statement (.sclz x) := by
  intro op h; cases h; rfl
theorem spopc (x : XFields) : Statement (.spopc x) := by
  intro op h; cases h; rfl
theorem smin (x : XFields) : Statement (.smin x) := by
  intro op h; cases h; rfl
theorem smax (x : XFields) : Statement (.smax x) := by
  intro op h; cases h; rfl
theorem scmp (x : XFields) : Statement (.scmp x) := by
  intro op h; cases h; rfl
theorem ssel (x : XFields) : Statement (.ssel x) := by
  intro op h; cases h; rfl
theorem smovS (x : SScalar) : Statement (.smovS x) := by
  intro op h; cases h; rfl
theorem smovX (x : XFields) : Statement (.smovX x) := by
  intro op h; cases h; rfl
theorem smovlSl (x : SScalar) (lit : Word) : Statement (.smovlSl x lit) := by
  intro op h; cases h; rfl
theorem smovlXl (x : XFields) (lit : Word) : Statement (.smovlXl x lit) := by
  intro op h; cases h; rfl
theorem sgetS (x : SScalar) : Statement (.sgetS x) := by
  intro op h; cases h; rfl
theorem sgetX (x : XFields) : Statement (.sgetX x) := by
  intro op h; cases h; rfl
theorem sset (x : XFields) : Statement (.sset x) := by
  intro op h; cases h; rfl
theorem trapX (x : XFields) : Statement (.trapX x) := by
  intro op h; cases h; rfl
theorem trapXl (x : XFields) (lit : Word) : Statement (.trapXl x lit) := by
  intro op h; cases h; rfl
theorem brk (x : XFields) : Statement (.brk x) := by
  intro op h; cases h; rfl
theorem yield (x : XFields) : Statement (.yield x) := by
  intro op h; cases h; rfl
theorem prio (x : XFields) : Statement (.prio x) := by
  intro op h; cases h; rfl
theorem kand (x : XFields) : Statement (.kand x) := by
  intro op h; cases h; rfl
theorem kor (x : XFields) : Statement (.kor x) := by
  intro op h; cases h; rfl
theorem kxor (x : XFields) : Statement (.kxor x) := by
  intro op h; cases h; rfl
theorem knot (x : XFields) : Statement (.knot x) := by
  intro op h; cases h; rfl
theorem kmov (x : XFields) : Statement (.kmov x) := by
  intro op h; cases h; rfl
theorem kfroms (x : XFields) : Statement (.kfroms x) := by
  intro op h; cases h; rfl
theorem ktos (x : XFields) : Statement (.ktos x) := by
  intro op h; cases h; rfl
theorem kpopc (x : XFields) : Statement (.kpopc x) := by
  intro op h; cases h; rfl
theorem kfirst (x : XFields) : Statement (.kfirst x) := by
  intro op h; cases h; rfl
theorem waitf (x : XFields) : Statement (.waitf x) := by
  intro op h; cases h; rfl
theorem delay (x : XFields) : Statement (.delay x) := by
  intro op h; cases h; rfl
theorem braS (x : SBranch) : Statement (.braS x) := by
  intro op h; cases h; rfl
theorem braXl (x : XFields) (lit : Word) : Statement (.braXl x lit) := by
  intro op h; cases h; rfl
theorem brcS (x : SBranch) : Statement (.brcS x) := by
  intro op h; cases h; rfl
theorem brcXl (x : XFields) (lit : Word) : Statement (.brcXl x lit) := by
  intro op h; cases h; rfl
theorem brvS (x : SBranch) : Statement (.brvS x) := by
  intro op h; cases h; rfl
theorem brvXl (x : XFields) (lit : Word) : Statement (.brvXl x lit) := by
  intro op h; cases h; rfl
theorem callS (x : SBranch) : Statement (.callS x) := by
  intro op h; cases h; rfl
theorem callXl (x : XFields) (lit : Word) : Statement (.callXl x lit) := by
  intro op h; cases h; rfl
theorem jmpi (x : XFields) : Statement (.jmpi x) := by
  intro op h; cases h; rfl
theorem ret (x : XFields) : Statement (.ret x) := by
  intro op h; cases h; rfl
theorem rejoin (x : XFields) : Statement (.rejoin x) := by
  intro op h; cases h; rfl
theorem exit (x : XFields) : Statement (.exit x) := by
  intro op h; cases h; rfl
theorem tail (x : XFields) : Statement (.tail x) := by
  intro op h; cases h; rfl
theorem migr (x : XFields) : Statement (.migr x) := by
  intro op h; cases h; rfl
theorem vaddS (x : SVec) : Statement (.vaddS x) := by
  intro op h; cases h; rfl
theorem vaddX (x : XFields) : Statement (.vaddX x) := by
  intro op h; cases h; rfl
theorem vsubS (x : SVec) : Statement (.vsubS x) := by
  intro op h; cases h; rfl
theorem vsubX (x : XFields) : Statement (.vsubX x) := by
  intro op h; cases h; rfl
theorem vandS (x : SVec) : Statement (.vandS x) := by
  intro op h; cases h; rfl
theorem vandX (x : XFields) : Statement (.vandX x) := by
  intro op h; cases h; rfl
theorem vorS (x : SVec) : Statement (.vorS x) := by
  intro op h; cases h; rfl
theorem vorX (x : XFields) : Statement (.vorX x) := by
  intro op h; cases h; rfl
theorem vxorS (x : SVec) : Statement (.vxorS x) := by
  intro op h; cases h; rfl
theorem vxorX (x : XFields) : Statement (.vxorX x) := by
  intro op h; cases h; rfl
theorem vnotS (x : SVec) : Statement (.vnotS x) := by
  intro op h; cases h; rfl
theorem vnotX (x : XFields) : Statement (.vnotX x) := by
  intro op h; cases h; rfl
theorem vmulS (x : SVec) : Statement (.vmulS x) := by
  intro op h; cases h; rfl
theorem vmulX (x : XFields) : Statement (.vmulX x) := by
  intro op h; cases h; rfl
theorem vmulhS (x : SVec) : Statement (.vmulhS x) := by
  intro op h; cases h; rfl
theorem vmulhX (x : XFields) : Statement (.vmulhX x) := by
  intro op h; cases h; rfl
theorem vmad (x : XFields) : Statement (.vmad x) := by
  intro op h; cases h; rfl
theorem vshlS (x : SVec) : Statement (.vshlS x) := by
  intro op h; cases h; rfl
theorem vshlX (x : XFields) : Statement (.vshlX x) := by
  intro op h; cases h; rfl
theorem vshrS (x : SVec) : Statement (.vshrS x) := by
  intro op h; cases h; rfl
theorem vshrX (x : XFields) : Statement (.vshrX x) := by
  intro op h; cases h; rfl
theorem vsarS (x : SVec) : Statement (.vsarS x) := by
  intro op h; cases h; rfl
theorem vsarX (x : XFields) : Statement (.vsarX x) := by
  intro op h; cases h; rfl
theorem vclzS (x : SVec) : Statement (.vclzS x) := by
  intro op h; cases h; rfl
theorem vclzX (x : XFields) : Statement (.vclzX x) := by
  intro op h; cases h; rfl
theorem vpopcS (x : SVec) : Statement (.vpopcS x) := by
  intro op h; cases h; rfl
theorem vpopcX (x : XFields) : Statement (.vpopcX x) := by
  intro op h; cases h; rfl
theorem vbrevS (x : SVec) : Statement (.vbrevS x) := by
  intro op h; cases h; rfl
theorem vbrevX (x : XFields) : Statement (.vbrevX x) := by
  intro op h; cases h; rfl
theorem vbfe (x : XFields) : Statement (.vbfe x) := by
  intro op h; cases h; rfl
theorem vbfi (x : XFields) : Statement (.vbfi x) := by
  intro op h; cases h; rfl
theorem vminS (x : SVec) : Statement (.vminS x) := by
  intro op h; cases h; rfl
theorem vminX (x : XFields) : Statement (.vminX x) := by
  intro op h; cases h; rfl
theorem vmaxS (x : SVec) : Statement (.vmaxS x) := by
  intro op h; cases h; rfl
theorem vmaxX (x : XFields) : Statement (.vmaxX x) := by
  intro op h; cases h; rfl
theorem vabsS (x : SVec) : Statement (.vabsS x) := by
  intro op h; cases h; rfl
theorem vabsX (x : XFields) : Statement (.vabsX x) := by
  intro op h; cases h; rfl
theorem vnegS (x : SVec) : Statement (.vnegS x) := by
  intro op h; cases h; rfl
theorem vnegX (x : XFields) : Statement (.vnegX x) := by
  intro op h; cases h; rfl
theorem vcmp (x : XFields) : Statement (.vcmp x) := by
  intro op h; cases h; rfl
theorem vsel (x : XFields) : Statement (.vsel x) := by
  intro op h; cases h; rfl
theorem vmovS (x : SVec) : Statement (.vmovS x) := by
  intro op h; cases h; rfl
theorem vmovX (x : XFields) : Statement (.vmovX x) := by
  intro op h; cases h; rfl
theorem vmovXl (x : XFields) (lit : Word) : Statement (.vmovXl x lit) := by
  intro op h; cases h; rfl
theorem vleaX (x : XFields) : Statement (.vleaX x) := by
  intro op h; cases h; rfl
theorem vleaXl (x : XFields) (lit : Word) : Statement (.vleaXl x lit) := by
  intro op h; cases h; rfl
theorem faddS (x : SVec) : Statement (.faddS x) := by
  intro op h; cases h; rfl
theorem faddX (x : XFields) : Statement (.faddX x) := by
  intro op h; cases h; rfl
theorem fsubS (x : SVec) : Statement (.fsubS x) := by
  intro op h; cases h; rfl
theorem fsubX (x : XFields) : Statement (.fsubX x) := by
  intro op h; cases h; rfl
theorem fmulS (x : SVec) : Statement (.fmulS x) := by
  intro op h; cases h; rfl
theorem fmulX (x : XFields) : Statement (.fmulX x) := by
  intro op h; cases h; rfl
theorem ffma (x : XFields) : Statement (.ffma x) := by
  intro op h; cases h; rfl
theorem fminS (x : SVec) : Statement (.fminS x) := by
  intro op h; cases h; rfl
theorem fminX (x : XFields) : Statement (.fminX x) := by
  intro op h; cases h; rfl
theorem fmaxS (x : SVec) : Statement (.fmaxS x) := by
  intro op h; cases h; rfl
theorem fmaxX (x : XFields) : Statement (.fmaxX x) := by
  intro op h; cases h; rfl
theorem fcmp (x : XFields) : Statement (.fcmp x) := by
  intro op h; cases h; rfl
theorem fclass (x : XFields) : Statement (.fclass x) := by
  intro op h; cases h; rfl
theorem frnd (x : XFields) : Statement (.frnd x) := by
  intro op h; cases h; rfl
theorem fdivS (x : SVec) : Statement (.fdivS x) := by
  intro op h; cases h; rfl
theorem fdivX (x : XFields) : Statement (.fdivX x) := by
  intro op h; cases h; rfl
theorem fsqrtS (x : SVec) : Statement (.fsqrtS x) := by
  intro op h; cases h; rfl
theorem fsqrtX (x : XFields) : Statement (.fsqrtX x) := by
  intro op h; cases h; rfl
theorem frcpS (x : SVec) : Statement (.frcpS x) := by
  intro op h; cases h; rfl
theorem frcpX (x : XFields) : Statement (.frcpX x) := by
  intro op h; cases h; rfl
theorem frsqS (x : SVec) : Statement (.frsqS x) := by
  intro op h; cases h; rfl
theorem frsqX (x : XFields) : Statement (.frsqX x) := by
  intro op h; cases h; rfl
theorem fexp2S (x : SVec) : Statement (.fexp2S x) := by
  intro op h; cases h; rfl
theorem fexp2X (x : XFields) : Statement (.fexp2X x) := by
  intro op h; cases h; rfl
theorem flog2S (x : SVec) : Statement (.flog2S x) := by
  intro op h; cases h; rfl
theorem flog2X (x : XFields) : Statement (.flog2X x) := by
  intro op h; cases h; rfl
theorem fsinpiS (x : SVec) : Statement (.fsinpiS x) := by
  intro op h; cases h; rfl
theorem fsinpiX (x : XFields) : Statement (.fsinpiX x) := by
  intro op h; cases h; rfl
theorem fcospiS (x : SVec) : Statement (.fcospiS x) := by
  intro op h; cases h; rfl
theorem fcospiX (x : XFields) : Statement (.fcospiX x) := by
  intro op h; cases h; rfl
theorem cvt (x : XFields) : Statement (.cvt x) := by
  intro op h; cases h; rfl
theorem vpack (x : XFields) : Statement (.vpack x) := by
  intro op h; cases h; rfl
theorem vunpk (x : XFields) : Statement (.vunpk x) := by
  intro op h; cases h; rfl
theorem vcbdec (x : XFields) : Statement (.vcbdec x) := by
  intro op h; cases h; rfl
theorem vcbenc (x : XFields) : Statement (.vcbenc x) := by
  intro op h; cases h; rfl
theorem vbscal (x : XFields) : Statement (.vbscal x) := by
  intro op h; cases h; rfl
theorem vshfl (x : XFields) : Statement (.vshfl x) := by
  intro op h; cases h; rfl
theorem vperm (x : XFields) : Statement (.vperm x) := by
  intro op h; cases h; rfl
theorem vbcast (x : XFields) : Statement (.vbcast x) := by
  intro op h; cases h; rfl
theorem vnbrLeft (x : XFields) : Statement (.vnbrLeft x) := by
  intro op h; cases h; rfl
theorem vnbrRight (x : XFields) : Statement (.vnbrRight x) := by
  intro op h; cases h; rfl
theorem vred (x : XFields) : Statement (.vred x) := by
  intro op h; cases h; rfl
theorem vscan (x : XFields) : Statement (.vscan x) := by
  intro op h; cases h; rfl
theorem vballot (x : XFields) : Statement (.vballot x) := by
  intro op h; cases h; rfl
theorem vldX (x : XFields) : Statement (.vldX x) := by
  intro op h; cases h; rfl
theorem vldXl (x : XFields) (lit : Word) : Statement (.vldXl x lit) := by
  intro op h; cases h; rfl
theorem vstX (x : XFields) : Statement (.vstX x) := by
  intro op h; cases h; rfl
theorem vstXl (x : XFields) (lit : Word) : Statement (.vstXl x lit) := by
  intro op h; cases h; rfl
theorem vldx (x : XFields) : Statement (.vldx x) := by
  intro op h; cases h; rfl
theorem vstx (x : XFields) : Statement (.vstx x) := by
  intro op h; cases h; rfl
theorem sldX (x : XFields) : Statement (.sldX x) := by
  intro op h; cases h; rfl
theorem sldXl (x : XFields) (lit : Word) : Statement (.sldXl x lit) := by
  intro op h; cases h; rfl
theorem sstX (x : XFields) : Statement (.sstX x) := by
  intro op h; cases h; rfl
theorem sstXl (x : XFields) (lit : Word) : Statement (.sstXl x lit) := by
  intro op h; cases h; rfl
theorem prefX (x : XFields) : Statement (.prefX x) := by
  intro op h; cases h; rfl
theorem prefXl (x : XFields) (lit : Word) : Statement (.prefXl x lit) := by
  intro op h; cases h; rfl
theorem pld (x : XFields) : Statement (.pld x) := by
  intro op h; cases h; rfl
theorem pst (x : XFields) : Statement (.pst x) := by
  intro op h; cases h; rfl
theorem pldr (x : XFields) (lit : Word) : Statement (.pldr x lit) := by
  intro op h; cases h; rfl
theorem pstr (x : XFields) (lit : Word) : Statement (.pstr x lit) := by
  intro op h; cases h; rfl
theorem vatom (x : XFields) : Statement (.vatom x) := by
  intro op h; cases h; rfl
theorem patom (x : XFields) : Statement (.patom x) := by
  intro op h; cases h; rfl
theorem ratomX (x : XFields) : Statement (.ratomX x) := by
  intro op h; cases h; rfl
theorem ratomXl (x : XFields) (lit : Word) : Statement (.ratomXl x lit) := by
  intro op h; cases h; rfl
theorem feld (x : XFields) : Statement (.feld x) := by
  intro op h; cases h; rfl
theorem fest (x : XFields) : Statement (.fest x) := by
  intro op h; cases h; rfl
theorem fefill (x : XFields) : Statement (.fefill x) := by
  intro op h; cases h; rfl
theorem feclr (x : XFields) : Statement (.feclr x) := by
  intro op h; cases h; rfl
theorem feqry (x : XFields) : Statement (.feqry x) := by
  intro op h; cases h; rfl
theorem waita (x : XFields) : Statement (.waita x) := by
  intro op h; cases h; rfl
theorem phase (x : XFields) : Statement (.phase x) := by
  intro op h; cases h; rfl
theorem bar (x : XFields) : Statement (.bar x) := by
  intro op h; cases h; rfl
theorem barx (x : XFields) : Statement (.barx x) := by
  intro op h; cases h; rfl
theorem fence (x : XFields) : Statement (.fence x) := by
  intro op h; cases h; rfl
theorem ifence (x : XFields) : Statement (.ifence x) := by
  intro op h; cases h; rfl
theorem icinv (x : XFields) : Statement (.icinv x) := by
  intro op h; cases h; rfl
theorem cflush (x : XFields) : Statement (.cflush x) := by
  intro op h; cases h; rfl
theorem cinv (x : XFields) : Statement (.cinv x) := by
  intro op h; cases h; rfl
theorem sbmode (x : XFields) : Statement (.sbmode x) := by
  intro op h; cases h; rfl
theorem gdef (x : XFields) : Statement (.gdef x) := by
  intro op h; cases h; rfl
theorem gview (x : XFields) : Statement (.gview x) := by
  intro op h; cases h; rfl
theorem grel (x : XFields) : Statement (.grel x) := by
  intro op h; cases h; rfl
theorem tload (x : XFields) : Statement (.tload x) := by
  intro op h; cases h; rfl
theorem tmma (x : XFields) : Statement (.tmma x) := by
  intro op h; cases h; rfl
theorem tew (x : XFields) : Statement (.tew x) := by
  intro op h; cases h; rfl
theorem tred (x : XFields) : Statement (.tred x) := by
  intro op h; cases h; rfl
theorem tcvt (x : XFields) : Statement (.tcvt x) := by
  intro op h; cases h; rfl
theorem tforce (x : XFields) : Statement (.tforce x) := by
  intro op h; cases h; rfl
theorem tstore (x : XFields) : Statement (.tstore x) := by
  intro op h; cases h; rfl
theorem twait (x : XFields) : Statement (.twait x) := by
  intro op h; cases h; rfl
theorem tdrop (x : XFields) : Statement (.tdrop x) := by
  intro op h; cases h; rfl
theorem tqry (x : XFields) : Statement (.tqry x) := by
  intro op h; cases h; rfl
theorem lstat (x : XFields) : Statement (.lstat x) := by
  intro op h; cases h; rfl
theorem lswap (x : XFields) : Statement (.lswap x) := by
  intro op h; cases h; rfl
theorem mstrm (x : XFields) : Statement (.mstrm x) := by
  intro op h; cases h; rfl
theorem mdrain (x : XFields) : Statement (.mdrain x) := by
  intro op h; cases h; rfl
theorem btake (x : XFields) : Statement (.btake x) := by
  intro op h; cases h; rfl
theorem bpass (x : XFields) : Statement (.bpass x) := by
  intro op h; cases h; rfl
theorem ownset (x : XFields) : Statement (.ownset x) := by
  intro op h; cases h; rfl
theorem ownq (x : XFields) : Statement (.ownq x) := by
  intro op h; cases h; rfl
theorem copyX (x : XFields) : Statement (.copyX x) := by
  intro op h; cases h; rfl
theorem copyXl (x : XFields) (lit : Word) : Statement (.copyXl x lit) := by
  intro op h; cases h; rfl
theorem copymX (x : XFields) : Statement (.copymX x) := by
  intro op h; cases h; rfl
theorem copymXl (x : XFields) (lit : Word) : Statement (.copymXl x lit) := by
  intro op h; cases h; rfl
theorem pkrd (x : XFields) : Statement (.pkrd x) := by
  intro op h; cases h; rfl
theorem pkwr (x : XFields) : Statement (.pkwr x) := by
  intro op h; cases h; rfl
theorem pkvget (x : XFields) : Statement (.pkvget x) := by
  intro op h; cases h; rfl
theorem pkvset (x : XFields) : Statement (.pkvset x) := by
  intro op h; cases h; rfl
theorem pkact (x : XFields) : Statement (.pkact x) := by
  intro op h; cases h; rfl
theorem enq (x : XFields) : Statement (.enq x) := by
  intro op h; cases h; rfl
theorem qstat (x : XFields) : Statement (.qstat x) := by
  intro op h; cases h; rfl
theorem udf (len : BitVec 2) (sch : BitVec 4) (n : BitVec 20) : Statement (.udf len sch n) := by
  intro op h; cases h; rfl
theorem eventSpaceReturn : Statement .eventSpaceReturn := fun _ h => nomatch h
theorem ltodWaitLimit : Statement .ltodWaitLimit := fun _ h => nomatch h
theorem vdCkptStopComplete : Statement .vdCkptStopComplete := fun _ h => nomatch h
theorem vdCkptRestoreComplete : Statement .vdCkptRestoreComplete := fun _ h => nomatch h
theorem vdDestroyComplete : Statement .vdDestroyComplete := fun _ h => nomatch h
theorem migResumeComplete : Statement .migResumeComplete := fun _ h => nomatch h
theorem debugHalt : Statement .debugHalt := fun _ h => nomatch h
theorem debugResume : Statement .debugResume := fun _ h => nomatch h
theorem mgmtBadOpcode : Statement .mgmtBadOpcode := fun _ h => nomatch h
theorem spdmUnsupportedRequest : Statement .spdmUnsupportedRequest := fun _ h => nomatch h

end Sys2Proof.Laws.TableRow
end

