-- ==== Sys2Proof/Laws/Values.lean ====
section
/-! SUPPORT. The machine's integer helpers give the exact values of the manual's formulas (12 R338, R341, 15 R423). -/
namespace Sys2Proof.Machine

theorem typeWidth_cases (t : Nat) : typeWidth t = 8 ∨ typeWidth t = 16 ∨ typeWidth t = 32 ∨ typeWidth t = 64 := by
  unfold typeWidth; split <;> simp

theorem typeWidth_pos (t : Nat) : 0 < typeWidth t := by have := typeWidth_cases t; omega

/-- Two's complement reading of the low w bits. -/
theorem sext_eq (w x : Nat) (hw : 0 < w) : sext w x = (BitVec.ofNat w x).toInt := by
  unfold sext
  rw [BitVec.toInt_eq_toNat_cond, BitVec.toNat_ofNat]
  have h2 : 2 * 2 ^ (w - 1) = 2 ^ w := by
    obtain ⟨n, rfl⟩ : ∃ n, w = n + 1 := ⟨w - 1, by omega⟩
    simp [Nat.pow_succ, Nat.mul_comm]
  dsimp only
  split <;> split <;> first | rfl | omega

/-- A pattern as an integer of its type. -/
theorem intVal_eq (t x : Nat) : intVal t x = intOf t x := by
  unfold intVal intOf
  split
  · exact sext_eq _ _ (typeWidth_pos t)
  · simp

/-- Narrowing is clamping, then wrapping. -/
theorem narrow_eq (sat : Bool) (t : Nat) (v : Int) : narrow sat t v = patternOf sat t v := by
  have hp : 0 < 2 ^ (typeWidth t - 1) := Nat.pow_pos (by omega)
  have hq : 0 < 2 ^ typeWidth t := Nat.pow_pos (by omega)
  unfold narrow patternOf wrapTo intMin intMax
  dsimp only
  rw [BitVec.toNat_ofInt]
  generalize 2 ^ typeWidth t = m at *
  generalize 2 ^ (typeWidth t - 1) = n at *
  congr 2
  cases sat
  · simp
  · simp only [if_true, Bool.true_and, decide_eq_true_eq]
    split <;> split <;> (try split) <;> omega

/-- The fill of a scalar register is the pattern's integer in 64 bits. -/
theorem fillScalar_eq (t x : Nat) : fillScalar t x = extended t x := by
  unfold extended intOf
  by_cases h : signedType t = true
  · rw [if_pos h]
    simp only [signedType, Bool.or_eq_true, decide_eq_true_eq] at h
    have key : ∀ w : Nat, (BitVec.ofNat w x).signExtend 64 = BitVec.ofInt 64 (BitVec.ofNat w x).toInt := fun w => rfl
    rcases h with ((rfl | rfl) | rfl) | rfl
    · exact key 8
    · exact key 16
    · exact key 32
    · show BitVec.ofNat 64 (x % 2 ^ 64) = BitVec.ofInt 64 (BitVec.ofNat 64 x).toInt
      rw [BitVec.ofInt_toInt]
      apply BitVec.eq_of_toNat_eq
      simp
  · rw [if_neg h]
    simp only [signedType, Bool.or_eq_true, decide_eq_true_eq, not_or] at h
    have hw := typeWidth_cases t
    have : fillScalar t x = BitVec.ofNat 64 (x % 2 ^ typeWidth t) := by
      unfold fillScalar; split <;> simp_all
    rw [this, BitVec.toNat_ofNat, BitVec.ofInt_natCast]

end Sys2Proof.Machine
end

