-- ==== Sys2Proof/Tests/Slice0.lean ====
section
/-! SUPPORT. Tests of the model: ill-formed instructions that WellFormed refuses, words written out from the manual's
encodings, a form of every instruction that issues, and for the statements of Certificates/Slice0/Obligations.lean states
and operands that meet their hypotheses. -/
namespace Sys2Proof.Tests
open Sys2Proof Sys2Proof.Machine

set_option Elab.async false

/-! ## Small states and forms -/

/-- One course with all lanes active at address 65536 of a device of two pages; nothing else is under way. -/
def lab : State := { State.reset.loadOne.tickOne with cur := some (0, 0) }

/-- The same state with the course changed. -/
def labC (f : Course → Course) : State := lab.setCourse 0 (f (lab.course 0))

/-- The same state with scalar registers. -/
def labS (l : FMap Word) : State := labC (fun c => { c with s := l })

/-- The same state with the group changed. -/
def labG (f : Group → Group) : State := lab.setGroup 0 (f (lab.group 0))

/-- An X form: TYPE, VD, SA, EXT; no schedule. -/
def xt (t : BitVec 4) (vd sa : BitVec 8) (ext : BitVec 9) : XFields := { sch := 15, setf := 15, type := t, vd, sa, ext }

/-- A route literal that leaves this module by port 0. -/
def route : Word := 0x1100000300000000

/-- The instruction issues at the state, under a context of which p holds. -/
def issues (s : State) (i : Instr) (p : Ctx → Bool := fun _ => true) : Bool := (s.issuer i).any p

/-- Every one of these witnesses holds. -/
def meets (l : List Bool) : Bool := l.all id

/-- 13 R388: an encoding with an operand that its rules reserve is not well-formed. -/
def refused (i : Instr) : Bool := !WellFormed i

/-! ## Ill-formed terms, one for each check -/

theorem test_refused_nop_with_bits : refused (.nopS 0 1) = true := by decide
theorem test_refused_scalar_literal_with_imm : refused (.saddSl { imm := 1 } 0) = true := by decide
theorem test_refused_shift_count_64 : refused (.sshlS { imm := 64 }) = true := by decide
theorem test_refused_move_with_imm : refused (.smovS { imm := 1 }) = true := by decide
theorem test_refused_move_literal_with_source : refused (.smovlSl { ss := 1 } 0) = true := by decide
theorem test_refused_special_register_15 : refused (.sgetS { imm := 15 }) = true := by decide
theorem test_refused_lane_number_in_a_scalar : refused (.sgetS { imm := 0 }) = true := by decide
theorem test_refused_branch_with_mask : refused (.braS { k := 1 }) = true := by decide
theorem test_refused_short_source_245 : refused (.vaddS { vs := 245 }) = true := by decide
theorem test_refused_short_destination_244 : refused (.vaddS { vd := 244 }) = true := by decide
theorem test_refused_vector_source_245 : refused (.vaddX (xt 4 0 245 0)) = true := by decide
theorem test_refused_vector_destination_244 : refused (.vaddX (xt 4 244 0 0)) = true := by decide
theorem test_refused_scalar_destination_64 : refused (.saddX (xt 6 64 0 0)) = true := by decide
theorem test_refused_mask_destination_k0 : refused (.kand (xt 0 0 1 0)) = true := by decide
theorem test_refused_type_of_float_in_scalar_add : refused (.saddX (xt 10 0 0 0)) = true := by decide
theorem test_refused_type_14 : refused (.faddX (xt 14 0 0 0)) = true := by decide
theorem test_refused_condition_6 : refused (.scmp (xt 6 0 0 6)) = true := by decide
theorem test_refused_scope_5 : refused (.phase (xt 0 0 0 5)) = true := by decide
theorem test_refused_set_of_a_register_but_14 : refused (.sset (xt 0 0 13 0)) = true := by decide
theorem test_refused_unused_destination_of_exit : refused (.exit (xt 0 1 0 0)) = true := by decide
theorem test_refused_saturation_of_a_move : refused (.vmovX { xt 4 0 0 0 with sat := 1 }) = true := by decide
theorem test_refused_route_literal_zero : refused (.copyXl (xt 0 0 0 0) 0) = true := by decide
theorem test_refused_event_as_an_instruction : refused .powerGood = true := by decide

/-! ## Words written out from the encodings -/

/-- FFMA v12, v4, v5, v250 under k3 with RM 1, TYPE 10, DIST 1, WAIT 0x021, SETF 2: the words written out from 13 R379 to R387. -/
theorem test_decode_ffma : decodeTableWord 96 0x00010109a3fa05040340cf61 =
    some (.ffma { sch := 0xf, vd := 12, rm := 1, sa := 4, sb := 5, sc := 250, km := 3, type := 0xa, dist := 1, wait := 0x021, setf := 2 }) := by decide
theorem test_decode_vadd_short : decodeTableWord 32 0x00907340 = some (.vaddS { sch := 3, vd := 7, vs := 9 }) := by decide
theorem test_decode_vnot_short : decodeTableWord 32 0x50907340 = some (.vnotS { sch := 3, vd := 7, vs := 9 }) := by decide
theorem test_decode_smov_literal : decodeTableWord 96 0x123456789abcdef000005012 = some (.smovlSl { sd := 5 } 0x123456789abcdef0) := by decide
theorem test_decode_vred : decodeTableWord 96 0x00008000a200000800004f8d = some (.vred { sch := 0xf, vd := 4, sa := 8, km := 2, type := 0xa, setf := 1 }) := by decide
theorem test_decode_vld : decodeTableWord 96 0x00088000a00000fa00008fa1 = some (.vldX { sch := 0xf, vd := 8, sa := 250, type := 0xa, setf := 1, ext := 1 }) := by decide
theorem test_decode_pkwr : decodeTableWord 96 0x007880000000020001003fd5 = some (.pkwr { sch := 0xf, vd := 3, sb := 2, setf := 1, ext := 15 }) := by decide
theorem test_decode_nop : decodeTableWord 32 0 = some (.nopS 0 0) := by decide
theorem test_decode_udf : decodeTableWord 32 0xfc = some (.udf 0 0 0) := by decide
theorem test_decode_refuses_unused_minor : decodeTableWord 32 0x60907340 = none := by decide

/-- The word that withFetchWord places is the one that step fetches and runs: NOP takes a step. -/
theorem test_step_runs_placed_nop : (match step (State.reset.withFetchWord 32 0) with | .next s => decide (((s.course 0).splits.map (·.2.pc)) = [65540]) | _ => false) = true := by decide +kernel

/-! ## Every instruction issues: the hypothesis of the statements about an instruction's effect -/

def formsSpecialAndMask : List Instr :=
  [.nopS 0 0, .nopX (xt 0 0 0 0), .sgetS { imm := 1 }, .sgetX (xt 0 0 1 0), .sset (xt 0 0 14 0), .kand (xt 0 1 0 0), .kor (xt 0 1 0 0),
   .kxor (xt 0 1 0 0), .knot (xt 0 1 0 0), .kmov (xt 0 1 0 0), .kfroms (xt 0 1 0 0), .ktos (xt 0 0 0 0), .kpopc (xt 0 0 0 0),
   .kfirst (xt 0 0 0 0), .waitf (xt 0 0 0 0), .delay (xt 0 0 0 0)]

theorem test_issues_special_and_mask : formsSpecialAndMask.all (fun i => WellFormed i && (lab.issuer i).isSome) = true := by decide +kernel

def formsScalar : List Instr :=
  [.saddS {}, .saddSl {} 0, .saddX (xt 6 0 0 0), .ssub (xt 6 0 0 0), .smul (xt 6 0 0 0), .smulh (xt 6 0 0 0), .sand (xt 6 0 0 0),
   .sor (xt 6 0 0 0), .sxor (xt 6 0 0 0), .sshlS {}, .sshlX (xt 6 0 0 0), .sshrS {}, .sshrX (xt 6 0 0 0), .ssar (xt 6 0 0 0),
   .sclz (xt 6 0 0 0), .spopc (xt 6 0 0 0), .smin (xt 6 0 0 0), .smax (xt 6 0 0 0), .scmp (xt 6 0 0 0), .ssel (xt 6 0 0 0), .smovS {},
   .smovX (xt 0 0 0 0), .smovlSl {} 0, .smovlXl (xt 0 0 0 0) 0, .brvS {}, .brvXl (xt 0 0 0 0) 0, .rejoin (xt 0 0 0 0),
   .exit (xt 0 0 0 0), .tail (xt 0 0 0 0), .migr (xt 0 0 0 0), .frcpS {}, .frcpX (xt 9 0 0 0), .frsqS {}, .frsqX (xt 9 0 0 0),
   .vnbrLeft (xt 0 0 0 0), .vnbrRight (xt 0 0 0 0), .tdrop (xt 0 0 0 0), .tqry (xt 0 0 0 0), .lswap (xt 0 0 0 0), .mstrm (xt 0 0 0 0),
   .btake (xt 0 0 0 0), .bpass (xt 0 0 0 0), .pkact (xt 0 0 0 0)]

theorem test_issues_scalar : formsScalar.all (fun i => WellFormed i && (lab.issuer i).isSome) = true := by decide +kernel

def formsFlow : List Instr :=
  [.trapX (xt 0 0 0 0), .trapXl (xt 0 0 0 0) 0, .brk (xt 0 0 0 0), .yield (xt 0 0 0 0), .prio (xt 0 0 0 0), .braS {},
   .braXl (xt 0 0 0 0) 0, .brcS {}, .brcXl (xt 0 0 0 0) 0, .callS {}, .callXl (xt 0 0 0 0) 0, .jmpi (xt 0 0 0 0), .ret (xt 0 0 0 0)]

theorem test_issues_flow : formsFlow.all (fun i => WellFormed i && (lab.issuer i).isSome) = true := by decide +kernel

def formsVectorInteger : List Instr :=
  [.vaddS {}, .vaddX (xt 0 0 0 0), .vsubS {}, .vsubX (xt 0 0 0 0), .vandS {}, .vandX (xt 0 0 0 0), .vorS {}, .vorX (xt 0 0 0 0),
   .vxorS {}, .vxorX (xt 0 0 0 0), .vnotS {}, .vnotX (xt 0 0 0 0), .vmulS {}, .vmulX (xt 0 0 0 0), .vmulhS {}, .vmulhX (xt 0 0 0 0),
   .vmad (xt 0 0 0 0), .vshlS {}, .vshlX (xt 0 0 0 0), .vshrS {}, .vshrX (xt 0 0 0 0), .vsarS {}, .vsarX (xt 0 0 0 0), .vclzS {},
   .vclzX (xt 0 0 0 0), .vpopcS {}, .vpopcX (xt 0 0 0 0), .vbrevS {}, .vbrevX (xt 0 0 0 0), .vbfe (xt 6 0 0 0), .vbfi (xt 6 0 0 0),
   .vminS {}, .vminX (xt 0 0 0 0), .vmaxS {}, .vmaxX (xt 0 0 0 0), .vabsS {}, .vabsX (xt 0 0 0 0), .vnegS {}, .vnegX (xt 0 0 0 0),
   .vcmp (xt 0 1 0 0), .vsel (xt 0 0 0 0), .vmovS {}, .vmovX (xt 0 0 0 0), .vmovXl (xt 0 0 0 0) 0, .vleaX (xt 6 0 0 0),
   .vleaXl (xt 6 0 0 0) 0]

theorem test_issues_vector_integer : formsVectorInteger.all (fun i => WellFormed i && (lab.issuer i).isSome) = true := by decide +kernel

def formsFloat : List Instr :=
  [.faddS {}, .faddX (xt 9 0 0 0), .fsubS {}, .fsubX (xt 9 0 0 0), .fmulS {}, .fmulX (xt 9 0 0 0), .ffma (xt 9 0 0 0), .fminS {},
   .fminX (xt 9 0 0 0), .fmaxS {}, .fmaxX (xt 9 0 0 0), .fcmp (xt 9 1 0 0), .fclass (xt 9 0 0 0), .frnd (xt 9 0 0 0), .fdivS {},
   .fdivX (xt 9 0 0 0), .fsqrtS {}, .fsqrtX (xt 9 0 0 0), .fexp2S {}, .fexp2X (xt 9 0 0 0), .flog2S {}, .flog2X (xt 9 0 0 0),
   .fsinpiS {}, .fsinpiX (xt 9 0 0 0), .fcospiS {}, .fcospiX (xt 9 0 0 0), .cvt (xt 0 0 0 0), .vpack (xt 13 0 0 9),
   .vunpk (xt 13 0 0 264), .vcbdec (xt 9 0 0 0), .vcbenc (xt 9 0 0 0), .vbscal (xt 9 0 0 0)]

theorem test_issues_float : formsFloat.all (fun i => WellFormed i && (lab.issuer i).isSome) = true := by decide +kernel

def formsCrossLane : List Instr :=
  [.vshfl (xt 0 0 0 0), .vperm (xt 0 0 0 0), .vbcast (xt 0 0 0 0), .vred (xt 0 0 0 0), .vscan (xt 0 0 0 0), .vballot (xt 0 0 0 0)]

theorem test_issues_cross_lane : formsCrossLane.all (fun i => WellFormed i && (lab.issuer i).isSome) = true := by decide +kernel

def formsMemory : List Instr :=
  [.vldX (xt 0 0 0 0), .vldXl (xt 0 0 0 0) 0, .vstX (xt 0 0 0 0), .vstXl (xt 0 0 0 0) 0, .vldx (xt 0 0 0 0), .vstx (xt 0 0 0 0),
   .sldX (xt 0 0 0 0), .sldXl (xt 0 0 0 0) 0, .sstX (xt 0 0 0 0), .sstXl (xt 0 0 0 0) 0, .prefX (xt 0 0 0 0), .prefXl (xt 0 0 0 0) 0,
   .pld (xt 0 0 0 0), .pst (xt 0 0 0 0), .pldr (xt 0 0 0 0) 0, .pstr (xt 0 0 0 0) 0, .vatom (xt 6 0 0 0), .patom (xt 6 0 0 0),
   .ratomX (xt 6 0 0 0), .ratomXl (xt 6 0 0 0) route, .feld (xt 0 0 0 0), .fest (xt 0 0 0 0), .fefill (xt 0 0 0 0), .feclr (xt 0 0 0 0),
   .feqry (xt 0 1 0 0), .waita (xt 6 0 0 0)]

theorem test_issues_memory : formsMemory.all (fun i => WellFormed i && (lab.issuer i).isSome) = true := by decide +kernel

def formsSynchronisation : List Instr :=
  [.phase (xt 0 0 0 0), .bar (xt 0 0 0 0), .barx (xt 0 0 0 0), .fence (xt 0 0 0 9), .ifence (xt 0 0 0 0), .icinv (xt 0 0 0 0),
   .cflush (xt 0 0 0 0), .cinv (xt 0 0 0 0), .sbmode (xt 0 0 0 0)]

theorem test_issues_synchronisation : formsSynchronisation.all (fun i => WellFormed i && (lab.issuer i).isSome) = true := by decide +kernel

def formsTile : List Instr :=
  [.gdef (xt 0 0 0 0), .gview (xt 0 0 0 0), .grel (xt 0 0 0 0), .tload (xt 0 0 0 0), .tmma (xt 0 0 0 0), .tew (xt 0 0 0 0),
   .tred (xt 0 0 0 0), .tcvt (xt 0 0 0 0), .tforce (xt 0 0 0 0), .tstore (xt 0 0 0 0), .twait (xt 0 0 0 0)]

theorem test_issues_tile : formsTile.all (fun i => WellFormed i && (lab.issuer i).isSome) = true := by decide +kernel

def formsArray : List Instr :=
  [.lstat (xt 0 0 0 0), .mdrain (xt 0 0 0 0), .ownset (xt 0 0 0 0), .ownq (xt 0 0 0 0), .copyX (xt 0 0 0 0), .copyXl (xt 0 0 0 0) route,
   .copymX (xt 0 0 0 0), .copymXl (xt 0 0 0 0) route]

theorem test_issues_array : formsArray.all (fun i => WellFormed i && (lab.issuer i).isSome) = true := by decide +kernel

def formsHandle : List Instr :=
  [.pkrd (xt 0 0 0 0), .pkwr (xt 0 0 0 0), .pkvget (xt 0 0 0 0), .pkvset (xt 0 0 0 0), .enq (xt 0 0 0 0), .qstat (xt 0 0 0 0)]

theorem test_issues_handle : formsHandle.all (fun i => WellFormed i && (lab.issuer i).isSome) = true := by decide +kernel

/-! ## Clauses of the statements about instructions -/

/-- A course of four splits, one lane each. -/
def labSplits : State := labC (fun c => { c with splits := (List.range 4).map (fun n => (n, { pc := 65536, mask := 1 <<< n })) })

/-- Mask register k1 holds m. -/
def labK (m : LaneMask) : State := labC (fun c => { c with k := [(1, m)] })

/-- The attribute TLB of the course's core holds both granules; memory holds these bytes from an address on. -/
def labM (a : Nat) (l : List Byte) : State :=
  { lab with dram := Memory.writeL [] a l, atlb := tset [] (lab.coreOf 0) [{ vd := 0, granule := 0, perm := 7, mapped := true }, { vd := 0, granule := 1, perm := 7, mapped := true }] }

/-- A task that runs under LW16: two halves of one course. -/
def labHalves : State :=
  let s := lab.setTask 0 { lab.task 0 with hdr := { (lab.task 0).hdr with lw16 := true } }
  { s.setCourse 0 { s.course 0 with splits := [(0, { pc := 65536, mask := 0xffff }), (2, { pc := 65536, mask := 0xffff0000 })] } with cur := some (0, 2) }

theorem test_meets_ScalarMoves_ScalarCompare : meets [issues lab (.scmp (xt 6 0 0 5)), refused (.scmp (xt 6 0 0 6)), issues lab (.ssel (xt 6 0 0 0))] = true := by decide +kernel

theorem test_meets_SpecialRegisterReads : meets [issues lab (.sgetS { imm := 14 }) (fun k => k.c.lastScope < 8), issues lab (.sgetX (xt 0 0 1 0)), issues lab (.sgetX (xt 0 0 0 1)), issues labHalves (.sgetX (xt 0 0 14 1))] = true := by decide +kernel

theorem test_meets_TrapMaskWrite : meets [issues lab (.sset (xt 0 0 14 0)) (fun k => (lab.vd k.vdn).asid ≠ 0), issues (lab.setVd 0 { lab.vd 0 with asid := 0 }) (.sset (xt 0 0 14 0)) (fun k => (k.s.vd k.vdn).asid = 0)] = true := by decide +kernel

theorem test_meets_MaskOperations : meets [issues labHalves (.kand (xt 0 7 1 0)) (fun k => k.lw && k.half = 1), issues lab (.ktos (xt 0 0 7 0)) (fun k => !k.lw)] = true := by decide +kernel

theorem test_meets_WaitsAndHints :
    let one := labC (fun c => { c with pends := [{ id := 1, flag := some 11, splits := 1 }] })
    let i := Instr.waitf { xt 0 0 0 0 with sb := 8 }
    meets [issues lab i (fun k => k.sp.redo = none && k.x.w1.getLsbD 11 && k.c.flag k.w 11 ≤ (k.x.w1.extractLsb' 12 6).toNat), issues one i (fun k => k.sp.redo = none && k.x.w1.getLsbD 11 && (k.x.w1.extractLsb' 12 6).toNat < k.c.flag k.w 11)] = true := by decide +kernel

theorem test_meets_Branches :
    let aligned := fun (a : Word) => a.toNat % 4 = 0 && a.toNat < 2 ^ 57
    meets [issues lab (.braS { off := 0x7fff }) (fun k => aligned (k.pc + 4 * (0x7fff#16).signExtend 64)),
    issues lab (.callXl (xt 0 0 0 0) 0xffffffffffff0000) (fun k => aligned (k.pc + 0xffffffffffff0000)),
    issues (labS [(0, 0x1fffffffffffffc)]) (.jmpi (xt 0 0 0 0)) (fun k => aligned (k.srcS 0)),
    issues lab (.ret (xt 0 0 0 0)) (fun k => aligned (k.srcS 0)),
    issues lab (.brcS {}) (fun k => k.kreg 0 &&& k.k0 ≠ 0),
    issues (labK 0) (.brcS { k := 1 }) (fun k => k.kreg 1 &&& k.k0 = 0),
    issues lab (.brcXl (xt 0 0 0 0) 0) (fun k => k.kreg 0 &&& k.k0 ≠ 0),
    issues (labK 0) (.brcXl (xt 0 0 1 0) 0) (fun k => k.kreg 1 &&& k.k0 = 0)] = true := by decide +kernel

theorem test_meets_Divergence :
    let splits := fun (k : Ctx) (n : Nat) => k.kreg n &&& k.k0 ≠ 0 && k.k0 &&& ~~~(k.kreg n) ≠ 0
    meets [issues (labK 0) (.brvS { k := 1 }) (fun k => k.sp.redo = none && k.kreg 1 &&& k.k0 = 0),
    issues lab (.brvS {}) (fun k => k.kreg 0 &&& k.k0 = k.k0),
    issues (labK 1) (.brvS { k := 1 }) (fun k => splits k 1 && tget k.c.splits 1 = none && tget k.c.splits 0 ≠ none),
    issues (labK 0x80000000) (.brvXl (xt 0 0 1 0) 4) (fun k => splits k 1 && tget k.c.splits 1 = none),
    issues { (labSplits.setCourse 0 { labSplits.course 0 with k := [(1, 2)] , splits := tset (labSplits.course 0).splits 0 { pc := 65536, mask := 3 } }) with cur := some (0, 0) }
        (.brvS { k := 1 }) (fun k => splits k 1 && (List.range 4).all (fun j => tget k.c.splits j ≠ none) && k.sp.stack.length < 16)] = true := by decide +kernel

theorem test_meets_Reconvergence :
    let i := Instr.rejoin (xt 0 0 1 0)
    let alone := fun (k : Ctx) => k.sp.redo = none && k.k0 ≠ 0 && k.c.splits = [(k.w, k.sp)] && k.c.held = [] && k.sp.stack = [] && k.sp.wait = .run
    let m := fun (k : Ctx) => k.kreg 1 &&& k.halfLanes
    meets [issues (labK 1) i (fun k => k.k0 &&& ~~~(m k) ≠ 0),
    issues lab (.rejoin (xt 0 0 0 0)) (fun k => alone k),
    issues (labK 0xffffffff) i (fun k => alone k && k.k0 &&& ~~~(m k) = 0 && k.k0 = m k &&& k.c.live),
    issues (labC (fun c => { c with k := [(1, 0xffffffff)], splits := [(0, { pc := 65536, mask := 1 })] })) i
        (fun k => alone k && k.k0 &&& ~~~(m k) = 0 && k.k0 ≠ m k &&& k.c.live)] = true := by decide +kernel

theorem test_meets_ExitTailMigrate :
    let none' := { xt 0 0 0 0 with km := 1 }
    let full := lab.setCell 0 { lab.cell 0 with tracker := List.replicate 8 { course := 9, task := 0 } }
    let isFull := fun (k : Ctx) => 8 ≤ (k.s.cell (cellKey k.g.bench k.g.cell)).tracker.length
    let last := fun (k : Ctx) => k.active ≠ 0 && k.c.live &&& ~~~k.active = 0 && k.c.st = .running
    meets [issues (labK 0) (.exit none') (fun k => k.active = 0), issues lab (.exit (xt 0 0 0 0)) last, issues (labK 1) (.tail none') (fun k => k.active = 1 && !last k), issues lab (.tail (xt 0 0 0 0)) (fun k => last k && !isFull k), issues full (.tail (xt 0 0 0 0)) (fun k => last k && isFull k), issues lab (.migr (xt 0 0 0 0)) (fun k => !k.c.migReq)] = true := by decide +kernel

theorem test_meets_TrapsAndBreaks :
    let none' := { xt 0 0 0 0 with km := 1 }
    let debugged := lab.setVd 0 { lab.vd 0 with dbg := 2 }
    meets [issues (labK 0) (.brk none') (fun k => k.active = 0), issues (labK 0) (.trapXl none' 0) (fun k => k.active = 0), issues lab (.brk (xt 0 0 0 0)) (fun k => k.active ≠ 0 && (k.s.vd k.vdn).dbg ≠ 2), issues debugged (.brk (xt 0 0 0 0)) (fun k => (k.s.vd k.vdn).dbg = 2), (lab.atSplit (.udf 3 0 0)).any (fun k => (lab.spend k.g.task k.g.bench).isSome)] = true := by decide +kernel

theorem test_meets_IssueChecks :
    let at_ := fun (s : State) (i : Instr) (p : Ctx → Bool) => (opcodeOf i).isSome && (s.atSplit i).any (fun k => p k)
    let pays := fun (k : Ctx) => (k.s.spend k.g.task k.g.bench).isSome
    let legal := fun (k : Ctx) => !(isUdf k.i || (k.lw && tileMajor k.i))
    (at_ (lab.setTask 0 { lab.task 0 with budget := some 0 }) (.nopS 0 0) (fun k => !pays k)
    && at_ lab (.udf 0 0 0) (fun k => pays k && !legal k) && at_ labHalves (.tload (xt 0 0 0 0)) (fun k => pays k && !legal k)
    && at_ lab (.nopS 0 1) (fun k => pays k && legal k && reserved k.i)
    && at_ lab (.vaddS { vd := 160 }) (fun k => pays k && legal k && !reserved k.i && !k.sched.bad && k.c.prof && profileOperand k.i)
    && at_ (labC (fun c => { c with splits := [(0, { pc := 65536, mask := 1 })] })) (.bar (xt 0 0 0 0))
        (fun k => pays k && legal k && !reserved k.i && !k.sched.bad && !profileOperand k.i && (!isWide k.i || k.k0 ≠ k.c.live))
    && at_ (labC (fun c => { c with splits := [(0, { pc := 65536, mask := 1 })] })) (.tload (xt 0 0 0 0)) (fun k => pays k && legal k && isWide k.i && k.k0 ≠ k.c.live)) = true := by
  decide +kernel

theorem test_meets_BranchTargetFaults :
    meets [issues lab (.braXl (xt 0 0 0 0) 1) (fun k => (k.pc + 1).toNat % 4 ≠ 0),
    issues (labS [(0, 0x200000000000000)]) (.jmpi (xt 0 0 0 0)) (fun k => (k.srcS 0).toNat % 4 = 0 && 2 ^ 57 ≤ (k.srcS 0).toNat),
    issues (labC (fun c => { c with splits := [(0, { pc := 0, mask := 1 })] })) (.braS { off := 0xffff }) (fun k => 2 ^ 57 ≤ (k.pc + 4 * (0xffff#16).signExtend 64).toNat),
    issues lab (.brcS {}) (fun k => k.kreg 0 &&& k.k0 ≠ 0),
    issues (labK 0) (.brcXl (xt 0 0 1 1) 2) (fun k => k.kreg 1 &&& k.k0 = 0)] = true := by decide +kernel

theorem test_meets_IssueFrame : issues lab (.nopS 0 0) (fun k => k.sp.redo = none) = true := by decide +kernel

theorem test_meets_LandingFrame : (tsorted 0 (labS [(0, 1), (63, 2)] |>.course 0).s && tsorted 0 (labK 1 |>.course 0).k && tsorted 0 (lab.course 0).v
    && tsorted 0 (lab.course 0).b) = true := by decide +kernel

/-- A running course with these pending instructions. -/
def pending (ps : List Pend) : Course := { lab.course 0 with pends := ps }

theorem test_meets_LandingTime : (pending []).st.lands = true
    ∧ (∀ p ∈ (pending [{ id := 1, due := some 3 }]).pends, ∀ t, p.due = some t → 1 + 1 < t)
    ∧ (pending [{ id := 1, due := some 2 }]).pends = [{ id := 1, due := some 2 }] ∧ 2 ≤ (1 : Nat) + 1
    ∧ (0, pending [{ id := 1, due := some 2 }, { id := 2, due := some 1 }]) ∈ (lab.setCourse 0 (pending [{ id := 1, due := some 2 }, { id := 2, due := some 1 }])).courses := by
  refine ⟨by decide, ?_, rfl, by decide, by decide +kernel⟩
  intro p hp t ht
  simp [pending] at hp
  subst hp
  simp at ht
  omega

theorem test_meets_FetchReadsCode :
    let s := labM 0 []
    let entry := fun (g : Nat) (perm : BitVec 3) (mapped : Bool) => { lab with atlb := tset [] (lab.coreOf 0) [{ vd := 0, granule := g, perm, mapped }] }
    let at_ := fun (s : State) (a : Nat) => s.atlbEntry (s.coreOf 0) (s.vdOf 0) (s.variantAddr 0 a)
    (meets [(s.course 0).staleI = [] && (s.course 0).loop = 0, s.variantAddr 0 65536 < 2 ^ 57 && (s.vd (s.vdOf 0)).phys 65536 = some 65536,
    (at_ s 65536).any (fun e => e.mapped && e.perm.getLsbD 2), at_ lab 65536 = none && lab.variantAddr 0 65536 < 2 ^ 57 && (lab.course 0).loop = 0,
    (at_ (entry 1 3 true) 65536).any (fun e => e.mapped && !e.perm.getLsbD 2), (at_ (entry 2 0 false) 131072).any (fun e => !e.mapped) && (lab.vd 0).phys 131072 = none,
    2 ^ 57 ≤ s.variantAddr 0 (2 ^ 57), !s.poisoned (s.vdOf 0) 65536 4 && { s with poison := [65536] }.poisoned (s.vdOf 0) 65536 4
      && !{ s with poison := [65472] }.poisoned (s.vdOf 0) 65536 4] = true) ∧ checkWord0 0 = .ok 1 ∧ ∀ m, checkWord0 0x00907354 ≠ .ok m := by
  refine ⟨by decide +kernel, rfl, ?_⟩
  intro m h
  have : (match checkWord0 0x00907354 with | .ok _ => true | .error _ => false) = false := by decide
  rw [h] at this
  cases this

/-- The state in which the next step fetches NOP. -/
def ready : State := State.reset.withFetchWord 32 0

/-- Nothing but an issue can happen in the next step, and it gives this. -/
def fetches (s : State) (p : Fetched → Bool) : Bool :=
  s.inputs = [] && tsorted 0 s.courses && s.courses.all (fun p => tsorted 0 p.2.splits) && (match s.tickOne.acts with
    | [.issue c] => p c.got
    | _ => false)

theorem hyps_of_fetches {s : State} {p : Fetched → Bool} (h : fetches s p = true) :
    s.inputs = [] ∧ tsorted 0 s.courses = true ∧ (∀ q ∈ s.courses, tsorted 0 q.2.splits = true) ∧ ∃ c, s.tickOne.acts = [.issue c] ∧ p c.got = true := by
  simp only [fetches, Bool.and_eq_true, decide_eq_true_eq, List.all_eq_true] at h
  refine ⟨h.1.1.1, h.1.1.2, h.1.2, ?_⟩
  have h := h.2
  split at h
  · exact ⟨_, ‹_›, h⟩
  · cases h

theorem test_meets_StepRunsDecoded : meets [fetches ready (· = .instr (.nopS 0 0)), fetches State.reset.loadOne.undisturbed (· = .wait 1)] = true := by decide +kernel

theorem test_meets_StepRunsEvents :
    let d : Due := { ev := { i := .dispatchSelect, arg := .nat 63 0 0 } }
    let s := { State.reset with agenda := [d] }
    s.inputs = [] ∧ s.agenda = [d] ∧ d.tick ≤ s.now + 1 ∧ s.tickOne.acts = [.due 0]
    ∧ ({ State.reset with inputs := [{ tick := 1, ev := { i := .powerGood, arg := .none } }] } : State).inputs.map (·.tick) = [1] := by decide +kernel

theorem test_meets_ExecAnswers : (opcodeOf (.nopS 0 0)).isSome = true ∧ (lab.atSplit (.nopS 0 0)).isSome = true ∧ (opcodeOf .powerGood).isSome = false := by
  decide +kernel

theorem test_meets_StepKeepsMemoryCanonical : ready.memWf = true ∧ (match step ready with | .next _ => true | _ => false) = true := by decide +kernel

/-! ### Vectors and floats -/

theorem test_meets_FloatResultsRound : (isFinite 10 0x3f800000 && isFinite 10 0xbf800000 && isFinite 10 0x80000000 && isFinite 8 0x7bff && isFinite 11 1
    && valueAt 10 0x3f800000 + valueAt 10 0x3f800000 ≠ 0 && valueAt 10 0x3f800000 + valueAt 10 0xbf800000 = 0 && valueAt 10 0x80000000 = 0) = true := by decide +kernel

theorem test_meets_FloatMinMax :
    let mag := fun (x : Nat) => x % signBit 10
    let number := fun (x : Nat) => mag x ≤ infBits 10
    let quiet := fun (x : Nat) => canonNaN 10 ≤ mag x
    floatType 10 = true ∧ number 0xff800000 ∧ quiet 0x7fc00000 ∧ quiet 0xffffffff ∧ ¬number 0x7f800001 ∧ ¬quiet 0x7f800001 ∧ ¬number 0x7fbfffff ∧ ¬quiet 0x7fbfffff := by decide

/-- A neighbour course, in a state. -/
def labTwo (st : CourseSt) : State :=
  let s := lab.setTask 0 { lab.task 0 with trec := { (lab.task 0).trec with extents := 0x8000 } }
  let e := (List.range 24).find? (fun b => extKX (1 <<< b) = 1)
  let s := s.setTask 0 { s.task 0 with trec := { (s.task 0).trec with extents := 1 <<< e.getD 0 } }
  s.setCourse 1 { s.course 0 with c := 1, slot := 1, st }

theorem test_meets_CrossLaneMoves :
    let x := xt 4 1 0 0
    let n := fun (k : Ctx) => k.s.neighbour k.cid (-1)
    meets [issues labHalves (.vnbrLeft x) (fun k => k.lw),
    issues (labK 2) (.vnbrRight { x with km := 1 }) (fun k => !k.lw && !k.active.getLsbD 31),
    issues lab (.vnbrLeft x) (fun k => k.active.getLsbD 0 && (n k).all (fun m => k.s.nbrReady m)),
    issues (labTwo .running) (.vnbrLeft x) (fun k => k.active.getLsbD 0 && n k = some 1 && k.s.nbrReady 1),
    issues (labTwo (.migrating 0)) (.vnbrLeft x) (fun k => k.active.getLsbD 0 && n k = some 1 && !k.s.nbrReady 1),
    issues lab (.vshfl (xt 4 1 0 0x7f)) (fun k => k.x.ext.extractLsb' 0 2 = 3)] = true := by decide +kernel

theorem test_meets_Reductions_IntegerReductions :
    let trapped := fun (k : Ctx) => eventOrder.find? (fun e => k.c.trapmask.getLsbD e && (k.reduced (fun l => k.active.getLsbD l)).evs.contains e)
    let nan := labC (fun c => { c with trapmask := 0x1fe, v := [(0, 0x7f800001)] })
    meets [issues lab (.vred (xt 6 0 0 0x50)) (fun k => k.x.type.toNat < 8 && k.x.sat = 0 && k.x.nwb = 0 && (k.x.ext.extractLsb' 4 3).toNat = 5 && trapped k = none), issues nan (.vred (xt 10 0 0 0)) (fun k => trapped k = some 1)] = true := by decide +kernel

/-! ### Memory -/

/-- A tensor of four elements of FP32 in the window or in memory. -/
def tensor (spad : Bool) (base : Word) : Tensor :=
  { fmt := 10, rank := 1, spad, perm := 0xe4, base, ext := [4, 1, 1, 1], str := [1, 0, 0, 0], vext := [4, 1, 1, 1], off := [0, 0, 0, 0] }

/-- A node of the group, in a state, that writes the tensor. -/
def node (st : NodeSt) (d : Tensor) : Node := { st, op := 2, d, s1 := some d }

/-- What holds when lanes reach memory. -/
def reach (need size : Nat) (as_ : Ctx → List (Nat × Nat)) (k : Ctx) : Bool := k.reaches need size (as_ k)

theorem test_meets_GlobalLoads :
    let s := labM 0 []
    let v := fun (k : Ctx) => k.lanes.map (fun l => (l, (k.srcP 0 l).toNat))
    meets [issues s (.vldX (xt 4 2 0 0)) (reach 1 4 v), issues s (.vldXl (xt 4 2 0 0) 0x1fffc) (fun k => k.reaches 1 4 (k.lanes.map (fun l => (l, 0x1fffc)))), issues s (.vldx (xt 4 2 0 0)) (reach 1 4 v), issues s (.sldX (xt 6 2 0 0)) (fun k => k.reaches 1 8 [(0, 0)]), issues s (.sldXl (xt 6 2 0 0) 0x1fff8) (fun k => k.reaches 1 8 [(0, 0x1fff8)])] = true := by decide +kernel

theorem test_meets_GlobalStores :
    let s := labM 0 []
    let busy := s.setGroup 0 { s.group 0 with nodes := [(0, node .evaluating (tensor false 0))] }
    let held := s.setCourse 0 { s.course 0 with pends := [{ id := 9, act := .access { op := .load, type := 4, size := 4, acq := some 4 } }] }
    let it : AccItem := { lane := 0, loc := .glob 0 }
    meets [issues s (.sstX (xt 7 0 0 0)) (fun k => k.reaches 2 8 [(0, 0)] && k.mayLeave && ((k.atlbTouch [0]).s.forceItems k.cid [it] 8 k.pc k.s.nextKey).2),
    issues held (.sstX (xt 7 0 0 0)) (fun k => k.reaches 2 8 [(0, 0)] && !k.mayLeave),
    issues busy (.sstX (xt 7 0 0 0)) (fun k => k.reaches 2 8 [(0, 0)] && !((k.atlbTouch [0]).s.forceItems k.cid [it] 8 k.pc k.s.nextKey).2),
    issues s (.vstX (xt 4 0 0 0)) (fun k => k.reaches 2 4 (k.lanes.map (fun l => (l, (k.srcP 0 l).toNat)))),
    issues s (.vstx (xt 4 0 0 0)) (fun k => k.reaches 2 4 (k.lanes.map (fun l => (l, (k.srcP 0 l).toNat))))] = true := by decide +kernel

theorem test_meets_ScratchpadAccesses :
    let near : Word := 0x800000
    let all' := fun (k : Ctx) (a : Nat) => k.lanes ≠ [] && k.inWindows true 4 (k.lanes.map (fun l => (l, a)))
    let banked := fun (k : Ctx) (r : Word) => k.lanes ≠ [] && (k.routedCause r 4 0).isNone && (k.routedCause r 4 1572860).isNone
    meets [issues lab (.pld (xt 4 1 0 0)) (fun k => all' k 0 && all' k 131068),
    issues lab (.pst (xt 4 0 0 0)) (fun k => all' k 0),
    issues lab (.pldr (xt 4 1 0 0) near) (fun k => banked k near),
    issues lab (.pstr (xt 4 0 0 0) 0) (fun k => banked k 0),
    issues (labK 0) (.pldr { xt 4 1 0 0 with km := 1 } near) (fun k => k.lanes = []),
    issues (labK 0) (.pstr { xt 4 0 0 0 with km := 1 } near) (fun k => k.lanes = [])] = true := by decide +kernel

theorem test_meets_AtomicsAndTags :
    let s := labM 0 []
    let v := fun (k : Ctx) => k.lanes.map (fun l => (l, (k.srcP 0 l).toNat))
    let can := fun (k : Ctx) => (k.s.forceBuffer k.cid k.pc).2 && (k.s.forceBuffer k.cid k.pc).1.canPublish k.cid
    let stalled := s.setCourse 0 { s.course 0 with pends := [{ id := 9, act := .access { op := .store, type := 4, size := 4, items := [{ lane := 0, loc := .glob 0 }] } }] }
    meets [issues s (.vatom (xt 4 2 0 0)) (reach 1 4 v),
    issues s (.vatom (xt 4 2 0 0x22)) (fun k => reach 3 4 v k && k.x.ext.getLsbD 5 && can k),
    issues stalled (.vatom (xt 4 2 0 0x22)) (fun k => reach 3 4 v k && k.x.ext.getLsbD 5 && !can k),
    issues s (.patom (xt 4 1 0 0)) (fun k => k.inWindows false 4 (k.lanes.map (fun l => (l, (k.srcV 0 l).toNat)))),
    issues s (.ratomX (xt 7 1 0 2)) (reach 3 8 (fun k => [(0, (k.srcS 0).toNat)])),
    issues { s with plat := { s.plat with readyIo := 0xff3f } } (.ratomXl (xt 6 0 0 0) route) (fun k => (k.srcS 0).toNat < 2 ^ 57 && (k.srcS 0).toNat % 8 = 0 && !k.s.routeDead route),
    issues s (.feld (xt 0 2 0 0)) (reach 1 8 v),
    issues s (.fest (xt 0 0 0 0)) (reach 2 8 v),
    issues s (.feqry (xt 0 1 0 0)) (reach 1 8 v),
    issues s (.waita (xt 6 0 0 5)) (reach 1 8 (fun k => [(0, (k.srcS 0).toNat)]))] = true := by decide +kernel

theorem test_meets_Synchronisation :
    let can := fun (k : Ctx) => (k.s.forceBuffer k.cid k.pc).2 && (k.s.forceBuffer k.cid k.pc).1.canPublish k.cid
    let none' := labC (fun c => { c with splits := [(0, { pc := 65536, mask := 0 })] })
    let stalled := lab.setCourse 0 { lab.course 0 with pends := [{ id := 9, act := .access { op := .store, type := 6, size := 4, items := [{ lane := 0, loc := .glob 0 }] } }] }
    let owned := lab.setCell 0 { lab.cell 0 with owners := [(31, .free)] }
    let busy := lab.setCourse 0 { lab.course 0 with pends := [{ id := 9, act := .access { op := .store, type := 6, size := 4, items := [{ lane := 0, loc := .win 0 0 }] } }] }
    meets [issues none' (.phase (xt 0 0 0 4)) (fun k => k.k0 = 0),
    issues lab (.bar (xt 0 0 0 0)) (fun k => k.k0 ≠ 0),
    issues lab (.fence (xt 0 0 0 0x10)) (fun k => !k.x.ext.getLsbD 3),
    issues lab (.fence (xt 0 0 0 8)) (fun k => k.x.ext.getLsbD 3 && can k),
    issues stalled (.fence (xt 0 0 0 8)) (fun k => k.x.ext.getLsbD 3 && !can k),
    issues lab (.icinv (xt 0 0 0 0)) (fun k => (k.issue []).coreInScope k.cid 0 0 && (tget (k.issue []).courses 0).isSome),
    issues lab (.sbmode (xt 0 0 0 1)) (fun k => 0 < k.g.banks.length && k.s.engineGranule k.c.group 0 = none && !k.s.bankBusy k.c.group 0),
    issues owned (.sbmode (xt 0 0 0 0)) (fun k => 0 < k.g.banks.length && k.s.engineGranule k.c.group 0 = some 31),
    issues busy (.sbmode (xt 0 0 0 1)) (fun k => 0 < k.g.banks.length && k.s.engineGranule k.c.group 0 = none && k.s.bankBusy k.c.group 0),
    issues lab (.sbmode (xt 0 0 0 4)) (fun k => k.g.banks.length ≤ 1 && (k.x.ext.extractLsb' 2 4).toNat = 1)] = true := by decide +kernel

/-! ### Tensors, nodes, the array, copies -/

/-- What GDEF and GVIEW read. -/
def reads (k : Ctx) (a : Word) (n : Nat) (p : List Byte → Bool) : Bool :=
  match k.readOperand false a n with
  | .bytes _ l => p l
  | _ => false

/-- The descriptor of `tensor true 0`, written out byte by byte (11 R310). -/
def descriptorBytes : List Byte := [10, 1, 1, 0, 0xe4] ++ List.replicate 27 0 ++ [4, 0, 0, 0, 1, 0, 0, 0, 1, 0, 0, 0, 1, 0, 0, 0] ++ [1, 0, 0, 0] ++ List.replicate 12 0
  ++ [4, 0, 0, 0, 1, 0, 0, 0, 1, 0, 0, 0, 1, 0, 0, 0] ++ List.replicate 48 0

/-- The operand of a view of 1 element at offset 0 (18 R499). -/
def viewBytes : List Byte := [0, 0xe4, 0, 0, 0, 0, 0, 0, 1, 0, 0, 0, 1, 0, 0, 0, 1, 0, 0, 0, 1, 0, 0, 0] ++ List.replicate 16 0

theorem test_meets_TensorIdentifiers :
    let gd := Instr.gdef (xt 0 0 0 0)
    let gv := Instr.gview (xt 0 0 1 0)
    let based := fun (s : State) => s.setGroup 0 { s.group 0 with tensors := [(1, tensor true 0)] }
    meets [issues (labM 0 descriptorBytes) gd (fun k => reads k 0 128 (fun l => descriptor l = some (tensor true 0) && (tensor true 0).good k.g.win)),
    issues (labM 0 [0xff]) gd (fun k => reads k 0 128 (fun l => descriptor l = none)),
    issues (labM 0 []) gd (fun k => reads k 0 128 (fun l => (descriptor l).any (fun t => !t.good k.g.win))),
    issues (based (labM 0 viewBytes)) gv (fun k => reads k 0 40 (fun l => (viewOf (tensor true 0) l).any (fun t => t.good k.g.win))),
    issues (based (labM 0 [0xff])) gv (fun k => reads k 0 40 (fun l => viewOf (tensor true 0) l = none)),
    issues (based (labM 0 [])) gv (fun k => reads k 0 40 (fun l => (viewOf (tensor true 0) l).any (fun t => !t.good k.g.win)))] = true := by decide +kernel

/-- The group with tensors at identifiers 0, 1 and 2: in the window at 0, 4096 and 8192. -/
def labT (f : Group → Group := id) (c : Course → Course := id) : State :=
  let s := labG (fun g => f { g with tensors := [(0, tensor true 0), (1, tensor true 4096), (2, tensor true 8192)] })
  s.setCourse 0 (c (s.course 0))

/-- A pending instruction of the course that waits for the cell. -/
def atCell (c : Course) : Course := { c with pends := [{ id := 9, act := .array .take }] }

theorem test_meets_TileNodes :
    let x : XFields := { xt 0 0 1 0 with sb := 2 }
    let ok := fun (op sub : Nat) (two : Bool) (b : Tensor) (k : Ctx) => nodeBad op sub (tensor true 0) (tensor true 4096) b = none
      && !overlapBad k.c.group k.vdn op (tensor true 0) (tensor true 4096) && (!two || !overlapBad k.c.group k.vdn op (tensor true 0) b)
    let added := fun (i : Instr) (k : Ctx) =>
      let n : Node := { op := 0, d := tensor true 0, s1 := some (tensor true 4096), course := k.cid, batch := k.g.nextBatch, pc := k.pc, prof := k.c.prof }
      let u := k.issueAt k.next [] (.engine (.append n)) true
      decide (i = k.i) && (u.1.appendNode k.cid u.2 n).2
    let load := Instr.tload (xt 0 0 1 0)
    meets [issues (labT) load (fun k => ok 0 0 false {} k && !k.arrayBusy && added load k),
    issues (labT id atCell) load (fun k => ok 0 0 false {} k && k.arrayBusy),
    issues (labT (fun g => { g with nodes := [(0, node .evaluating (tensor true 0))] })) load (fun k => ok 0 0 false {} k && !k.arrayBusy && !added load k),
    issues labT (.tew { x with ext := 1 }) (ok 2 1 true (tensor true 8192)),
    issues labT (.tcvt (xt 0 0 1 0)) (ok 4 0 false {}),
    issues (labG (fun g => { g with tensors := [(0, { tensor true 0 with vext := [1, 1, 1, 1] }), (1, tensor true 4096)] })) (.tred (xt 0 0 1 0))
      (fun _ => nodeBad 3 0 { tensor true 0 with vext := [1, 1, 1, 1] } (tensor true 4096) {} = none),
    issues labT (.tmma x) (fun _ => nodeBad 1 0 { tensor true 0 with vext := [1, 1, 1, 1] } (tensor true 4096) (tensor true 8192) = none)] = true := by decide +kernel

theorem test_meets_NodeAppended :
    let n := node .pending (tensor true 0)
    let r : NodeRef := { gk := 0, idx := 0, vd := 0, n }
    let quiet := fun (s : State) => (s.forceRanges 0 0 (r.ranges n.d) { pc := n.pc, course := some 0, issued := some 4 }) = (s, true) && s.camUsed 0 0 + n.camEntries ≤ 64
    meets [quiet labT && labT.vdOf 0 = 0 && (labT.group 0).freeNode = some 0,
    quiet (labT (fun g => { g with nodes := [(0, node .pending (tensor true 4096))] })) && (labT (fun g => { g with nodes := [(0, node .pending (tensor true 4096))] })).camUsed 0 0 ≠ 0] = true := by decide +kernel

theorem test_meets_TileDemands :
    let whole := (xt 0 0 0 0)
    let x := { whole with sb := 244 }
    let fails := fun (k : Ctx) (t : Tensor) => k.s.demandFails k.c.group t (k.box k.x.sb t)
    let st : XFields := { xt 0 0 0 0 with sb := 1, sc := 244 }
    meets [issues (labT id atCell) (.tforce x) (fun k => k.arrayBusy),
    issues labT (.tforce x) (fun k => !k.arrayBusy && fails k (tensor true 0) = none && !boxEmpty (k.box k.x.sb (tensor true 0))),
    issues labT (.tforce whole) (fun k => !k.arrayBusy && boxEmpty (k.box k.x.sb (tensor true 0)) && fails k (tensor true 0) = none),
    issues (labT (fun g => { g with nodes := [(0, node .pending (tensor true 0))], failed := [(1, 4)] })) (.tforce x) (fun k => fails k (tensor true 0) = some 4),
    issues labT (.tstore st) (fun k => !k.arrayBusy && (tensor true 0).fmt ≠ 12 && sameView (tensor true 0) (tensor true 4096)),
    issues (labT (fun g => { g with nextBatch := 3 }) (fun c => { c with s := [(0, 2)] })) (.twait whole) (fun k => k.g.wasClosed (k.srcS 0).toNat),
    issues labT (.twait whole) (fun k => !k.g.wasClosed (k.srcS 0).toNat),
    issues labT (.tdrop whole) (fun k => !k.arrayBusy),
    issues (labT id atCell) (.tdrop whole) (fun k => k.arrayBusy)] = true := by decide +kernel

theorem test_meets_ArrayInstructions :
    let x := xt 0 0 0 0
    let holds := labG (fun g => { g with holder := some 0 })
    let loaded := holds.setCell 0 { holds.cell 0 with plane := { fmt := some 0 } }
    let none' := fun (k : Ctx) (n : Nat) => k.rangeFault n 64 (k.srcS 0) = none
    let prm : Word := 0
    meets [issues lab (.lstat { x with sb := 244 }) (fun k => none' k (planeBytes 0) && k.scaleFault false none 768 = none),
    issues lab (.mstrm { x with sc := 244 }) (fun k => !k.s.holdsBow k.cid),
    issues (holds.setCourse 0 (atCell (holds.course 0))) (.mstrm { x with sc := 244 }) (fun k => k.s.holdsBow k.cid && k.arrayBusy),
    issues loaded (.mstrm { x with sc := 244 }) (fun k => k.s.holdsBow k.cid && !k.arrayBusy && k.streamFault 0 (k.srcS 0) prm none = none),
    issues lab (.mdrain (xt 10 0 0 0)) (fun k => none' k 4),
    issues (labS [(0, 126976), (1, 4096)]) (.ownset { x with sb := 1 }) (fun k => (k.srcS 0).toNat + (k.srcS 1).toNat ≤ k.g.win && (k.srcS 0).toNat % 4096 = 0),
    issues (labS [(0, 126976)]) (.ownq x) (fun k => (k.srcS 0).toNat < k.g.win && (k.srcS 0).toNat % 4096 = 0)] = true := by decide +kernel

theorem test_meets_CopyInstructions :
    let x : XFields := { xt 0 1 2 0 with sb := 3, sc := 4 }
    let y := { x with vd := 0 }
    let n := labS [(2, 4096), (3, 126976), (4, 4096)]
    let fits := fun (k : Ctx) => k.winFits [k.c.group] ((k.srcS 3).toNat % 2 ^ 32) (k.srcS 4).toNat
    let far := { n with plat := { n.plat with readyIo := 0xff3f } }
    let holds := fun (s : State) => (s.setGroup 0 { s.group 0 with holder := some 0 }).setCell 0 { s.cell 0 with plane := { fmt := some 0 } }
    let m := holds (labS [(2, 4096), (3, 0), (4, 4096)])
    let streamed := fun (k : Ctx) => k.s.holdsBow k.cid && !k.arrayBusy && k.streamFault 0 0 0 none = none && k.winFits [k.c.group] 0 4096
    meets [issues n (.copyX y) (fun k => fits k && (k.srcS 3).toNat < 2 ^ 21 && !k.arrayBusy),
    issues (labS []) (.copyX y) (fun k => (k.srcS 4) = 0 && fits k),
    issues (n.setCourse 0 (atCell (n.course 0))) (.copyX y) (fun k => fits k && k.arrayBusy),
    issues far (.copyXl y route) (fun k => fits k && !k.s.routeDead route),
    issues (n.setCourse 0 { n.course 0 with s := [(1, 1), (2, 4096), (3, 126976), (4, 4096)] }) (.copyX { x with ext := 2 }) (fun k => k.receivers ((k.srcS 1).toNat % 256) = some [0] && k.winFits (insertNat [0] 0) 126976 4096),
    issues lab (.copymX x) (fun k => !k.s.holdsBow k.cid),
    issues m (.copymX x) (fun k => streamed k && 1 * planeK 0 * typeSize 0 ≤ 4096),
    issues { m with plat := { m.plat with readyIo := 0xff3f } } (.copymXl x route) (fun k => streamed k && !k.s.routeDead route)] = true := by decide +kernel

/-! ### Faults, records and the instructions on handles -/

/-- The task's queue, with a fault queue; the course's task comes from it. -/
def labQ (f : Queue → Queue := id) : State :=
  let s := lab.setTask 0 { lab.task 0 with qgen := 1 }
  { s with queues := [(0, { size := 4, headva := 8192, tailva := 4096, faultq := 0x400000001 }), (1, f { kind := 2, size := 4, base := 16384, headva := 12288, tailva := 12296 })] }

theorem test_meets_FaultEntry :
    let drawn := fun (s : State) => s.draw ((s.group 0).bench / 16) (s.task 0).nest false
    let passed := fun (s : State) => (s.course 0).passed || (s.task 0).passed || s.isPast (s.course 0).deadline
    let level := fun (n : Nat) => labQ.setTask 0 { labQ.task 0 with nest := n }
    let free := fun (s : State) => s.sec.dbg = [] && (s.course 0).alive && !passed s && drawn s = .record 0 && !(s.record 0).used
    let found := fun (s : State) => s.findQueue 1 = some 0 && (s.queue 0).faultq ≠ 0 && s.findQueue (s.queue 0).faultq = some 1
    let fits := fun (q : Queue) (v : VDev) =>
      let slot := q.base.toNat + 128 * (q.tail % 2 ^ q.size)
      q.inited && (q.tail + 2 ^ 32 - q.head) % 2 ^ 32 < 2 ^ q.size && v.mapsAll slot 128 && v.mapsAll q.tailva.toNat 8 && v.allows slot 128 1 && v.allows q.tailva.toNat 8 1
    meets [passed (labQ.setCourse 0 { labQ.course 0 with passed := true }) && passed { labQ.setCourse 0 { labQ.course 0 with deadline := some 0 } with now := 1 } && drawn labQ = .record 0,
    drawn (level 2) = .nestKill,
    free lab && lab.findQueue 0 = none,
    free labQ && found labQ && fits (labQ.queue 1) (labQ.vd 0) && labQ.recs = [],
    free (labQ fun q => { q with st := .draining }) && found (labQ fun q => { q with st := .draining }),
    free (labQ fun q => { q with st := .stopped }) && found (labQ fun q => { q with st := .stopped })] = true := by decide +kernel

/-- Records lo to lo + n - 1, all in use. -/
def usedRecs : Nat → Nat → FMap PRec
  | 0, _ => []
  | n + 1, lo => (lo, { used := true }) :: usedRecs n (lo + 1)

theorem tget_usedRecs (n : Nat) : ∀ lo k, lo ≤ k → k < lo + n → tget (usedRecs n lo) k = some { used := true } := by
  induction n with
  | zero => intro lo k h h'; omega
  | succ n ih =>
    intro lo k h h'
    by_cases e : lo = k
    · simp [usedRecs, tget, e]
    · simp only [usedRecs, tget, if_neg e, if_neg (show ¬k < lo by omega)]
      exact ih (lo + 1) k (by omega) (by omega)

theorem lowestFree_none (s : State) (n : Nat) : ∀ lo, (∀ k, lo ≤ k → k < lo + n → (s.record (recKey 0 k)).used = true) → s.lowestFree 0 lo n = none := by
  induction n with
  | zero => intro lo _; rfl
  | succ n ih =>
    intro lo h
    rw [State.lowestFree, if_pos (h lo (by omega) (by omega))]
    exact ih (lo + 1) (fun k hk hk' => h k (by omega) (by omega))

/-- 06 R179: with every ordinary record of the die in use, a fault of a task of level 0 waits. -/
theorem test_meets_FaultEntry_wait : ({ lab with recs := usedRecs 8192 0 } : State).draw 0 0 false = .wait := by
  have h := lowestFree_none { lab with recs := usedRecs 8192 0 } 8192 0 (fun k hk hk' => by
    rw [recKey, State.record, tgetD, tget_usedRecs 8192 0 _ (by omega) (by omega)]; rfl)
  simp only [State.draw, h]
  rfl

theorem test_meets_FaultTask :
    let q := labQ.queue 1
    let slot := q.base.toNat + 128 * (q.tail % 2 ^ q.size)
    let v := labQ.vd q.vd
    let r := labQ.record 0
    (v.mapsAll slot 128 && v.mapsAll q.tailva.toNat 8 && v.allows slot 128 1 && v.allows q.tailva.toNat 8 1 && r.cause < 256 && r.event < 16 && r.kind < 16 && r.nest < 3) = true := by decide +kernel

/-- The course parked under record 0. -/
def labR (r : PRec) (ps : List Pend := []) : State :=
  (lab.setRecord 0 r).setCourse 0 { lab.course 0 with st := .parked 0 0, pends := ps }

theorem test_meets_ReturnFromFault :
    let mine := fun (s : State) => (s.record 0).used && (s.record 0).kind = 0 && (s.record 0).gen < 2 ^ 32
    let r : PRec := { used := true, cause := 0x13, pc := 65536, nextpc := 65548 }
    let late := { r with late := true, cause := 1, pend := some 4 }
    let access : Access := { op := .load, type := 4, size := 4 }
    let p : Pend := { id := 4, act := .access access }
    let wide : Pend := { id := 4, act := .access { access with items := [{ lane := 31, loc := .glob 131068 }] } }
    meets [mine (labR r) && !r.late && r.pend = none && r.target.toNat % 4 = 0,
    (labR late [p]).leftLanes 0 p late.mask = none && ((labR late [wide]).leftLanes 0 wide late.mask).isSome, mine (labR late [p]) && late.late && ((labR late [p]).course 0).pends.find? (fun p => p.id = 4) = some p,
    mine (labR { r with target := 2 }) && (2#64).toNat % 4 ≠ 0,
    mine (labR { r with cause := 0x0d, cx := 5 }) && mine (labR { r with gen := 0xffffffff })] = true := by decide +kernel

theorem test_meets_StateAccesses :
    let s := labR { used := true, cause := 0x13 }
    let b := labR { used := true, cause := 0x0d }
    let h := s.recHandle 0
    let latched := (s.setTask 0 { s.task 0 with interlock := true }).setCourse 0 { s.course 0 with prof := false }
    meets [s.findRec (h + 1) 0 = none && s.findRec h 0 = some 0 && s.findRec h 1 = none,
    b.findRec h 0 = some 0 && (0xffffffffff : Word).toNat < 2 ^ 40 && 2 ^ 40 ≤ (0x10000000000 : Word).toNat,
    s.regStatus 0 0 63 = 0 && s.regStatus 0 1 63 = 0 && s.regStatus 0 2 7 = 0 && latched.regStatus 0 3 3 = 0,
    s.regStatus 0 0 64 ≠ 0 && s.regStatus 0 1 64 ≠ 0 && s.regStatus 0 2 0 ≠ 0 && s.regStatus 0 2 8 ≠ 0 && s.regStatus 0 3 0 ≠ 0 && latched.regStatus 0 3 4 ≠ 0] = true := by decide +kernel

theorem test_meets_HandleInstructions :
    let s := labM 0 []
    let away := s.setCourse 0 { s.course 0 with s := [(0, 0x0010000000000000)] }
    let dead := fun (k : Ctx) (h : Word) => h.extractLsb' 52 12 ≠ k.s.fab.modid && k.s.moduleRoute (h.extractLsb' 52 12).toNat = none
    let can := fun (k : Ctx) => (k.s.forceBuffer k.cid k.pc).2 && (k.s.forceBuffer k.cid k.pc).1.canPublish k.cid
    let stalled := s.setCourse 0 { s.course 0 with pends := [{ id := 9, act := .access { op := .store, type := 4, size := 4, items := [{ lane := 0, loc := .glob 0 }] } }] }
    let read := fun (k : Ctx) => reads k (k.srcS 1) 128 (fun l => l.length = 128)
    let i := { xt 0 0 0 0 with sb := 1 }
    meets [issues away (.pkrd (xt 0 0 0 0)) (fun k => dead k (k.c.readS k.il k.free 0)),
    issues s (.pkrd (xt 0 0 0 0)) (fun k => !dead k (k.c.readS k.il k.free 0)),
    issues s (.pkvset (xt 0 0 0 2)) (fun k => !dead k 0),
    issues away (.qstat (xt 0 0 0 0)) (fun k => dead k (k.srcS 0)),
    issues s (.qstat (xt 0 0 0 1)) (fun k => !dead k (k.srcS 0)),
    issues s (.enq i) (fun k => read k && !dead k (k.srcS 0)),
    issues away (.enq i) (fun k => read k && dead k (k.srcS 0)),
    issues s (.enq { i with ext := 2 }) (fun k => read k && can k),
    issues stalled (.enq { i with ext := 2 }) (fun k => reads k (k.srcS 1) 128 (fun _ => true) && !can k)] = true := by decide +kernel

/-! ## Clauses of the statements about power, requests and commands -/

/-- The state with data for an event. -/
def told (s : State) (a : EvArg) : State := { s with arg := a }

/-- Three numbers for an event. -/
def nums (s : State) (a b c : Nat) : State := told s (.nat a b c)

def labP (p : Plat) : State := { lab with plat := p }

theorem test_meets_BringUp : meets [State.reset.plat.since = none, lab.plat.since ≠ none] = true := by decide +kernel

theorem test_meets_Readiness :
    let p := lab.plat
    let down := { lab with plat := { p with readyFace := 0, readyBench := 0 }, now := 8000000000 }
    let up := { lab with plat := { p with readyIo := 0x803f } }
    let may := fun (s : State) (f : Func) (b : Nat × Nat) => funcBit f = some b && s.mayReady f && !s.plat.isReady b && !s.plat.isFailed b && s.plat.since = some 0
      && !s.sec.bootfail && 0 + funcTicks f ≤ down.now
    meets [lab.now ≤ 0 + funcTicks (.bench 63) && 0 + funcTicks (.bench 63) < down.now && 0 + funcTicks (.gliron 7 1 0) ≤ down.now, may lab (.gliron 7 1 0) (0, 15) && (1 : BitVec 12) ≠ lab.fab.modid, may down (.face 31) (1, 31) && p.isReady (0, 2 + 31 / 8), may down (.bench 63) (2, 63) && p.isReady (0, 2 + 63 / 16),
    may { lab with plat := { p with readyIo := 0 } } .mgmt (0, 1),
    funcBit (.bench 63) = some (2, 63) && p.isReady (2, 63) && funcBit (.gliron 7 1 0) = some (0, 15) && up.plat.isReady (0, 15), funcBit (.die 3) = some (0, 5) && p.isReady (0, 5)] = true := by decide +kernel

theorem test_meets_PowerRequests :
    let p := lab.plat
    let fine := fun (p : Plat) => !p.busy && p.cur ≠ .off
    meets [fine { p with cur := .p1 } && !(p.therm || p.cap), fine { p with cur := .p1, therm := true }, fine p && p.cur = .p0, fine { p with cur := .retention, before := .p1 }] = true := by
  decide +kernel

theorem test_meets_PowerTransitionsEnd :
    let p := { lab.plat with busy := true }
    meets [p.busy && !p.therm && !p.cap && { p with going := Power.p1, target := .p1 }.cur = .p0,
    ({ p with going := Power.p0, cur := .p1 }).target = .p0,
    (labP { p with going := .retention, target := .retention }).idleNow,
    ({ p with cur := Power.retention, before := .p1, target := .p1 }).target = .p1] = true := by decide +kernel

theorem test_meets_ForcesAndTrip :
    let p := lab.plat
    meets [p.cur ≠ .off && !p.busy && p.cur = .p0 && p.target = .p0, !{ p with cur := Power.p1, therm := true }.busy, { p with busy := true }.busy,
    decide ((nums lab 1 0 0).arg = .nat 1 0 0)] = true := by decide +kernel

theorem test_meets_MeshLinkFails :
    let two := lab.setDie 0 { lab.die 0 with linksDown := [1, 2] }
    let last := fun (s : State) (x y : Nat) => (insertNat (s.die x).linksDown y).length = 3
    meets [(3 : Nat) ∉ (lab.die 0).linksDown && lab.plat.cur ≠ .off && !last lab 0 3 && !last lab 3 0, last two 0 3 && (3 : Nat) ∉ (two.die 0).linksDown,
    last (lab.setDie 3 { lab.die 3 with linksDown := [1, 2] }) 3 0] = true := by decide +kernel

/-- A module with an owner, both command channels and one data queue pair of device 0. -/
def host : State :=
  { lab with sec := { lab.sec with st := .openState }
             host := { lab.host with qps := [(0x100, {}), (0x100000, { vd := some 0 }), (0x100001, { vd := some 0 })], mrs := [(5, { vd := 0, va := 0, len := 131072, perm := 3, rkey := 5 })] } }

theorem test_meets_RocePackets :
    let q : Qp := { vd := some 0 }
    let w : RocePkt := { qpn := 0x100001, va := 131070, rkey := 5, data := [1, 2] }
    let r : RocePkt := { qpn := 0x100001, va := 131070, rkey := 5, len := 2 }
    let v := host.vd 0
    let m : RocePkt := { qpn := 0x100, data := 0 :: 1 :: List.replicate 254 0 }
    let fits := fun (p : RocePkt) => p.psn = q.psn && p.data.length ≤ q.mtuBytes
    let dark := { host with plat := { host.plat with readyFace := 0 } }
    meets [host.hostReady && tget host.host.qps 0x100001 = some q && !q.err && host.plat.cur ≠ .retention && !w.ecn && fits w && fits r && fits { w with data := List.replicate 1024 0 }
      && 78 + 1025 ≤ 9216,
    host.granted q 0 w 2 1 && 2 ^ 57 ≥ w.va.toNat + 2 && v.mapsAll 131070 2 && v.allows 131070 2 1 && !host.faceDown 0 131070 2,
    dark.faceDown 0 131070 2 && dark.granted q 0 w 2 1 && dark.hostReady, !host.granted q 0 { w with va := 131071 } 2 1,
    host.granted q 0 r 2 0 && v.allows 131070 2 0 && !host.poisoned 0 131070 2 && host.readsHeld 0x100001 < 64, !host.granted q 0 { r with rkey := 6 } 2 0,
    isCmdQp m.qpn && 16 ≤ m.data.length && m.data.length ≤ 256 && (cmdInstr (fieldB m.data 1 1)).isSome && fits m && tget host.host.qps 0x100 = some {},
    ((0x7fffff : BitVec 24) - q.psn).toNat < 2 ^ 23 && (1 : BitVec 24) ≠ q.psn, 2 ^ 23 ≤ ((0x800000 : BitVec 24) - q.psn).toNat && 2 ^ 23 ≤ ((0xffffff : BitVec 24) - q.psn).toNat,
    q.mtuBytes < { w with data := List.replicate 1025 0 }.data.length] = true := by decide +kernel

theorem test_meets_HostPortCounts :
    let c : EvChan := { queued := [[1]] }
    let s := { host with chans := [(0, c), (64, c)] }
    meets [host.hostReady && host.host.held = [] && host.host.pause = (0 : BitVec 8), tget host.host.qps 0x100 ≠ none && tget host.vds 0 ≠ none && (tgetD host.chans 0 {}).dropped = 0 && (tgetD host.chans 64 {}).queued = [],
    host.plat.cur ≠ .retention && (0x0801 : Nat) ≠ 0x0800 && (0x0801 : Nat) ≠ 0x86dd && (0x0801 : Nat) ≠ 0x88b5 && (0x0801 : Nat) ≠ 0x8808 && 9216 < 9217,
    tgetD s.chans 64 {} = c && tgetD s.chans 0 {} = c && c.dropped = 0 && c.space = 0 && s.host.pause = (0 : BitVec 8)] = true := by decide +kernel

/-- A management request with a body. -/
def frame (opc : Nat) (body : List Byte) (session : Option Nat := none) : MgmtFrame := { opc := BitVec.ofNat 8 opc, body, session }

/-- The management port takes requests. -/
def managed (s : State) (f : MgmtFrame) : Bool := (told s (.frame f)).mgmtUp && !s.sec.bootfail && f.ver = 1 && !f.short

/-- The module is locked. -/
def locked : State := { host with sec := { host.sec with st := .locked } }

theorem test_meets_RegisterFrames :
    let body := fun (off n : Nat) => leBytes 8 off ++ leBytes 8 n
    let reg := fun (off : Nat) (r : Reg) => fieldB (body off 1) 0 8 = off && fieldB (body off 1) 8 2 = 1 && off % 8 = 0 && regAt off = some r
    meets [managed host (frame 1 (body 0x100 1)) && (frame 1 (body 0x100 1)).body.length = 16 && reg 0x100 .readyIo && reg 0x278 (.glStat 7) && reg 0x628 (.hpStat 5),
    fieldB (body 0x101 1) 0 8 % 8 ≠ 0,
    locked.sec.st = .locked && locked.standing (frame 2 (body 0x208 1)) ≠ 1 && regAt 0x208 = some .fabCfg && Reg.fabCfg ≠ .pwrCtl,
    host.sec.st ≠ .locked && Reg.fabCfg.acts = false] = true := by decide +kernel

/-- One of two offsets has no register, wherever the trip record stands. -/
theorem test_meets_RegisterFrames_none : regAt 0 = none ∨ regAt 16 = none := by
  by_cases h : Config.tripAt = 0
  · exact .inr (by simp [regAt, firstReg, arrayIndex, h])
  · exact .inl (by simp [regAt, firstReg, arrayIndex]; rw [if_neg (by omega)])

theorem test_meets_RegisterWrites :
    let slotted := labG (fun g => { g with slot := some (0, 65536) })
    meets [tsorted 0 lab.vdRegs && tsorted 0 lab.fab.routes && tsorted 0 lab.fab.peering, lab.plat.readyIo.extractLsb' 8 8 = 0,
    (labP { lab.plat with readyIo := 0x8000 }).plat.readyIo.extractLsb' 8 8 ≠ 0, !lab.slotsReserved 0, slotted.slotsReserved 0] = true := by decide +kernel

/-- The digest of 03 R68 of "abc", as FIPS 180-4 prints it; a block of AES-256, as FIPS 197 prints it. -/
theorem test_sha384 : beNat (sha384 [0x61, 0x62, 0x63]) =
    0xcb00753f45a35e8bb5a03d699ac65007272c32ab0eded1631a8b605a43ff5bed8086072ba1e7cc2358baeca134c825a7 := by decide +kernel

theorem test_aes256 : beNat (aesEnc ((List.range 32).map (BitVec.ofNat 8)) ((List.range 16).map (fun i => BitVec.ofNat 8 (17 * i)))) =
    0x8ea2b7ca516745bfeafc49904b496089 := by decide +kernel

/-- A module with one finished session of SPDM. -/
def spdm (s : State) (standing : Nat := 0) (x : Spdm := {}) : State := { s with sec := { s.sec with spdm := [(0, { x with finished := true, standing })] } }

theorem test_meets_ManagementRequests :
    let z := fun (n : Nat) => List.replicate n (0 : Byte)
    meets [managed locked (frame 3 (z 32)) && locked.standing (frame 3 (z 32)) ≠ 1 && (frame 3 (z 32)).body.length = 32,
    host.sec.st ≠ .locked && host.hostReady && fieldB (z 32) 24 1 ≤ 2,
    (spdm locked 1).standing (frame 4 [] (some 0)) = 1,
    (spdm host).mgmtUp && tget (spdm host).sec.spdm 0 = some { finished := true } && fieldB (1 :: z 193) 0 1 = 1 && fieldB (2 :: z 193) 0 1 = 2,
    isRequest 0x21 && !isRequest 6 && !isRequest 0x32 && !longFrame (frame 6 (z 9182)) && longFrame (frame 6 (z 9183))] = true := by decide +kernel

/-- A protected message of version 1 and opcode 4 opens in a session whose key and nonce are zero. -/
theorem test_meets_ManagementRequests_secured :
    let x : Spdm := { key := List.replicate 32 0, iv := List.replicate 12 0 }
    let f := frame 0x31 ([0, 0, 0, 0, 20, 0] ++ beBytes 20 0xcca741394af3879c9bfeea934990e38f9c9cf388)
    (tget (spdm host 0 x).sec.spdm (fieldB f.body 2 2) = some { x with finished := true } ∧ managed host f = true ∧ 6 ≤ f.body.length ∧ longFrame f = false)
    ∧ ({ x with finished := true } : Spdm).opened f.body = some [1, 4] ∧ (frameOf 0 0 [1, 4]).ver = 1 ∧ (frameOf 0 0 [1, 4]).opc = 4 ∧ (frameOf 0 0 []).ver ≠ 1 := by
  decide +kernel

/-- What the clauses ask besides a signature that verifies, which is a free value of Config. -/
theorem test_meets_SecurityRequests :
    let z := fun (n : Nat) => List.replicate n (0 : Byte)
    let lock := z 97 ++ leBytes 8 1 ++ z 96
    let opened := { host.sec with counter := 0 }
    let slept := labP { lab.plat with cur := .retention }
    meets [managed slept (frame 0x10 (z 152)) && slept.sec.st = .unprovisioned, lab.plat.cur ≠ .retention && managed lab (frame 0x10 (z 152)) && lab.sec.st = .unprovisioned && host.sec.st ≠ .unprovisioned,
    managed host (frame 0x11 lock) && lock.length = 201 && opened.counter < fieldB lock 97 8 && !opened.updating && opened.level ≠ 2,
    fieldB (z 201) 97 8 ≤ opened.counter, { opened with stage := FwStage.verifying }.updating, { opened with dbg := [(0, { level := 2 })] }.level = 2,
    locked.standing (frame 0x12 lock) ≠ 1, (spdm locked 1).standing (frame 0x12 lock (some 0)) = 1] = true := by decide +kernel

/-- A digest that is the owner's, and one that is not. A signature that verifies is over bytes of free values. -/
theorem test_meets_SecurityRequests_digest (key : List Byte) :
    ({ host.sec with ownerHash := sha384 key }).ownerHash = sha384 key ∧ sha384 key ≠ ({ host.sec with ownerHash := 0 :: sha384 key }).ownerHash :=
  ⟨rfl, (List.cons_ne_self 0 (sha384 key)).symm⟩

theorem test_meets_FirmwareUpdate :
    let z := fun (n : Nat) => List.replicate n (0 : Byte)
    let r := { host.sec with stage := FwStage.receiving, updLen := 4097 }
    let s := { host with sec := r }
    let data := z 4 ++ leBytes 4 4096 ++ [7]
    meets [managed host (frame 0x18 (z 209)) && host.sec.dbg = [] && !host.plat.busy && host.plat.cur = .p0 && !host.sec.updating && host.sec.st ≠ .locked && host.sec.st ≠ .unprovisioned,
    managed s (frame 0x19 data) && fieldB data 4 4 % 4096 = 0 && fieldB data 4 4 + (data.drop 8).length ≤ r.updLen && fieldB data 0 4 = r.update && r.st ≠ .locked && data.length ≤ 8200,
    host.sec.stage ≠ .receiving, fieldB (z 4 ++ leBytes 4 4095) 4 4 % 4096 ≠ 0,
    { r with updLen := 33554432 }.updLen ≤ 33554432 && 33554432 < { r with updLen := 33554433 }.updLen] = true := by decide +kernel

theorem test_meets_DebugSessions :
    let body := fun (n level : Nat) => [BitVec.ofNat 8 n, BitVec.ofNat 8 level] ++ List.replicate 6 0 ++ leBytes 8 4096 ++ leBytes 8 126976
    let s := { host with sec := { host.sec with dbg := [(0, { vd := 0, level := 2 })] } }
    let v := host.vd 0
    let halted := s.setCourse 0 { s.course 0 with st := .halted }
    let whole := { s with sec := { s.sec with dbg := [(0, { vd := 255, level := 2 })] } }
    meets [managed host (frame 0x20 (body 0 2)) && (body 0 2).length = 24 && host.sec.st ≠ .unprovisioned && fieldB (body 0 3) 1 1 = 3 && fieldB (body 0 0) 1 1 = 0,
    tget host.vds 1 = none && fieldB (body 1 1) 0 1 = 1, { v with conf := true }.conf,
    host.sec.dbg.length < 8 && 126976 % 4096 = 0 && 4096 + 126976 ≤ 2 ^ 57 && v.mapsAll 4096 126976 && v.allows 4096 126976 1 && tget host.sec.dbg 0 = none
      && host.sec.st ≠ .locked && !host.sec.updating && !v.conf,
    tget s.sec.dbg 1 = none && tget s.sec.dbg 0 = some { vd := 0, level := 2 } && s.vdOf 0 = 0 && s.plat.cur ≠ .retention && (frame 0x21 (body 0 0)).src = 0 && s.sec.st ≠ .locked,
    tget whole.sec.dbg 0 = some { vd := 255, level := 2 } && whole.sec.st ≠ .locked && whole.plat.cur ≠ .retention, (0 : Nat) ≠ 255,
    (s.course 0).st = .running && tget s.courses 0 ≠ none && (s.vd (s.vdOf 0)).mapsAll 131071 1,
    (halted.course 0).st = .halted && tget halted.courses 0 ≠ none, tget host.sec.dbg 0 = none && tget host.courses 0 ≠ none] = true := by decide +kernel

theorem test_meets_SpdmRequests :
    let f := frame 0x30 [0x12, 0x82, 0, 0, 0, 0, 4, 0]
    let g := frame 0x30 [0x10, 0x84, 0, 0]
    let all' := { host with sec := { host.sec with spdm := (List.range 8).map (fun n => (n, {})) } }
    let seven := { host with sec := { host.sec with spdm := (List.range 7).map (fun n => (n, {})) } }
    meets [managed host f && f.opc = 0x30 && 8 ≤ f.body.length && !longFrame f && fieldB f.body 1 1 = 0x82 && fieldB f.body 0 1 = 0x12 && fieldB f.body 2 1 % 16 = 0 && fieldB [0x12, 0x82, 1, 0] 2 1 % 16 ≠ 0,
    managed host g && 4 ≤ g.body.length && fieldB g.body 0 1 = 0x10 && fieldB g.body 1 1 = 0x84, fieldB [0x13, 0xe0, 0, 0xff] 3 1 = 0xff && fieldB [0x13, 0xe0, 0, 0] 3 1 = 0,
    host.measurements.find? (fun y => y.1 = 1) ≠ none, (List.range 8).all (fun i => tget all'.sec.spdm i ≠ none), tget seven.sec.spdm 7 = none && (List.range 7).all (fun i => tget seven.sec.spdm i ≠ none),
    f.session = none, tget all'.sec.spdm 0 = some {}, (tgetD (spdm host).sec.spdm 0 {}).finished && host.sec.dbg = [] && tsorted 0 (spdm host).sec.spdm] = true := by decide +kernel

/-- A command message arrives on its channel. -/
def heard (s : State) (c : Cmd) (n : Nat) : Bool :=
  s.hostReady && s.plat.cur ≠ .retention && isCmdQp c.qpn && (tget s.host.qps c.qpn).any (fun q => !q.err && q.vd.getD 0 = n)

/-- A command message that `heard` admits is one that the statements hear. -/
theorem hears_of_heard {s : State} {c : Cmd} {n : Nat} (h : heard s c n = true) : (told s (.cmd c)).hears c n := by
  simp only [heard, Bool.and_eq_true, decide_eq_true_eq, Option.any_eq_true] at h
  obtain ⟨⟨⟨h1, h2⟩, h3⟩, q, h4, h5⟩ := h
  exact ⟨rfl, h1, h2, h3, q, h4, by simpa using h5.1, h5.2⟩

/-- A command message of version 3 with parameters, on the module's channel or that of device 0. -/
def cmd (opc : Nat) (params : List Byte) (own : Bool := false) : Cmd :=
  { qpn := if own then 0x100 else 0x100000, opc := BitVec.ofNat 8 opc, len := params.length, params, sendLen := 16 + params.length }

/-- Such a message has the form that the statements ask of it. -/
theorem has_of_cmd (opc : Nat) (params : List Byte) (own : Bool) (h : opc < 256) : cmdHas (cmd opc params own) opc params.length own := by
  refine ⟨rfl, ?_, ?_, rfl, rfl⟩
  · simp only [cmd, BitVec.toNat_ofNat]; omega
  · cases own <;> simp [cmd]

/-- The device takes commands, and none that holds it to itself waits. -/
def serves (s : State) (n : Nat) : Bool :=
  !(s.vd n).destroying && !(s.vd n).awaits && !s.vdWaits n

theorem serves_of_serves {s : State} {n : Nat} (h : serves s n = true) : s.serves n ∧ s.unheld n := by
  simp only [serves, Bool.and_eq_true, Bool.not_eq_true'] at h
  exact ⟨h.1, h.2, h.1.1⟩

theorem test_meets_CommandForms :
    let z := cmd 0x20 []
    meets [heard host { z with ver := 1 } 0 && heard host { z with ver := 4 } 0 && heard host (cmd 0x2c [] true) 0 && (cmdInstr 0x2c).isSome,
    heard host { z with ver := 2, opc := 8 } 0 && (cmdInstr 8).isSome && (cmdInstr 0xc).isSome,
    heard host { z with sendLen := 17 } 0 && (cmdInstr 0x20).isSome] = true := by decide +kernel

/-- The first device with one mapping less, and other changes. -/
def dev (f : VDev → VDev) (s : State := host) : State := s.setVd 0 (f (s.vd 0))

theorem test_meets_DeviceCommands :
    let p := leBytes 8 4 ++ leBytes 2 256 ++ leBytes 2 1 ++ leBytes 4 0 ++ leBytes 8 1 ++ List.replicate 40 0
    let c := cmd 1 p true
    let gone := dev (fun v => { v with destroying := true }) { host with tasks := [] }
    let fuller := { host with vds := (List.range 63).map (fun n => (n, {})) }
    meets [heard host c 0 && p.length = 64 && host.sec.st ≠ .unprovisioned && fieldB p 0 8 = 4 && fieldB p 8 2 = 256 && fieldB p 10 2 = 1 && fieldB p 16 8 ≠ 0
      && fieldB (p.drop 24) 24 1 ≤ 2 && !c.flags.getLsbD 0 && tget host.vds 1 = none && tget host.vds 0 ≠ none && host.host.qps.length < 8192
      && (host.vds.map (·.2.memq)).foldl (· + ·) 0 + 4 ≤ 786432,
    tget fuller.vds 63 = none && (List.range 63).all (fun i => tget fuller.vds i ≠ none), locked.sec.st = .locked && heard locked c 0,
    heard { host with sec := lab.sec } c 0 && lab.sec.st = .unprovisioned,
    heard host (cmd 2 (leBytes 8 1) true) 0 && tget host.vds (fieldB (leBytes 8 1) 0 1) = none,
    heard host (cmd 2 (leBytes 8 0) true) 0 && serves host 0 && host.vdQueues 0 = [] && tget host.vds 0 ≠ none,
    ((dev (fun v => { v with mig := .resuming })).vd 0).awaits && !((dev (fun v => { v with mig := .resuming })).vdWaits 0),
    (gone.vd 0).destroying && gone.vdQueues 0 = [] && (gone.vdTasks 0).all (fun q => q.2.st = .done) && tsorted 0 gone.vds,
    heard host (cmd 0x2c []) 0 && serves host 0] = true := by decide +kernel

theorem test_meets_ChannelCommands :
    let z := List.replicate 32 (0 : Byte)
    let reg := leBytes 8 0x100 ++ leBytes 8 1
    let taken := { host with host := { host.host with qps := (List.range 256).map (fun n => (0x100000 + n, { vd := some 0 })) } }
    let two := dev (fun v => { v with qpq := 3 })
    let mr := { host with host := { host.host with mrs := [(5, { vd := 1, va := 0, len := 4, perm := 3, rkey := 5 })] } }
    meets [heard host (cmd 0x10 reg true) 0 && reg.length = 16 && regAt (fieldB reg 0 8) = some .readyIo && fieldB reg 8 2 = 1 && regAt 0x208 = some .fabCfg,
    heard two (cmd 0x20 z) 0 && fieldB z 24 1 ≤ 2 && tget host.host.qps 0x100002 = none && tget host.host.qps 0x100001 ≠ none
      && (two.vdQps 0).length < 3 && (two.allQps 0).length < 256 && host.host.qps.length < 8192 && !(two.vd 0).destroying,
    (host.vd 0).qpq ≤ (host.vdQps 0).length, (taken.vdQps 0).length = 256 && tget taken.host.qps 0x1000ff ≠ none, 256 ≤ (taken.allQps 0).length,
    heard host (cmd 0x21 (leBytes 8 0x100001)) 0 && serves host 0 && tget host.host.qps 0x100001 = some { vd := some 0 } && 0x100001 % 256 ≠ 0 && 0x100000 % 256 = 0
      && tget host.host.qps 0x100002 = none,
    heard host (cmd 0x24 (List.replicate 24 0)) 0 && (host.host.mrs.filter (fun e => e.2.vd = 0)).length < 1024 && host.sched = [] && host.host.mrs.length + host.vds.length < 2 ^ 32 - 1,
    heard host (cmd 0x25 (leBytes 8 5)) 0 && (tget host.host.mrs 5).any (fun r => r.vd = 0) && tget host.host.mrs 6 = none,
    heard mr (cmd 0x25 (leBytes 8 5)) 0 && (tget mr.host.mrs 5).any (fun r => r.vd ≠ 0)] = true := by decide +kernel

theorem test_meets_MappingCommands :
    let p := fun (va len : Nat) => leBytes 8 va ++ leBytes 8 len ++ [0, 7, 0, 0] ++ leBytes 4 1 ++ List.replicate 8 0
    let q := p 131072 65536
    let s := dev (fun v => { v with memq := 8 })
    let idle := { host with tasks := [], waits := [] }
    let w : CmdWait := { cmd := cmd 0x23 (leBytes 8 0 ++ leBytes 8 131072), vd := 0, obj := 0, len := 131072 }
    meets [heard s (cmd 0x22 q) 0 && serves s 0 && q.length = 32 && fieldB q 0 8 % pageBytes 0 = 0 && fieldB q 8 8 = 65536 && fieldB q 20 4 = 1 && !s.rangeWaits 0 131072 65536,
    fieldB (p 131073 65536) 0 8 % pageBytes 0 ≠ 0, (s.vd 0).maps.any (fun x => x.va < 65536 + 65536 && 65536 < x.va + x.len),
    (s.vd 0).maps.all (fun x => !(x.va < 131072 + 65536 && 131072 < x.va + x.len)) && unitsOf ({ va := 131072, len := 65536 } :: (s.vd 0).maps) ≤ (s.vd 0).memq
      && (s.backing [0] 65536 1 0 []).isSome && s.queues = [] && s.memWf,
    (host.vd 0).memq < unitsOf ({ va := 131072, len := 2097152 } :: (host.vd 0).maps),
    heard idle (cmd 0x23 (leBytes 8 0 ++ leBytes 8 131072)) 0 && serves idle 0 && (idle.vd 0).maps.all (fun x => 0 ≤ x.va && x.va + x.len ≤ 131072 && x.len % pageBytes x.page = 0)
      && !idle.rangeWaits 0 0 131072,
    (idle.vd 0).maps.all (fun x => x.va + x.len ≤ 131072), ({ host with waits := [w] } : State).waits = [w] && w.cmd.opc = 0x23 && w.cmd.ver = 3] = true := by decide +kernel

/-- The device with a queue, and bytes of memory. -/
def ring (f : Queue → Queue := id) (a : Nat := 0) (l : List Byte := []) : State :=
  { dev (fun v => { v with queueq := 8 }) with queues := [(0, f { size := 4, base := 16384, tailva := 4096, headva := 8192, inited := true })], dram := Memory.writeL [] a l }

theorem test_meets_QueueCommands :
    let p := leBytes 8 16384 ++ leBytes 8 4096 ++ leBytes 8 8192 ++ List.replicate 24 0 ++ [4, 0, 63] ++ List.replicate 77 0
    let c := cmd 0x28 p
    let s := ring
    let h := leBytes 8 1
    let named := fun (s : State) => s.findQueue 1 = some 0 && (s.queue 0).vd = 0
    let drained := { ring (fun q => { q with st := .draining }) with tasks := [], waits := [{ cmd := cmd 0x29 h, vd := 0, obj := 0 }] }
    meets [heard s c 0 && serves s 0 && p.length = 128 && (s.vd 0).mig = .none && (s.vd 0).ck = .running && fieldB p 48 1 = 4 && fieldB p 50 1 % 64 = 63 && (s.vd 0).benches.getLsbD 63
      && s.plat.readyBench.getLsbD 63 && !(s.queue 1).live && (s.queue 0).live && (s.vdQueues 0).length < (s.vd 0).queueq && s.readFail 0 4096 8 = none && s.writeFail 0 8192 8 = none,
    heard s (cmd 0x2a h) 0 && named s && !(s.vd 0).awaits, s.findQueue 2 = none,
    heard s (cmd 0x2b h) 0 && !s.queueWaits 0 && (s.queue 0).st ≠ .error && named (ring (fun q => { q with st := .error })) && s.writeFail 0 (s.queue 0).headva.toNat 8 = none,
    ({ cmd 0x2b h with flags := 1 } : Cmd).flags.getLsbD 0,
    drained.queueWaits 0 && named drained && heard drained (cmd 0x29 h) 0 && !(drained.vd 0).awaits && !(drained.vd 0).destroying,
    !s.queueNamed 0 && ({ s with queues := s.queues ++ [(1, { faultq := 1 })] } : State).queueNamed 0 && heard s (cmd 0x29 h) 0,
    (drained.queue 0).live && (drained.queue 0).st = .draining && drained.tasksOf 0 = [] && drained.leftOf 0 = [] && tsorted 0 drained.queues && (drained.queue 0).statusq = 0
      && drained.recs = [] && drained.findQueue 0 = none, ({ s with tasks := [] }).recs = []] = true := by decide +kernel

theorem test_meets_RingRecords :
    let count := fun (s : State) => (leNat (s.peekVA 0 (s.queue 0).tailva.toNat 4) + 2 ^ 32 - (s.queue 0).head) % 2 ^ 32
    let reads := fun (s : State) => (s.queue 0).watched && s.bufferRoom 0 && s.readFail 0 (s.queue 0).tailva.toNat 8 = none
    let fine := fun (s : State) => reads s && s.readFail 0 ((s.queue 0).base.toNat + 128 * ((s.queue 0).head % 16)) 128 = none
    let heads := fun (s : State) => s.writeFail 0 (s.queue 0).headva.toNat 8
    let rec' := fun (s : State) => taskRecOf (s.peekVA 0 16384 128)
    let wrong := ring id 4096 [1]
    let typed := { wrong with dram := Memory.writeL wrong.dram 16384 [3] }
    let lost := fun (f : Queue → Queue) => ring f 4096 [1]
    meets [!((ring (fun q => { q with st := .error })).queue 0).watched, (ring (fun q => { q with tailva := 131072 })).readFail 0 131072 8 = some 1 && (ring).bufferRoom 0,
    fine (ring) && count ring = 0, fine (ring id 4096 [17]) && 2 ^ 4 < count (ring id 4096 [17]),
    fine (ring (fun q => { q with head := 0xffffffff }) 4096 [15]) && count (ring (fun q => { q with head := 0xffffffff }) 4096 [15]) = 16,
    reads (lost (fun q => { q with base := 131072 })) && count (lost (fun q => { q with base := 131072 })) = 1 && (lost id).readFail 0 131072 128 = some 1,
    fine wrong && count wrong = 1 && wrong.validRec (wrong.queue 0) (rec' wrong) && (rec' wrong).type ≠ 2 && heads wrong = none,
    fine (lost (fun q => { q with headva := 131072 })) && heads (lost (fun q => { q with headva := 131072 })) = some 1,
    fine typed && !typed.validRec (typed.queue 0) (rec' typed)] = true := by decide +kernel

theorem test_meets_RingRecords_full :
    ({ ring id 4096 [1] with tasks := (List.range 64).map (fun n => (n, { queue := 0, qgen := 1, st := .ready })) } : State).bufferRoom 0 = false := by decide +kernel

theorem test_meets_TaskEnds :
    let w : Task := { st := .completing }
    let s := { host with tasks := [(1, w)], groups := [], courses := [], copies := [] }
    let slot : Word := 0x8000000000001000
    let past : Task := { st := .placed, deadline := some 0 }
    meets [({ lab with now := 1 } : State).isPast past.deadline && past.st ≠ .done && !past.lateLogged, !lab.isPast none && (lab.task 0).st ≠ .completing,
    tget s.tasks 1 = some w && w.trec.slots = [] && w.trec.type ≠ 2 && tsorted 0 s.tasks, slotRole slot = 2 && (s.vd 0).mapsAll (slotAddr slot) 8] = true := by decide +kernel

/-- A record that a ring holds, and one of a fault task; a task that has passed its deadline; a completing task with a course and a group. -/
theorem test_meets_TaskTurns :
    let rec' := fun (s : State) => taskRecOf (s.peekVA 0 16384 128)
    let ok := fun (s : State) => (s.queue 0).watched && s.bufferRoom 0 && s.readFail 0 4096 8 = none && s.readFail 0 16384 128 = none && s.validRec (s.queue 0) (rec' s)
      && s.writeFail 0 8192 8 = none
    let plain := ring id 4096 [1]
    let fault := let t := ring (fun q => { q with kind := 1 }) 4096 [1]; { t with dram := Memory.writeL t.dram 16384 [2] }
    let orphan := { fault with expired := [0] }
    let ending := host.setTask 0 { host.task 0 with st := .completing }
    let quiet := ending.setCourse 0 { ending.course 0 with st := .retired, live := 0, splits := [] }
    let storing := quiet.setCourse 0 { quiet.course 0 with pends := [{ id := 4, act := .access { op := .store, type := 4, size := 4, items := [{ lane := 0, loc := .glob 0 }] } }] }
    let past : Task := { st := .placed, deadline := some 0 }
    meets [ok plain && (rec' plain).type ≠ 2, ok fault && (rec' fault).type = 2 && (rec' fault).args.getD 0 0 ∉ fault.expired,
    ok orphan && (rec' orphan).type = 2 && (rec' orphan).args.getD 0 0 ∈ orphan.expired, ({ lab with now := 1 } : State).isPast past.deadline && past.st ≠ .done && !past.lateLogged,
    quiet.storesIn (quiet.coursesOfAll [0]) && (quiet.commitCourses [0] (quiet.coursesOfAll [0]) 4 0).2 && !storing.storesIn (storing.coursesOfAll [0]),
    (quiet.group 0).nodes = [] && (quiet.course 0).pends = [] && (quiet.course 0).buf = [] && quiet.copies = [] && (quiet.task 0).trec.slots = [] && (quiet.task 0).trec.type ≠ 2
      && tsorted 0 quiet.tasks && tsorted 0 quiet.courses && (quiet.task 0).st = .completing && quiet.groups.map (·.1) = [0]] = true := by decide +kernel

/-- The lengths of blobs are free values: one of the two clauses that divide on each holds. -/
theorem test_meets_LiveMigration :
    let heard' := fun (s : State) (opc len : Nat) => heard s (cmd opc (List.replicate len 0) true) 0 && tget s.vds 0 ≠ none && !s.vdWaits 0 && !(s.vd 0).destroying
    let mig := fun (m : MigSt) => dev (fun v => { v with mig := m })
    let dirty := fun (va n : Nat) => leBytes 4 0 ++ leBytes 4 n ++ leBytes 8 va
    let blank := fun (s : State) => { s with blobs := [([], {})], groups := [], tasks := [], courses := [] }
    let incoming := { blank (dev (fun v => { v with mig := .incoming, migin := true })) with waits := [] }
    let slotless := mig .tracking
    let still := fun (opc : Nat) (s : State) => { blank s with waits := [{ cmd := cmd opc (List.replicate 24 0) true, vd := 0 }] }
    let taken := { ring (fun q => { q with st := .active }) with blobs := [([], { queues := [{ idx := 0, q := {} }] })] }
    let restoring := { still 0xb (mig .restoring) with groups := [(0, { (host.group 0) with saved := true, fresh := true })] }
    meets [heard' host 8 40 && (host.vd 0).dbg = 0 && !(host.vd 0).conf && (host.vd 0).mig = .none && host.host.qps.length < 8192 && (host.allQps 0).length < 256 && !(host.vd 0).awaits,
    heard' (dev (fun v => { v with conf := true })) 8 40 && heard' (dev (fun v => { v with dbg := 2 })) 8 40 && heard' (mig .tracking) 8 40 && heard' (mig .stopped) 8 40,
    heard' (mig .incoming) 8 40 && ((mig .incoming).vd 0).awaits && ((mig .resuming).vd 0).awaits && ((mig .restoring).vd 0).awaits && heard' (mig .restoring) 9 16 && heard' (mig .restoring) 0xa 24,
    fieldB (dirty 65535 1) 8 8 % 65536 ≠ 0 && fieldB (dirty 65536 1536) 4 2 = 1536 && fieldB (dirty 0 1537) 4 2 = 1537 && ((mig .stopped).vd 0).mig = .stopped && heard' (mig .stopping) 9 16,
    heard' slotless 0xa 24 && slotless.unsaveable 0 && (slotless.vd 0).ck = .running, heard' host 0xa 24 && (host.vd 0).mig = .none,
    !(blank slotless).unsaveable 0 && (blank slotless).vdGroups 0 = [] && (blank slotless).vdQueues 0 = [],
    heard' (mig .stopping) 0xc 8 && heard' (mig .stopped) 0xc 8 && tsorted 0 (mig .stopped).queues && heard' host 0xc 8 && heard' (mig .resuming) 0xc 8,
    heard incoming (cmd 0xb (List.replicate 24 0) true) 0 && (incoming.vd 0).migin && !incoming.vdWaits 0 && (incoming.blobIn 0 0).queues = [],
    (taken.blobIn 0 0).queues.any (fun x => (taken.queue x.idx).live),
    (still 0xa (mig .stopping)).deviceStill 0 && ((mig .stopping).vd 0).mig = .stopping,
    (still 0xb (mig .resuming)).blobIn 0 0 = {} && (mig .resuming).vdQueues 0 = [] && (mig .resuming).recs = [] && (mig .resuming).full = [] && (mig .resuming).dies.all (fun d => d.2.waiting = []),
    (restoring.vdGroups 0).all (fun g => !g.2.saved || g.2.ended || g.2.fresh) && restoring.vdGroups 0 ≠ [] && (restoring.vd 0).mig = .restoring] = true := by decide +kernel

/-- The lengths of blobs are free values: one of the two clauses that divide on each holds. -/
theorem test_meets_CheckpointsAndCells :
    let ck := fun (c : CkSt) => dev (fun v => { v with ck := c })
    let blank := fun (s : State) => { s with blobs := [([], {})], groups := [], tasks := [], courses := [] }
    let free := fun (v : VDev) => v.ck = .running && v.mig = .none && v.dbg ≠ 2 && !v.destroying
    let secret := dev (fun v => { v with ck := .restoring, conf := true }) { host with blobs := [] }
    let reviving := { ck .reviving with groups := [(0, { (host.group 0) with saved := true })] }
    let bad := host.setBench 63 { host.bench 63 with failed := 0x100, retiring := 0x100, enabled := 0xfe }
    meets [!free ((ck .stopped).vd 0) && !free ((dev (fun v => { v with dbg := 2 })).vd 0), free (host.vd 0) && host.unsaveable 0, !(blank host).unsaveable 0 && (blank host).vdQueues 0 = []
      && (blank host).vdGroups 0 = [],
    (blank (ck .stopping)).deviceStill 0 && (blank (ck .stopping)).vdQueues 0 = [], ((ck .stopped).vd 0).ck = .stopped,
    (blank (ck .restoring)).blobAt 0 ((ck .restoring).vdReg 0).svbase.toNat = some {} && ((ck .reviving).vd 0).ck = .reviving && (blank (ck .reviving)).vdGroups 0 = []
      && secret.blobAt 0 ((ck .restoring).vdReg 0).svbase.toNat = none && reviving.vdGroups 0 ≠ [] && (reviving.vdGroups 0).all (fun g => g.2.saved && !g.2.ended && !g.2.fresh) && host.queues = [] && host.recs = [] && host.full = [],
    (bad.bench 63).failed.getLsbD 8 && !(host.bench 63).failed.getLsbD 8 && host.groupsOn 63 8 = [], (bad.bench 63).retiring.getLsbD 8 && !(bad.bench 63).enabled.getLsbD 0
      && (bad.bench 63).enabled.getLsbD 7 && !(bad.bench 63).failed.getLsbD 0 && bad.groupsOn 63 8 = [],
    tget host.courses 0 ≠ none && (host.group (host.course 0).group).bench = 0 && (host.course 0).loop = 0] = true := by decide +kernel

/-- Port 7 of the fabric works; its state. -/
def linked (q : Port) (s : State := host) : State :=
  { s with plat := { s.plat with readyIo := 0xff3f }, fab := { s.fab with ports := [(7, q)] } }

theorem flitHead_crc (f : Flit) (c) : flitHead { f with crc := c } = flitHead f := by
  simp only [flitHead]

/-- Some CRC of every flit does not match. -/
theorem test_bad_crc (f : Flit) : ∃ c, flitOk { f with crc := some c } = false := by
  have key : ∀ n : Nat, ∃ c : Word, (some c).all (fun x => decide (x.toNat = n)) = false := fun n => by
    by_cases h : n = 0
    · exact ⟨1, by subst h; rfl⟩
    · exact ⟨0, by simpa using fun e => h e.symm⟩
  obtain ⟨c, hc⟩ := key (crc64 (flitHead f))
  rw [← flitHead_crc f (some c)] at hc
  exact ⟨c, hc⟩

theorem test_meets_LinkReception :
    let s := linked { recvSeq := 0xfff }
    let r : FabReq := { op := .copyRead 0 4 }
    let f : Flit := { kind := 1, seq := 0xfff, req := some r }
    let g : Flit := { kind := 2, seq := 0xfff, resp := some { tx := 0, dst := 0 } }
    let q := s.port 7
    meets [s.portReady 7 && q.replay = [] && !q.nakked && q.unacked = 0, flitOk f && !f.nak && f.kind = 1 && f.seq = q.recvSeq && f.req = some r && f.last && f.credit = 0,
    flitOk g && !g.nak && g.kind = 2 && g.seq = q.recvSeq && g.req = none && g.resp.isSome && g.last && g.credit = 0 && !{ g with last := false }.last,
    { f with seq := 0 }.seq ≠ q.recvSeq && ({ f with kind := 0 } : Flit).kind = (0 : BitVec 8), ((linked { give := [(0, 1)] }).port 7).give = [(0, 0 + 1)] && ((linked { give := [(0, 1)] }).port 7).waiting = [] && !((linked { give := [(0, 1)] }).port 7).retraining && q.give = [],
    ((linked { unacked := 63, ackFrom := 1 }).port 7).unacked < 64 && lab.now < 1 + 2000, 64 ≤ ((linked { unacked := 64 }).port 7).unacked,
    ((linked { unacked := 1 }).port 7).unacked ≠ 0 && 0 + 2000 ≤ ({ linked {} with now := 2000 } : State).now] = true := by decide +kernel

theorem test_meets_LinkRetries :
    let f : Flit := { kind := 1, seq := 1 }
    let e : OutFlit := { flit := f, tick := 0 }
    let r : FabReq := { op := .copyRead 0 4, life := 2 }
    let q : Port := { replay := [e] }
    meets [(linked q).portReady 7 && ((linked q).port 7).replay = [e] && f.req = none && !q.retraining && q.waiting = [],
    2048 ≤ (BitVec.ofNat 12 0 - f.seq).toNat && (BitVec.ofNat 12 2048 - f.seq).toNat < 2048 && (BitVec.ofNat 12 1 - f.seq).toNat = 0,
    ((linked { replay := [{ e with flit := { f with req := some r } }] }).port 7).replay ≠ [] && lifeSpent (2000 - 0) < r.life && r.life ≤ lifeSpent (2001 - 0) && lifeSpent 0 = 1,
    ({ q with nakSeq := 0, naks := 7 } : Port).naks + 1 = 8, 8 ≤ ({ q with naks := 8 } : Port).naks && 0 + 20000 ≤ ({ linked q with now := 20000 } : State).now,
    ({ q with retraining := true } : Port).fails + 1 < 3 && 2 ≤ ({ q with retraining := true, fails := 2 } : Port).fails] = true := by decide +kernel

theorem test_meets_FabricRequests :
    let peers := fun (s : State) => { s with fab := { s.fab with peering := [(0, { v := true, modid := 5, rvd := 2, lvd := 0 })] } }
    let r : FabReq := { turns := [3], life := 2, srcMod := 5, rvd := 2, op := .copyRead 131068 4 }
    let a : FabReq := { r with op := .ratom 0 6 false 0 131064 0 0, tagged := some 0xfffff }
    let s := peers (linked {})
    let v := s.vd 0
    let deaf := s.setVd 0 { v with mig := .stopped }
    let stood := { r with lvd := some (some 0), came := some 0 }
    let kept := s.setDie (s.targetDie 0 7 a.op) { windows := [{ srcMod := 5, srcDie := 0, entries := [(0xfffff, { tx := 9 })] }] }
    meets [s.portReady (turnPort 7 0) && !host.portReady (turnPort 7 0), s.peeredAs r.srcMod r.rvd = some 0 && host.peeredAs r.srcMod r.rvd = none && !v.conf && !v.deaf && tget s.vds 0 = some v,
    lifeSpent (s.now - r.came.getD s.now) < r.life && { r with life := 1 }.life ≤ lifeSpent (s.now - r.came.getD s.now) && lifeSpent (2001 - 0) = r.life,
    stood.lvd.getD (host.peeredAs r.srcMod r.rvd) = some 0 && { r with lvd := some none }.lvd.getD (s.peeredAs r.srcMod r.rvd) = none,
    (deaf.vd 0).deaf && deaf.peeredAs r.srcMod r.rvd = some 0 && !(deaf.vd 0).conf,
    s.farFault 0 131068 4 1 = none && s.farFault 0 131064 (typeSize 6) (atomNeed 0) = none,
    (kept.die (kept.targetDie 0 7 a.op)).recall 5 0 0xfffff = some { tx := 9 } && (s.die (s.targetDie 0 7 a.op)).recall 5 0 0xfffff = none] = true := by decide +kernel

theorem test_meets_FabricAnswers :
    let op : FabOp := .ratom 0 6 false 0 0 0 0
    let q : Pend := { id := 4, act := .remote route op (.s 1) 6 none }
    let o : Outstanding := { tx := 9, die := 0, port := 7, tick := 0, limit := 1, req := { op }, course := some (0, 4) }
    let s := labC (fun c => { c with pends := [q] })
    let t := { s with fab := { s.fab with outs := [o] }, now := 0 }
    let r : FabResp := { tx := 9, dst := 0 }
    meets [t.fab.outs = [o] && o.seg = none && o.record = none && o.notice = none && (t.group (t.course 0).group).shadow = none && (t.course 0).pend 4 = some q && (t.course 0).pends = [q]
      && tget t.courses 0 ≠ none,
    r.turns = [] && r.die = o.die && r.tx = o.tx && r.came.getD t.now ≤ o.limit && t.plat.cur ≠ .retention, { r with came := some 1 }.came.getD 2 ≤ o.limit && o.limit < { r with came := some 2 }.came.getD 0,
    ({ t with plat := { t.plat with cur := .retention } } : State).plat.cur = .retention && { r with turns := [3] }.turns ≠ [],
    t.now < o.limit, o.limit ≤ ({ t with now := 1 } : State).now && !t.answerHere o, { o with tagged := some 3 }.tagged.isSome && { r with status := .prot }.status = .prot] = true := by decide +kernel

theorem test_meets_FaultTraffic :
    let far : Word := 0x0050000400000001
    let s := labQ.setQueue 0 { labQ.queue 0 with faultq := far }
    let u := s.setRecord 0 { used := true, taskq := 1 }
    let routed := { u with plat := { u.plat with readyIo := 0xff3f }, fab := { u.fab with routes := [(5, 0x1100000300000000)] } }
    let current := fun (s : State) (h : Word) => bits h.toNat 63 52 = s.fab.modid.toNat && (s.record (recKey (bits h.toNat 51 50) (bits h.toNat 49 36))).used
      && (s.record (recKey (bits h.toNat 51 50) (bits h.toNat 49 36))).gen = bits h.toNat 31 0
    let y : Notice := { record := far, what := 2, status := 1, die := 3 }
    let noted := { routed with fab := { routed.fab with notices := [(0, y), (1, y)] } }
    meets [(u.record 0).used && (u.record 0).stage = 1 && u.faultQueueOf 0 = far && bits far.toNat 63 52 ≠ u.fab.modid.toNat && u.fab.outs = [] && u.moduleRoute 5 = none,
    routed.faultQueueOf 0 = far && (routed.moduleRoute 5).isSome && routed.fab.outs = [], !(lab.record 0).used, current u (u.recHandle 0) && !current u far,
    noted.fab.notices = [(0, { record := y.record, what := 2, status := 1, die := 3 }), (1, { record := y.record, what := 2, status := 1, die := 3 })] && (noted.moduleRoute (bits y.record.toNat 63 52)).isSome] = true := by decide +kernel

/-! ## Clauses of the statements about what completes after issue -/

/-- The course with one pending instruction. -/
def waiting (p : Pend) (s : State := labM 0 []) : State := s.setCourse 0 { s.course 0 with pends := [p] }

theorem test_meets_InstructionCompletes :
    let it : AccItem := { lane := 31, loc := .glob 131068 }
    let load : Access := { op := .load, type := 4, size := 4, items := [it], dest := .v 1 false }
    let atom : Access := { op := .atom 2, type := 4, size := 4, imm := true, items := [it], dest := .v 1 false }
    let pl : Pend := { id := 4, act := .access load }
    let pa : Pend := { id := 4, act := .access atom }
    let pq : Pend := { id := 4, act := .qstat 0 0 1 }
    let ps : Pend := { id := 4, act := .state 0 (.pkrd 0) 1 2 0 }
    let px : Pend := { id := 4, xbar := true }
    let behind := (waiting px).setCourse 0 { lab.course 0 with pends := [{ id := 3, xbar := true }, px] }
    meets [lab.eventPend 0 4 = none, (waiting { id := 4 }).eventPend 0 4 = some { id := 4 }, (waiting px).eventPend 0 4 = some px && ((waiting px).course 0).turnOf px,
    behind.eventPend 0 4 = some px && !(behind.course 0).turnOf px, (waiting { id := 4, act := .access { load with items := [] } }).eventPend 0 4 ≠ none,
    (waiting pl).eventPend 0 4 = some pl && (waiting pl).loadReady 0 pl load && ((waiting pl).course 0).stale = [] && !(waiting pl).shadowed 0 && ((waiting pl).vd 0).mapsAll 131068 4
      && !(waiting pl).poisoned 0 131068 4 && it.loc = .glob it.loc.addr.toNat && it.loc.addr.toNat < 2 ^ 57,
    (waiting pa).nextItem 0 pa atom = some it && (waiting pa).forceFor 0 it.loc 4 0 4 = (waiting pa, true),
    (waiting pq).eventPend 0 4 = some pq && !(waiting pq).isFar 0 && ((waiting pq).course 0).turnOf pq && ((waiting pq).course 0).queueTurn pq 0, ((waiting ps).course 0).turnOf ps && ((waiting ps).course 0).before 4 = []] = true := by decide +kernel

theorem test_meets_CourseEvents :
    let late : Pend := { id := 4, late := some { cause := 1 } }
    let two := (waiting late).setCourse 0 { lab.course 0 with pends := [late, { id := 5 }] }
    let saved := (waiting late).setCourse 0 { (waiting late).course 0 with st := .saved }
    let acc := fun (o : AccOp) => ({ id := 4, act := .access { op := o, type := 4, size := 4 } } : Pend)
    let spilt := lab.setCourse 0 { lab.course 0 with buf := [{ loc := .glob 128, val := 1, seq := 0 }] }
    let bare := (spilt.setVd 0 { spilt.vd 0 with memq := 1 }).setCell 0 { spilt.cell 0 with banks := (List.range 12).map (fun n => (n, { mode := .spad, owner := some 0 })) }
    let room := bare.setCell 0 { bare.cell 0 with banks := tset (bare.cell 0).banks 0 { mode := .spill, owner := some 0 } }
    let store := fun (s : State) => s.setCourse 0 { s.course 0 with pends := [{ id := 4, act := .access { op := .store, type := 4, size := 4, items := [{ lane := 31, loc := .glob 64 }] } }] }
    let ended := lab.setCourse 0 { lab.course 0 with live := 0 }
    let stuck := lab.setCourse 0 { lab.course 0 with splits := [(0, { pc := 65536, mask := 1, wait := .rejoin 3 })] }
    let tracked := lab.setCell 0 { lab.cell 0 with tracker := [{ course := 0, task := 0 }] }
    let undone := fun (s : State) (f : LateFault) => f.cause = 3 && s.rollsBack 0 f.addr
    meets [lab.eventPend 0 4 = none && (tget lab.courses 0).bind (·.pend 4) = none, ((waiting late).course 0).pend 4 = some late && ((waiting late).course 0).st = .running
      && ((waiting late).course 0).pends.all ((waiting late).mayStay 0) && ((waiting late).course 0).lateFirst (undone (waiting late)) = some (late, { cause := 1 }),
    !(two.course 0).pends.all (two.mayStay 0) && (two.course 0).pend 4 = some late && (two.course 0).st = .running, (saved.course 0).st = .saved && (saved.course 0).pend 4 = some late,
    (waiting (acc (.tag 0))).eventPend 0 4 = some (acc (.tag 0)), (waiting (acc (.waita 0 (some 9)))).eventPend 0 4 = some (acc (.waita 0 (some 9))),
    ((store room).eventPend 0 4).isSome && ((store room).l1MakeRoom 0 64).isSome, ((store bare).eventPend 0 4).isSome && (store bare).l1MakeRoom 0 64 = none,
    room.eventPend 0 4 = none && 2 ∈ (room.course 0).lineSectors 0 && !(room.group 0).saved && (room.spillPlace 0).isSome, 2 ∈ (bare.course 0).lineSectors 0 && bare.spillPlace 0 = none,
    2 ∉ ((spilt.setCourse 0 { spilt.course 0 with spilt := [(2, 0)] }).course 0).lineSectors 0,
    (ended.course 0).alive && (ended.course 0).live = 0 && (ended.course 0).st = .running && (ended.course 0).pends = [], (lab.course 0).live ≠ 0,
    (stuck.course 0).deadlocked false 0, ((waiting late).course 0).pends ≠ [], (tracked.cell 0).tracker.find? (fun e => e.course = 0) = some { course := 0, task := 0 }] = true := by decide +kernel

theorem test_meets_MigrationAndExchange :
    let hdr := { (lab.task 0).hdr with brcount := 1, broff := 0 }
    let bridged := { (lab.setTask 0 { lab.task 0 with hdr }) with dram := Memory.writeL [] 65280 [7] }
    let moving := bridged.setCourse 0 { bridged.course 0 with st := .migrating 7 }
    let back := bridged.setCourse 0 { bridged.course 0 with st := .migrating backId, dcore := false }
    let counted := moving.setCourse 0 { moving.course 0 with pends := [{ id := 4, flag := some 0, splits := 1 }] }
    let heavy := moving.setTask 0 { moving.task 0 with hdr := { (moving.task 0).hdr with regsL := 100000 } }
    let l := bridged.setCourse 0 { bridged.course 0 with dcore := false, prof := false }
    let pair := lab.setCourse 1 { lab.course 0 with c := 1, slot := 1, active := false }
    let spent := lab.setTask 0 { lab.task 0 with budget := some 0 }
    let die := fun (l : List PRec) => lab.setDie 0 { lab.die 0 with waiting := l }
    meets [(moving.course 0).st = .migrating 7 && 7 ≠ backId && (moving.course 0).flagsDown && moving.coreFits 0 0 false ((moving.task 0).hdr.demand false) && moving.sec.dbg = []
      && (moving.findBridge (moving.task 0) 7).isSome,
    (moving.setCourse 0 { moving.course 0 with st := .migrating 8 }).findBridge (moving.task 0) 8 = none, !(counted.course 0).flagsDown,
    back.coreFits 0 0 true ((back.task 0).hdr.demand true) && (back.course 0).st = .migrating backId, !heavy.coreFits 0 0 false ((heavy.task 0).hdr.demand false),
    (bridged.task 0).bridges && (bridged.bench 0).migEn && (bridged.bench 0).dtol && (bridged.course 0).dcore && bridged.requests 0 0 false < (bridged.freeSlots 0 0 false).length
      && !(bridged.group 0).saved && !(bridged.course 0).migReq,
    !(l.course 0).dcore && (l.bench 0).ltod && l.requests 0 0 true < (l.freeSlots 0 0 true).length,
    (pair.course 0).active && !(pair.course 1).active && (pair.course 1).dcore && (pair.course 1).alive && tget pair.courses 1 ≠ none,
    (lab.spend 0 0).isSome, spent.spend 0 0 = none, lab.plat.cur ≠ .retention,
    (die []).lowestFree 0 0 8192 = some 0 && ((die [{ kind := 0 }]).die 0).waiting = [{ kind := 0 }]] = true := by decide +kernel

theorem test_meets_DispatchAndImages :
    let copying := lab.setCourse 0 { lab.course 0 with splits := [(0, { pc := 65536, mask := 1, wait := .copying 1 4 })] }
    let overDone := (labG (fun g => { g with ended := true })).setCourse 0 { lab.course 0 with st := .retired }
    let saving := labG (fun g => { g with saving := true })
    let flushing := labG (fun g => { g with saving := true, flushing := true })
    let sent : Copy := { course := 0, group := 0, segs := [{ id := 3, off := 0, len := 4, addr := 0, sent := true }] }
    meets [lab.works, !(labP { lab.plat with cur := .retention }).works,
    ((labG (fun g => { g with drain := some 0, slot := some (0, 65536) })).group 0).drain = some 0 && 0 ≤ lab.now && lab.now < 5, (lab.group 0).drain = none,
    (saving.group 0).saving && !(lab.group 0).ended && saving.saveReady 0, (flushing.group 0).flushing && flushing.flushReady 0,
    !({ saving with copies := [(2, sent)] } : State).saveReady 0 && !({ flushing with copies := [(2, sent)] } : State).flushReady 0,
    (overDone.group 0).ended && (overDone.coursesOf 0).all (fun c => !(overDone.course c).alive), ((lab.setCourse 0 { lab.course 0 with st := .retired }).coursesOf 0).all (fun c => c ≠ 1),
    copying.coursesOf 0 = [0] && (copying.course 0).alive && (copying.course 0).splits.any (fun p => p.2.wait.isCopying 1), tget lab.tasks 0 ≠ none,
    (lab.task 0).ltod = none && { lab.task 0 with ltod := some 5 }.ltod.isSome] = true := by decide +kernel

theorem test_meets_TagNotices :
    let held : Task := { st := .held, trec := { slots := [0x4000000000001000] } }
    let s := { lab with tasks := [(0, held)] }
    let waits := fun (t : Task) (tick : Nat) => t.st = .held && t.vd = 0 && t.copied ≤ tick && (t.trec.slotsOf 1).any (fun x => x.2 = 4096)
    meets [tsorted 0 s.tasks && tget s.tasks 0 = some held && waits held 0, !waits { held with copied := 1 } 0, !waits (lab.task 0) 0] = true := by decide +kernel

theorem test_meets_ConsumedErrors :
    let shadowed := lab.setTask 0 { lab.task 0 with hdr := { (lab.task 0).hdr with shadow := true } }
    let noded := labG (fun g => { g with nodes := [(0, node .pending (tensor true 0))] })
    let x : Seg := { id := 3, off := 0, len := 4, addr := 0 }
    let copied := { lab with copies := [(2, { course := 0, group := 0, segs := [x] })] }
    let landing := fun (c : Course) => (c.pends.filter (fun p => p.act = .none && p.due.isSome && !p.writes.isEmpty && p.late.isNone)).getLast?
    let result : Pend := { id := 4, due := some 9, writes := [.v 1 31 0] }
    let adds : Pend := { id := 5, act := .access { op := .atom 4, type := 4, size := 4, items := [{ lane := 0, loc := .glob 0 }] } }
    let sent : Copy := { course := 0, group := 0, segs := [{ x with sent := true }] }
    let gone := shadowed.setGroup 0 { shadowed.group 0 with escaped := true }
    meets [(shadowed.task (shadowed.group 0).task).hdr.shadow && shadowed.rollsBack 0 5 && !(shadowed.setGroup 0 { shadowed.group 0 with lastUE := some 5 }).rollsBack 0 5,
    !(lab.task (lab.group 0).task).hdr.shadow && !(lab.group 0).ended && !(lab.group 0).saved, ((labG (fun g => { g with ended := true })).group 0).ended,
    !shadowed.parkedWhole 0 && shadowed.segsDone 0 && !(shadowed.group 0).escaped && (shadowed.group 0).undo = none, gone.segsDone 0 && (gone.group 0).escaped && gone.groupStill 0,
    !({ shadowed with copies := [(2, sent)] } : State).segsDone 0, !(gone.setCourse 0 { gone.course 0 with pends := [adds] }).groupStill 0,
    ((labG (fun g => { g with saved := true })).group 0).saved, (lab.course 0).alive && landing (lab.course 0) = none && (lab.course 0).splits ≠ [],
    landing { lab.course 0 with pends := [result] } = some result,
    (tget (noded.group 0).nodes 0).any (fun n => n.st = .pending), (copied.copy 2).segs.find? (fun x => !x.done && !x.parked && !x.sent && x.left.isEmpty) = some x && (copied.copy 2).group = 0] = true := by
  decide +kernel

theorem test_meets_EngineEvents :
    let free := fun (s : State) => s.groups.all (fun p => p.2.holder = none)
    let queued := lab.setCell 0 { lab.cell 0 with bowQueue := [(0, 0)] }
    let x : Seg := { id := 3, off := 0, len := 4, addr := 0, left := [0], data := [1, 2, 3, 4] }
    let c : Copy := { course := 0, group := 0, segs := [x] }
    let copied := fun (c : Copy) => { lab with copies := [(2, c)] }
    let done := { c with segs := [{ x with done := true }], follow := some (0, 0, 0) }
    let demand : Demand := { batch := 1, course := 0, g := tensor true 0, box := [] }
    let busy := (copied done).setCell 0 { lab.cell 0 with owners := [(0, .copy 9)] }
    let held := fun (s : State) => s.setGroup 0 { s.group 0 with holder := some 0 }
    meets [!free (labG (fun g => { g with holder := some 0 })), free lab && (lab.cell 0).bowQueue = [],
    free queued && (queued.cell 0).bowQueue.find? (fun e => queued.bowTurn e) = some (0, 0),
    (labG (fun g => { g with saved := true })).group 0 |>.saved, !(lab.group 0).saved,
    tget (copied c).copies 2 = some c && c.segs.find? (fun x => x.id = 3) = some x && !x.done && !x.parked && c.batch = none, ({ x with parked := true } : Seg).parked,
    [demand].find? (fun d => d.batch = 1) = some demand, (7 : Nat) ∉ x.left && 0 ∈ x.left, ((copied c).landBytes 0 0 false x.data).isSome && !(copied c).fifoLate c x 0,
    c.follow = none && c.segs.any (fun x => !x.done), done.segs.all (fun x => x.done) && (copied done).operandIdle 0 0 (1 * planeK 0 * typeSize 0) none, !busy.operandIdle 0 0 (1 * planeK 0 * typeSize 0) none,
    !(copied done).holdsBow 0 && (held (copied done)).holdsBow 0 && !((held (copied done)).group 0).saved,
    ((labG (fun g => { g with undo := some { addr := 0 } })).group 0).undo.isSome && !{ x with left := [] }.underWay && x.underWay && (lab.group 0).undo = none] = true := by decide +kernel

/-- A full FIFO bank takes no more bytes. -/
theorem test_meets_EngineEvents_full (l : List Half) (h : l.length = 32768) :
    (lab.setCell 0 { lab.cell 0 with banks := [(0, { mode := .fifo, owner := some 0, fifo := l })] }).landBytes 0 0 false [1, 2, 3, 4] = none :=
  if_pos (show 32768 < l.length + 1 by omega)

end Sys2Proof.Tests
end

section
/-! What holds after reset (01 R19, 03 R77). -/
namespace Sys2Proof.Machine

@[simp] theorem Memory.read_nil (a : Nat) : Memory.read [] a = 0 := rfl

@[simp] theorem Memory.wf_nil : Memory.wf [] = true := rfl

/-- Settles O9: every table and memory of the reset state is empty, and an empty memory reads zero. -/
theorem afterReset : Obligations.AfterReset :=
  ⟨rfl, rfl, rfl, rfl, rfl, rfl, rfl, rfl, rfl, rfl, rfl, rfl, rfl, rfl, rfl, rfl,
    Bool.and_eq_true_iff.mpr ⟨Memory.wf_nil, Memory.wf_nil⟩, fun n => ⟨Memory.read_nil n, Memory.read_nil n⟩⟩

end Sys2Proof.Machine
end

section
/-! What a register of the management address space reads after a write of it (00 R8, 02 R65, 03 R93, 05 R158, 06 R186, 07 R223,
08 R257, 09 R283). -/
namespace Sys2Proof.Machine

/-! ## Fields of a word -/

/-- A field of n bits from bit lo, as a number. -/
theorem toNat_field {w : Nat} (v : BitVec w) (lo n : Nat) : (v.extractLsb' lo n).toNat = v.toNat / 2 ^ lo % 2 ^ n := by
  rw [BitVec.extractLsb'_toNat, Nat.shiftRight_eq_div_pow]

/-- A flag at its own bit. -/
theorem flagBit_getLsbD {w : Nat} (v : BitVec w) (i : Nat) : flagBit (v.getLsbD i) i = v.toNat / 2 ^ i % 2 * 2 ^ i := by
  rw [flagBit, BitVec.getLsbD, Nat.testBit_eq_decide_div_mod_eq]
  rcases Nat.mod_two_eq_zero_or_one (v.toNat / 2 ^ i) with h | h <;> simp [h]

/-- A mask of n ones from bit lo keeps that field in its place. -/
theorem and_fieldMask (x lo n : Nat) : x &&& (2 ^ n - 1) * 2 ^ lo = x / 2 ^ lo % 2 ^ n * 2 ^ lo := by
  apply Nat.eq_of_testBit_eq
  intro i
  rw [Nat.testBit_and, Nat.testBit_mul_two_pow, Nat.testBit_mul_two_pow, Nat.testBit_two_pow_sub_one, Nat.testBit_mod_two_pow,
    Nat.testBit_div_two_pow]
  by_cases h : lo ≤ i
  · rw [Nat.sub_add_cancel h, Bool.and_comm]; simp [h]
  · simp [h]

/-! ## The registers, one by one -/

theorem State.vdReg_setVdReg (s : State) (n : Nat) (x : VdRegs) (h : tsorted 0 s.vdRegs = true) : (s.setVdReg n x).vdReg n = x := by
  rw [State.vdReg, State.setVdReg_vdRegs, tgetD_tput {} n x n h, if_pos rfl]

@[simp] theorem State.withdraw_bench (s : State) (b n : Nat) : (s.withdraw b).bench n = s.bench n := rfl

theorem regValue_writeReg_fabCfg (s : State) (v : Word) :
    (s.writeReg .fabCfg v).regValue .fabCfg = v.toNat % 2 ^ 17 + v.toNat / 2 ^ 24 % 2 ^ 8 * 2 ^ 24 := by
  show (v.extractLsb' 24 8).toNat * 2 ^ 24 + (v.extractLsb' 0 17).toNat = _
  simp only [toNat_field]
  omega

theorem writeReg_fabId_ready (s : State) (v : Word) (h : s.plat.readyIo.extractLsb' 8 8 ≠ 0) : s.writeReg .fabId v = s := if_pos h

theorem regValue_writeReg_fabId (s : State) (v : Word) (h : s.plat.readyIo.extractLsb' 8 8 = 0) :
    (s.writeReg .fabId v).regValue .fabId = v.toNat % 2 ^ 12 := by
  have hw : s.writeReg .fabId v = { s with fab := { s.fab with modid := v.extractLsb' 0 12 } } := if_neg (Classical.not_not.mpr h)
  rw [hw]
  show (v.extractLsb' 0 12).toNat = _
  simp

theorem regValue_writeReg_vdSec (s : State) (v : Word) (n : Nat) (h : tsorted 0 s.vdRegs = true) :
    (s.writeReg (.vdSec n) v).regValue (.vdSec n) = flagBit (v.getLsbD 1) 1 + flagBit (s.vd n).conf 0 := by
  show flagBit ((s.setVdReg n { s.vdReg n with fab := v.getLsbD 1 }).vdReg n).fab 1 + flagBit (s.vd n).conf 0 = _
  rw [State.vdReg_setVdReg s n _ h]

theorem regValue_writeReg_fltCfg (s : State) (v : Word) (n : Nat) :
    (s.writeReg (.fltCfg n) v).regValue (.fltCfg n) = v.toNat % 2 ^ 9 := by
  show ((s.setDie n { s.die n with resv := v.extractLsb' 0 9 }).die n).resv.toNat = _
  simp

theorem regValue_writeReg_preCfg (s : State) (v : Word) : (s.writeReg .preCfg v).regValue .preCfg = v.toNat % 2 ^ 32 := by
  show (v.extractLsb' 0 32).toNat = _
  simp

theorem regValue_writeReg_dspCfg (s : State) (v : Word) (n : Nat) :
    (s.writeReg (.dspCfg n) v).regValue (.dspCfg n) = v.toNat % 2 ^ 16 := by
  show ((s.setBench n { s.bench n with ageThr := v.extractLsb' 0 16 }).bench n).ageThr.toNat = _
  simp

/-- What MIG_CFG leaves of its bench, whether or not it withdraws the requests posted there. -/
theorem bench_writeReg_migCfg (s : State) (v : Word) (n : Nat) :
    (s.writeReg (.migCfg n) v).bench n
      = { s.bench n with migLive := v.extractLsb' 16 8, ltod := v.getLsbD 2, dtol := v.getLsbD 1, migEn := v.getLsbD 0 } := by
  simp only [State.writeReg, Reg.acts, State.writeFields, Bool.false_eq_true, if_false]
  split <;> simp

theorem regValue_writeReg_migCfg (s : State) (v : Word) (n : Nat) :
    (s.writeReg (.migCfg n) v).regValue (.migCfg n) = v.toNat % 8 + v.toNat / 2 ^ 16 % 2 ^ 8 * 2 ^ 16 := by
  simp only [State.regValue, bench_writeReg_migCfg, toNat_field, flagBit_getLsbD]
  omega

theorem regValue_writeReg_bankCfg (s : State) (v : Word) (n : Nat) :
    (s.writeReg (.bankCfg n) v).regValue (.bankCfg n) = v.toNat % 2 ^ 8 := by
  show ((s.setBench n { s.bench n with minc := v.extractLsb' 4 4, spill := v.extractLsb' 0 4 }).bench n).minc.toNat * 16
    + ((s.setBench n { s.bench n with minc := v.extractLsb' 4 4, spill := v.extractLsb' 0 4 }).bench n).spill.toNat = _
  simp only [State.bench_setBench, if_true, toNat_field]
  omega

/-- The save area of a device stays where it is while one of its slots is reserved. -/
theorem writeReg_saveArea_reserved (s : State) (v : Word) (n : Nat) (h : s.slotsReserved n = true) :
    s.writeReg (.vdSvbase n) v = s ∧ s.writeReg (.vdSvsize n) v = s := ⟨if_pos h, if_pos h⟩

theorem regValue_writeReg_vdSvbase (s : State) (v : Word) (n : Nat) (h : tsorted 0 s.vdRegs = true) (hs : s.slotsReserved n = false) :
    (s.writeReg (.vdSvbase n) v).regValue (.vdSvbase n) = v.toNat / 2 ^ 16 % 2 ^ 41 * 2 ^ 16 := by
  have hw : s.writeReg (.vdSvbase n) v = s.setVdReg n { s.vdReg n with svbase := v &&& 0x01ffffffffff0000 } :=
    if_neg (Bool.eq_false_iff.mp hs)
  simp only [hw, State.regValue, State.vdReg_setVdReg s n _ h]
  exact (BitVec.toNat_and ..).trans (and_fieldMask v.toNat 16 41)

theorem regValue_writeReg_vdSvsize (s : State) (v : Word) (n : Nat) (h : tsorted 0 s.vdRegs = true) (hs : s.slotsReserved n = false) :
    (s.writeReg (.vdSvsize n) v).regValue (.vdSvsize n) = v.toNat % 2 ^ 48 := by
  have hw : s.writeReg (.vdSvsize n) v
      = s.setVdReg n { s.vdReg n with svblob := (v.extractLsb' 24 24).toNat, svsize := (v.extractLsb' 0 24).toNat } :=
    if_neg (Bool.eq_false_iff.mp hs)
  simp only [hw, State.regValue, State.vdReg_setVdReg s n _ h, toNat_field]
  omega

theorem regValue_writeReg_route (s : State) (v : Word) (n : Nat) (h : tsorted 0 s.fab.routes = true) :
    (s.writeReg (.route n) v).regValue (.route n) = v.toNat := by
  show (tgetD (tput 0 s.fab.routes n v) n 0).toNat = _
  rw [tgetD_tput 0 n v n h, if_pos rfl]

theorem regValue_writeReg_peering (s : State) (v : Word) (n : Nat) (h : tsorted 0 s.fab.peering = true) :
    (s.writeReg (.peering n) v).regValue (.peering n)
      = flagBit (v.getLsbD 63) 63 + v.toNat / 2 ^ 18 % 2 ^ 12 * 2 ^ 18 + v.toNat / 2 ^ 12 % 2 ^ 6 * 2 ^ 12 + v.toNat % 2 ^ 6 := by
  simp only [State.writeReg, Reg.acts, State.writeFields, State.regValue, Bool.false_eq_true, if_false, tgetD_tput _ _ _ _ h, if_true,
    toNat_field]
  simp

/-- What each writable register reads after a write; a read-only one has no write. -/
theorem registerWrites : Claims.RegisterWrites := by
  intro s v n hvd hroute hpeer
  refine ⟨regValue_writeReg_fabCfg s v, regValue_writeReg_fabId s v, writeReg_fabId_ready s v, regValue_writeReg_vdSec s v n hvd,
    regValue_writeReg_fltCfg s v n, regValue_writeReg_preCfg s v, regValue_writeReg_dspCfg s v n, regValue_writeReg_migCfg s v n,
    regValue_writeReg_bankCfg s v n,
    fun h => ⟨regValue_writeReg_vdSvbase s v n hvd h, regValue_writeReg_vdSvsize s v n hvd h⟩, writeReg_saveArea_reserved s v n,
    regValue_writeReg_route s v n hroute, regValue_writeReg_peering s v n hpeer, ?readOnly⟩
  case readOnly => simp [State.writeReg, Reg.acts, State.writeFields]

end Sys2Proof.Machine
end

section
/-! How the management channel reads and writes registers (03 R69, R70). -/
namespace Sys2Proof.Machine

/-! ## Requests -/

@[simp] theorem State.countMgmt_plat (s : State) (f : MgmtFrame) : (s.countMgmt f).plat = s.plat := by
  unfold State.countMgmt; split <;> rfl

@[simp] theorem State.countMgmt_sec (s : State) (f : MgmtFrame) : (s.countMgmt f).sec = s.sec := by
  unfold State.countMgmt; split <;> rfl

@[simp] theorem State.countMgmt_mgmtUp (s : State) (f : MgmtFrame) : (s.countMgmt f).mgmtUp = s.mgmtUp := by
  simp only [State.mgmtUp, State.countMgmt_plat]

@[simp] theorem State.countMgmt_standing (s : State) (f g : MgmtFrame) : (s.countMgmt f).standing g = s.standing g := by
  simp only [State.standing, State.countMgmt_sec]

/-- A request that meets nothing it is refused for is performed, after its frame is counted; 9182 bytes of body fill the longest frame
that the port takes (02 R35). -/
theorem withFrame_performs {s : State} {f : MgmtFrame} {opc : Nat} {fits : Nat → Bool} (boot : MgmtFrame → Bool)
    (g : State → MgmtFrame → State) (harg : s.arg = .frame f) (hup : s.mgmtUp = true) (hboot : s.sec.bootfail = false)
    (hopc : f.opc.toNat = opc) (hver : f.ver = 1) (hshort : f.short = false) (hlen : f.body.length ≤ 9182)
    (hfits : fits f.body.length = true) : s.withFrame opc fits boot g = .next (g (s.countMgmt f) f) := by
  have hlong : longFrame f = false := by
    have : ¬ 9216 < 34 + f.body.length := by omega
    simp [longFrame, this]
  simp [State.withFrame, harg, hopc, hlong, hup, hver, hshort, hfits, hboot]

/-! ## A read of one register -/

theorem mregRead_unaligned (s : State) (f : MgmtFrame) (ok : Reg → Bool) (h : fieldB f.body 0 8 % 8 ≠ 0) :
    s.mregRead f ok = s.answer f 3 [] := by
  simp [State.mregRead, bodyAt, h]

theorem mregRead_absent (s : State) (f : MgmtFrame) (ok : Reg → Bool) (h : fieldB f.body 0 8 % 8 = 0) (hc : fieldB f.body 8 2 = 1)
    (hr : regAt (fieldB f.body 0 8) = none) : s.mregRead f ok = s.answer f 7 [] := by
  simp [State.mregRead, bodyAt, h, hc, hr]

theorem mregRead_present (s : State) (f : MgmtFrame) {ok : Reg → Bool} {r : Reg} (h : fieldB f.body 0 8 % 8 = 0)
    (hc : fieldB f.body 8 2 = 1) (hr : regAt (fieldB f.body 0 8) = some r) (hok : ok r = true) :
    s.mregRead f ok = (s.regCleared r).answer f 0 (leBytes 8 (s.regValue r)) := by
  simp [State.mregRead, bodyAt, h, hc, hr, hok, State.readRegs]

/-! ## A write of a register -/

theorem needsOwner_iff (s : State) (f : MgmtFrame) : s.needsOwner f = true ↔ s.sec.st = .locked ∧ s.standing f ≠ 1 := by
  simp [State.needsOwner]

theorem needsOwner_eq_false_iff (s : State) (f : MgmtFrame) : s.needsOwner f = false ↔ s.sec.st ≠ .locked ∨ s.standing f = 1 := by
  rw [← Bool.not_eq_true, needsOwner_iff, Classical.not_and_iff_not_or_not, Classical.not_not]

@[simp] theorem State.countMgmt_needsOwner (s : State) (f g : MgmtFrame) : (s.countMgmt f).needsOwner g = s.needsOwner g := by
  simp only [State.needsOwner, State.countMgmt_sec, State.countMgmt_standing]

theorem mregWrite_refused (s : State) (f : MgmtFrame) {ok : Reg → Bool} {r : Reg} (h : fieldB f.body 0 8 % 8 = 0)
    (hr : regAt (fieldB f.body 0 8) = some r) (hok : ok r = true) (hp : r ≠ .pwrCtl) (hn : s.needsOwner f = true) :
    s.mregWrite f ok = s.answer f 0xc [] := by
  simp [State.mregWrite, bodyAt, h, hr, hok, hp, hn]

theorem mregWrite_accepted (s : State) (f : MgmtFrame) {ok : Reg → Bool} {r : Reg} (h : fieldB f.body 0 8 % 8 = 0)
    (hr : regAt (fieldB f.body 0 8) = some r) (hok : ok r = true) (hp : r = .pwrCtl ∨ s.needsOwner f = false) :
    s.mregWrite f ok = (s.answer f 0 []).writeReg r (BitVec.ofNat 64 (fieldB f.body 8 8)) := by
  rcases hp with rfl | hp
  · simp [State.mregWrite, bodyAt, h, hr, hok]
  · simp [State.mregWrite, bodyAt, h, hr, hok, hp]

/-! ## The instructions -/

theorem exec_mregRead (s : State) : exec .mregRead s = execMregRead s := rfl
theorem exec_glStatRead (s : State) : exec .glStatRead s = execGlStatRead s := rfl
theorem exec_hpStatRead (s : State) : exec .hpStatRead s = execHpStatRead s := rfl
theorem exec_mregWrite (s : State) : exec .mregWrite s = execMregWrite s := rfl
theorem exec_registerWrite (s : State) : exec .registerWrite s = execRegisterWrite s := rfl

/-- What a read answers and clears, and when a write is refused or performed. -/
theorem registerFrames : Claims.RegisterFrames := by
  intro s f r harg hup hboot c off ok reads v
  have performs {opc : Nat} (h : ok opc) (boot : MgmtFrame → Bool) (g : State → MgmtFrame → State) :
      s.withFrame opc (· = 16) boot g = .next (g c f) := by
    obtain ⟨hver, hopc, hshort, hlen⟩ := h
    exact withFrame_performs boot g harg hup hboot hopc hver hshort (by omega) (by simp [hlen])
  refine ⟨fun h hal hc hr => ⟨?_, ?_, ?_⟩, fun h hal => ?_, fun h hal hc hr => ?_, fun h hal hr => ⟨fun hst hown hp => ?_, fun hmay => ?_⟩⟩
  · show exec .mregRead s = _
    rw [exec_mregRead, execMregRead, performs h, mregRead_present c f hal hc hr rfl]
  · rintro n rfl
    show exec .glStatRead s = _
    rw [exec_glStatRead, execGlStatRead, performs h, mregRead_present c f hal hc hr rfl]
  · rintro n rfl
    show exec .hpStatRead s = _
    rw [exec_hpStatRead, execHpStatRead, performs h, mregRead_present c f hal hc hr rfl]
  · rw [exec_mregRead, execMregRead, performs h, mregRead_unaligned c f _ hal]
  · rw [exec_mregRead, execMregRead, performs h, mregRead_absent c f _ hal hc hr]
  · have hn : c.needsOwner f = true := (s.countMgmt_needsOwner f f).trans ((needsOwner_iff s f).mpr ⟨hst, hown⟩)
    rw [exec_mregWrite, execMregWrite, performs h, mregWrite_refused c f hal hr rfl hp hn]
  · have hn : r = .pwrCtl ∨ c.needsOwner f = false := by
      rw [State.countMgmt_needsOwner, needsOwner_eq_false_iff]
      exact or_comm.mp (or_assoc.mpr hmay)
    refine ⟨?_, fun hacts => ?_⟩
    · rw [exec_mregWrite, execMregWrite, performs h, mregWrite_accepted c f hal hr rfl hn]
    · rw [exec_registerWrite, execRegisterWrite, performs h, mregWrite_accepted c f hal hr (by simp [hacts]) hn]

/-- Settles O48: a request of the channel reads and clears, or writes, one register, and each register reads what its writable fields took. -/
theorem managementRegisters : Obligations.ManagementRegisters := ⟨registerFrames, registerWrites⟩

end Sys2Proof.Machine
end

section
/-! What the operations of a Gliron port leave unchanged, and what its own state reads after them (02 R44 to R47). -/
namespace Sys2Proof.Machine

/-! ## Ports -/

/-- Of two values set at one key the later stands. -/
@[simp] theorem tset_tset_same {α : Type} (m : FMap α) (k : Nat) (v w : α) : tset (tset m k v) k w = tset m k w := by
  induction m with
  | nil => simp [tset]
  | cons p m ih =>
    obtain ⟨a, x⟩ := p
    by_cases hlt : k < a
    · simp [tset, hlt]
    · by_cases heq : k = a
      · simp [tset, heq]
      · simp [tset, hlt, heq, ih]

@[simp] theorem State.setPort_setPort (s : State) (p : Nat) (x y : Port) : (s.setPort p x).setPort p y = s.setPort p y := by
  simp only [State.setPort, tset_tset_same]

@[simp] theorem State.port_setPort (s : State) (k : Nat) (x : Port) (n : Nat) : (s.setPort k x).port n = if k = n then x else s.port n := by
  simp only [State.port, State.setPort_fab, tgetD, tget_tset]; split <;> rfl

@[simp] theorem State.port_post (s : State) (t : Nat) (i : Instr) (a : EvArg) (n : Nat) : (s.post t i a).port n = s.port n := rfl

@[simp] theorem State.port_send (s : State) (m : HostMsg) (n : Nat) : (s.send m).port n = s.port n := by
  simp only [State.port, State.send_fab]

@[simp] theorem State.portReady_setPort (s : State) (k : Nat) (x : Port) (n : Nat) : (s.setPort k x).portReady n = s.portReady n := rfl

/-- The posted event stands in the agenda, or stood there already: nothing else changes. -/
theorem State.postOnce_eq (s : State) (t : Nat) (i : Instr) (a : EvArg) :
    s.postOnce t i a = { s with agenda := (s.postOnce t i a).agenda } := by
  unfold State.postOnce; split <;> rfl

@[simp] theorem State.postOnce_out (s : State) (t : Nat) (i : Instr) (a : EvArg) : (s.postOnce t i a).out = s.out := by
  rw [State.postOnce_eq]
@[simp] theorem State.postOnce_fab (s : State) (t : Nat) (i : Instr) (a : EvArg) : (s.postOnce t i a).fab = s.fab := by
  rw [State.postOnce_eq]
@[simp] theorem State.port_postOnce (s : State) (t : Nat) (i : Instr) (a : EvArg) (n : Nat) : (s.postOnce t i a).port n = s.port n := by
  simp only [State.port, State.postOnce_fab]

/-- A flit leaves by no queue pair, so no pause of the host port holds it. -/
@[simp] theorem State.paused_flit (s : State) (p : Nat) (f : Flit) : s.paused (.flit p f) = false := by
  simp [State.paused, HostMsg.qp]

theorem State.send_flit (s : State) (p : Nat) (f : Flit) : s.send (.flit p f) = { s with out := s.out ++ [.flit p f] } := by
  simp [State.send]

/-! ## What a port's operation may change -/

/-- From s to t only ports have changed, with what has been sent and what is due. -/
def State.LinkStep (s t : State) : Prop := ∃ ports out agenda, t = { s with fab := { s.fab with ports }, out, agenda }

theorem State.LinkStep.refl (s : State) : s.LinkStep s := ⟨_, _, _, rfl⟩

theorem State.LinkStep.trans {s t u : State} (h : s.LinkStep t) (g : t.LinkStep u) : s.LinkStep u := by
  obtain ⟨_, _, _, rfl⟩ := h
  obtain ⟨_, _, _, rfl⟩ := g
  exact ⟨_, _, _, rfl⟩

theorem State.LinkStep.eq {s t : State} (h : s.LinkStep t) : t = { s with fab := t.fab, out := t.out, agenda := t.agenda } := by
  obtain ⟨_, _, _, rfl⟩ := h; rfl
theorem State.LinkStep.outs {s t : State} (h : s.LinkStep t) : t.fab.outs = s.fab.outs := by obtain ⟨_, _, _, rfl⟩ := h; rfl
theorem State.LinkStep.dram {s t : State} (h : s.LinkStep t) : t.dram = s.dram := by obtain ⟨_, _, _, rfl⟩ := h; rfl
theorem State.LinkStep.recs {s t : State} (h : s.LinkStep t) : t.recs = s.recs := by obtain ⟨_, _, _, rfl⟩ := h; rfl

theorem State.LinkStep.setPort {s t : State} (h : s.LinkStep t) (p : Nat) (x : Port) : s.LinkStep (t.setPort p x) :=
  h.trans ⟨_, _, _, rfl⟩

theorem State.LinkStep.post {s t : State} (h : s.LinkStep t) (n : Nat) (i : Instr) (a : EvArg) : s.LinkStep (t.post n i a) :=
  h.trans ⟨_, _, _, rfl⟩

theorem State.LinkStep.postOnce {s t : State} (h : s.LinkStep t) (n : Nat) (i : Instr) (a : EvArg) : s.LinkStep (t.postOnce n i a) :=
  h.trans ⟨_, _, _, State.postOnce_eq t n i a⟩

theorem State.LinkStep.send {s t : State} (h : s.LinkStep t) (p : Nat) (f : Flit) : s.LinkStep (t.send (.flit p f)) :=
  h.trans ⟨_, _, _, State.send_flit t p f⟩

/-- Whatever waits at a port, sending it changes nothing beyond the port. -/
theorem State.linkStep_pump (n : Nat) (p : Nat) : ∀ s : State, s.LinkStep (s.pump n p) := by
  induction n with
  | zero => exact fun s => .refl s
  | succ n ih =>
    intro s
    simp only [State.pump]
    split
    · exact .refl s
    split
    · exact .refl s
    split
    · exact .refl s
    have hs (x : Port) : s.LinkStep (s.setPort p x) := (State.LinkStep.refl s).setPort p x
    split
    · exact ((hs _).setPort _ _).trans (ih _)
    · refine State.LinkStep.trans (State.LinkStep.send ?_ _ _) (ih _)
      split
      · exact ((hs _).setPort _ _).postOnce ..
      · exact (hs _).setPort _ _

theorem State.linkStep_linkSend (s : State) (p : Nat) (fs : List Flit) (since : Nat) (via : Option Nat) :
    s.LinkStep (s.linkSend p fs since via) := by
  unfold State.linkSend
  split
  · exact .refl s
  · exact ((State.LinkStep.refl s).setPort _ _).trans (State.linkStep_pump _ _ _)

theorem State.linkStep_sendOn (s : State) (p since : Nat) (via : Option Nat) (r : FabReq) : s.LinkStep (s.sendOn p since via r) :=
  State.linkStep_linkSend ..

end Sys2Proof.Machine
end

section
/-! Fault tasks and notices between modules (02 R64, 06 R167, R171, 22 R536). -/
namespace Sys2Proof.Machine

theorem exec_faultEnqResend (s : State) : exec .faultEnqResend s = execFaultEnqResend s := rfl
theorem exec_faultNoticeResend (s : State) : exec .faultNoticeResend s = execFaultNoticeResend s := rfl
theorem exec_faultNoticeRx (s : State) : exec .faultNoticeRx s = execFaultNoticeRx s := rfl

/-- What is outstanding once a request of a die that carries a tag has left by a route (R57, R60). -/
def State.taggedOut (s : State) (die : Nat) (route : Word) (vdn : Nat) (op : FabOp) (tag : Nat) : Outstanding :=
  { tx := (s.die die).tx, die, port := routePort route, tick := s.now, limit := s.now + s.fab.timeout * 2000, tagged := some tag
    req := { vc := fabVc op, turns := routeTurns route, life := s.fab.timeout / 2, srcMod := s.fab.modid, srcDie := die, rvd := vdn
             tx := (s.die die).tx, tagged := some (BitVec.ofNat 20 tag), op } }

theorem State.request_tagged (s : State) (die : Nat) (route : Word) (vdn : Nat) (op : FabOp) (tag : Nat)
    (f : Outstanding → Outstanding) (hop : fabTagged op = true) :
    (s.request die route vdn op (some tag) false f).fab.outs = s.fab.outs ++ [f (s.taggedOut die route vdn op tag)]
      ∧ (s.request die route vdn op (some tag) false f).dram = s.dram
      ∧ (s.request die route vdn op (some tag) false f).recs = s.recs := by
  simp only [State.request, hop, if_true, State.post_fab, State.post_dram, State.post_recs, (State.linkStep_sendOn ..).outs,
    (State.linkStep_sendOn ..).dram, (State.linkStep_sendOn ..).recs]
  exact ⟨rfl, rfl, rfl⟩

/-- A request that keeps the tag of its first sending (R64) differs in the tag alone. -/
theorem State.sendTagged_outs (s : State) (die : Nat) (route : Word) (vdn key : Nat) (op : FabOp) (f : Outstanding → Outstanding)
    (hop : fabTagged op = true) :
    ∃ (u : State) (tag : Nat), u.now = s.now ∧ u.fab.timeout = s.fab.timeout
      ∧ (s.sendTagged die route vdn key op f).fab.outs = s.fab.outs ++ [f (u.taggedOut die route vdn op tag)]
      ∧ (s.sendTagged die route vdn key op f).dram = s.dram ∧ (s.sendTagged die route vdn key op f).recs = s.recs := by
  unfold State.sendTagged
  split
  · refine ⟨_, _, ?_, ?_, State.request_tagged _ die route vdn op _ f hop⟩ <;> rfl
  · refine ⟨_, _, ?_, ?_, State.request_tagged _ die route vdn op _ f hop⟩ <;> rfl

/-! ## Fault tasks -/

/-- A record whose unit still waits for its fault task, at a queue of another module. -/
theorem faultEnqResend_noRoute (s : State) {k : Nat} (harg : s.arg = .nat k 0 0) (hused : (s.record k).used = true)
    (hstage : (s.record k).stage = 1) (hq : s.faultQueueOf k ≠ 0#64) (hfar : bits (s.faultQueueOf k).toNat 63 52 ≠ s.fab.modid.toNat)
    (houts : s.fab.outs = []) (hroute : s.moduleRoute (bits (s.faultQueueOf k).toNat 63 52) = none) :
    execFaultEnqResend s = .next (s.post (s.now + s.fab.timeout * 2000) .faultEnqResend (.nat k 0 0)) := by
  simp [execFaultEnqResend, harg, hused, hstage, hq, hfar, houts, hroute, State.tmoTicks, usTicks]

theorem faultEnqResend_sends (s : State) {k : Nat} {route : Word} (harg : s.arg = .nat k 0 0) (hused : (s.record k).used = true)
    (hstage : (s.record k).stage = 1) (hq : s.faultQueueOf k ≠ 0#64) (hfar : bits (s.faultQueueOf k).toNat 63 52 ≠ s.fab.modid.toNat)
    (houts : s.fab.outs = []) (hroute : s.moduleRoute (bits (s.faultQueueOf k).toNat 63 52) = some route) :
    execFaultEnqResend s = .next (s.sendTagged (k / 16384) route (s.record k).vd (enqKey k (s.record k).gen)
      (.faultEnq (s.faultQueueOf k) (s.recHandle k) (s.faultArgs k) ((s.record k).deadline.map (fun t => t - s.now)) (s.record k).passed)
      (fun o => { o with record := some (enqKey k (s.record k).gen) })) := by
  simp [execFaultEnqResend, harg, hused, hstage, hq, hfar, houts, hroute]

theorem faultEnqResend_settled (s : State) {k : Nat} (harg : s.arg = .nat k 0 0)
    (h : (s.record k).used = false ∨ (s.record k).stage ≠ 1) : execFaultEnqResend s = .next s := by
  rcases h with h | h <;> simp [execFaultEnqResend, harg, h]

/-! ## Notices -/

theorem faultNoticeResend_noRoute (s : State) {k : Nat} {x : Notice} (harg : s.arg = .nat k 0 0) (hnotes : s.fab.notices = [(k, x)])
    (houts : s.fab.outs = []) (hroute : s.moduleRoute (bits x.record.toNat 63 52) = none) :
    execFaultNoticeResend s = .next (s.post (s.now + s.fab.timeout * 2000) .faultNoticeResend (.nat k 0 0)) := by
  simp [execFaultNoticeResend, harg, hnotes, houts, hroute, tget, State.tmoTicks, usTicks]

theorem faultNoticeResend_sends (s : State) {k : Nat} {x : Notice} {route : Word} (harg : s.arg = .nat k 0 0)
    (hnotes : s.fab.notices = [(k, x)]) (houts : s.fab.outs = []) (hroute : s.moduleRoute (bits x.record.toNat 63 52) = some route) :
    execFaultNoticeResend s = .next (s.sendTagged x.die route 0 (noticeKey k) (.notice x.record x.what x.status)
      (fun o => { o with notice := some k })) := by
  simp [execFaultNoticeResend, harg, hnotes, houts, hroute, tget]

/-- One notice about a record is under way at a time, the earliest first. -/
theorem faultNoticeResend_behind (s : State) {j k : Nat} {y x : Notice} (harg : s.arg = .nat k 0 0) (hjk : j < k)
    (hnotes : s.fab.notices = [(j, y), (k, x)]) (hrec : y.record = x.record) : execFaultNoticeResend s = .next s := by
  simp [execFaultNoticeResend, harg, hnotes, hrec, tget, hjk, Nat.ne_of_lt hjk, Nat.not_lt_of_gt hjk]

/-- A notice whose handle is current changes the record that it names. -/
theorem State.markRec_current (s : State) (h : Word) (f : PRec → PRec)
    (hcur : bits h.toNat 63 52 = s.fab.modid.toNat ∧ (s.recOf h).used = true ∧ (s.recOf h).gen = bits h.toNat 31 0) :
    s.markRec h f = s.setRecord (recKey (bits h.toNat 51 50) (bits h.toNat 49 36)) (f (s.recOf h)) := by
  obtain ⟨hmod, hused, hgen⟩ := hcur
  simp only [State.recOf] at hused hgen ⊢
  simp [State.markRec, hmod, hused, hgen]

theorem State.markRec_old (s : State) (h : Word) (f : PRec → PRec)
    (hcur : ¬ (bits h.toNat 63 52 = s.fab.modid.toNat ∧ (s.recOf h).used = true ∧ (s.recOf h).gen = bits h.toNat 31 0)) :
    s.markRec h f = s := by
  simp only [State.recOf] at hcur
  simp [State.markRec, and_assoc, hcur]

/-- Settles O60: a fault task and a notice leave as requests that stay outstanding, or are tried again; a notice marks its record. -/
theorem faultTraffic : Obligations.FaultTraffic := by
  intro s k w st d h route r x q there ri current
  refine ⟨fun harg hused hstage hq hfar houts => ⟨fun hroute => ?_, fun hroute => ?_⟩, fun harg hset => ?_,
    fun harg hnotes houts => ⟨fun hroute => ?_, fun hroute => ?_⟩, fun j y harg hjk hnotes => ?_, fun harg hcur hr => ?_, fun harg hcur => ?_⟩
  · rw [exec_faultEnqResend, faultEnqResend_noRoute s harg hused hstage hq hfar houts hroute]
  · rw [exec_faultEnqResend, faultEnqResend_sends s harg hused hstage hq hfar houts hroute]
    obtain ⟨u, tag, hnow, htmo, ho, hdram, hrecs⟩ := s.sendTagged_outs (k / 16384) route x.vd (enqKey k x.gen)
      (.faultEnq q (s.recHandle k) (s.faultArgs k) (x.deadline.map (fun t => t - s.now)) x.passed)
      (fun o => { o with record := some (enqKey k x.gen) }) rfl
    refine ⟨_, rfl, ⟨_, ho ▸ List.mem_append_right _ (List.mem_singleton_self _), rfl, rfl, ?_⟩, hdram, hrecs⟩
    rw [State.taggedOut, hnow, htmo]
  · rw [exec_faultEnqResend, faultEnqResend_settled s harg hset]
  · rw [exec_faultNoticeResend, faultNoticeResend_noRoute s harg hnotes houts hroute]
  · rw [exec_faultNoticeResend, faultNoticeResend_sends s harg hnotes houts hroute]
    obtain ⟨u, tag, -, -, ho, -⟩ := s.sendTagged_outs d route 0 (noticeKey k) (.notice h w st) (fun o => { o with notice := some k }) rfl
    exact ⟨_, rfl, _, ho ▸ List.mem_append_right _ (List.mem_singleton_self _), rfl, rfl, rfl⟩
  · rw [exec_faultNoticeResend, faultNoticeResend_behind s harg hjk hnotes rfl]
  · have hrx : exec .faultNoticeRx s = .next (s.applyNotice h w st) := by rw [exec_faultNoticeRx, execFaultNoticeRx, harg]
    rw [hrx, State.applyNotice, s.markRec_current h _ hcur]
    subst hr
    refine ⟨?dispatched, ?killed, ?completed, ?failed⟩
    case dispatched => rintro rfl; rfl
    case killed => rintro rfl; rfl
    case completed => rintro rfl rfl; rfl
    case failed => rintro rfl hst; exact congrArg (fun y => Host.Outcome.next (s.setRecord ri y)) (if_neg hst)
  · rw [exec_faultNoticeRx, execFaultNoticeRx, harg]
    exact congrArg _ (s.markRec_old h _ hcur)

end Sys2Proof.Machine
end

section
/-! Reception of flits and their acknowledgement (02 R44, R46, R53, R66). -/
namespace Sys2Proof.Machine

theorem exec_glFlitRx (s : State) : exec .glFlitRx s = execGlFlitRx s := rfl
theorem exec_glAckTimer (s : State) : exec .glAckTimer s = execGlAckTimer s := rfl

/-! ## Flits that are not accepted -/

/-- With an empty replay buffer an acknowledgement covers nothing. -/
theorem State.takeAck_nil (s : State) (p : Nat) (ack : BitVec 12) (h : (s.port p).replay = []) : s.takeAck p ack = s := by
  simp [State.takeAck, h]

theorem glFlitRx_badCrc (s : State) {p : Nat} {f : Flit} (harg : s.arg = .flit p f) (hready : s.portReady p = true)
    (hcrc : flitOk f = false) (hnak : (s.port p).nakked = false) :
    execGlFlitRx s = .next ((s.setPort p { s.port p with
      crcErr := if (s.port p).crcErr = 4095 then 4095 else (s.port p).crcErr + 1 }).sendNak p) := by
  simp [execGlFlitRx, harg, hready, hcrc, hnak]

theorem glFlitRx_outOfOrder (s : State) {p : Nat} {f : Flit} (harg : s.arg = .flit p f) (hready : s.portReady p = true)
    (hreplay : (s.port p).replay = []) (hcrc : flitOk f = true) (hn : f.nak = false) (hkind : f.kind = 1)
    (hseq : f.seq ≠ (s.port p).recvSeq) (hnak : (s.port p).nakked = false) : execGlFlitRx s = .next (s.sendNak p) := by
  simp [execGlFlitRx, harg, hready, hcrc, hn, hkind, hseq, hnak, s.takeAck_nil p f.ack hreplay]

theorem glFlitRx_idle (s : State) {p : Nat} {f : Flit} (harg : s.arg = .flit p f) (hready : s.portReady p = true)
    (hreplay : (s.port p).replay = []) (hcrc : flitOk f = true) (hn : f.nak = false) (hkind : f.kind = 0) :
    execGlFlitRx s = .next s := by
  simp [execGlFlitRx, harg, hready, hcrc, hn, hkind, s.takeAck_nil p f.ack hreplay]

/-! ## Flits that are accepted -/

theorem glFlitRx_inOrder (s : State) {p : Nat} {f : Flit} (harg : s.arg = .flit p f) (hready : s.portReady p = true)
    (hreplay : (s.port p).replay = []) (hcrc : flitOk f = true) (hn : f.nak = false) (hkind : f.kind = 1 ∨ f.kind = 2)
    (hseq : f.seq = (s.port p).recvSeq) : execGlFlitRx s = .next (s.accept p f) := by
  rcases hkind with hkind | hkind <;>
    simp [execGlFlitRx, harg, hready, hcrc, hn, hkind, hseq, s.takeAck_nil p f.ack hreplay]

/-- A flit is counted as received in order; the first one sets the acknowledgement timer, the 64th makes it due. -/
def State.countFlit (s : State) (p : Nat) : State :=
  let q := s.port p
  let n := q.unacked + 1
  let s := s.setPort p { q with recvSeq := q.recvSeq + 1, nakked := false, unacked := n, ackFrom := if q.unacked = 0 then s.now else q.ackFrom }
  if n = 1 then s.post (s.now + usTicks) .glAckTimer (.nat p 0 0) else if n = 64 then s.post s.now .glAckTimer (.nat p 0 0) else s

theorem State.linkStep_countFlit (s : State) (p : Nat) : s.LinkStep (s.countFlit p) := by
  have hset (x : Port) := (State.LinkStep.refl s).setPort p x
  unfold State.countFlit
  dsimp only
  split
  · exact (hset _).post ..
  · split
    · exact (hset _).post ..
    · exact hset _

theorem State.countFlit_out (s : State) (p : Nat) : (s.countFlit p).out = s.out := by
  simp only [State.countFlit]; split
  · rfl
  · split <;> rfl

theorem State.port_countFlit (s : State) (p : Nat) : (s.countFlit p).port p = { s.port p with
    recvSeq := (s.port p).recvSeq + 1, nakked := false, unacked := (s.port p).unacked + 1
    ackFrom := if (s.port p).unacked = 0 then s.now else (s.port p).ackFrom } := by
  simp only [State.countFlit]; split
  · simp
  · split <;> simp

theorem State.agenda_countFlit (s : State) (p : Nat) (d : Due) (h : d ∈ (s.countFlit p).agenda) :
    d ∈ s.agenda ∨ d.ev.i = .glAckTimer := by
  have hpost {t : Nat} {a : EvArg} (h : d ∈ s.agenda ++ [{ tick := t, ev := { i := .glAckTimer, arg := a } }]) :
      d ∈ s.agenda ∨ d.ev.i = .glAckTimer :=
    (List.mem_append.mp h).imp_right fun h => by rw [List.mem_singleton.mp h]
  simp only [State.countFlit] at h
  split at h
  · exact hpost h
  · split at h
    · exact hpost h
    · exact .inl h

@[simp] theorem State.now_countFlit (s : State) (p : Nat) : (s.countFlit p).now = s.now := by
  obtain ⟨_, _, _, h⟩ := s.linkStep_countFlit p
  rw [h]

@[simp] theorem State.peeredAs_countFlit (s : State) (p : Nat) (m : BitVec 12) (n : Nat) :
    (s.countFlit p).peeredAs m n = s.peeredAs m n := by
  obtain ⟨_, _, _, h⟩ := s.linkStep_countFlit p
  rw [h]; rfl

/-- What acceptance does beyond the count, for a flit that brings no credits back. -/
theorem State.accept_request (s : State) (p : Nat) {f : Flit} {r : FabReq} (hcredit : f.credit = 0) (hkind : f.kind = 1)
    (hlast : f.last = true) (hreq : f.req = some r) :
    s.accept p f = (s.countFlit p).post s.now .glRequestArrive
      (.req p { r with came := some s.now, lvd := some (s.peeredAs r.srcMod r.rvd) }) := by
  rw [← s.now_countFlit p, ← s.peeredAs_countFlit p]
  cases f
  subst hcredit hkind hlast hreq
  rfl

theorem State.accept_response (s : State) (p : Nat) {f : Flit} {x : FabResp} (hcredit : f.credit = 0) (hkind : f.kind = 2)
    (hlast : f.last = true) (hreq : f.req = none) (hresp : f.resp = some x) :
    s.accept p f = (s.countFlit p).post s.now .glResponseArrive (.resp p { x with came := some s.now }) := by
  rw [← s.now_countFlit p]
  cases f
  subst hcredit hkind hlast hreq hresp
  rfl

theorem State.accept_data (s : State) (p : Nat) {f : Flit} (hcredit : f.credit = 0) (hkind : f.kind = 1 ∨ f.kind = 2)
    (hlast : f.last = false) : s.accept p f = s.countFlit p := by
  cases f
  subst hcredit hlast
  rcases hkind with rfl | rfl <;> rfl

/-! ## Acknowledgements and credits -/

/-- A port that has one class of buffers to give back owes those credits. -/
theorem Port.credits_give (q : Port) (m : Nat) (h : q.give = [(0, m + 1)]) :
    q.credits false = BitVec.ofNat 16 (min 15 (m + 1)) ∧ q.credits true = 0 := by
  simp [Port.credits, h, List.range, List.range.loop, tgetD, tget, bufKey]

theorem Port.creditFlits_give (q : Port) (m : Nat) (h : q.give = [(0, m + 1)]) (hw : q.waiting = []) :
    q.creditFlits = [{ kind := 3, cls := false }] := by
  have hne : BitVec.ofNat 16 (min 15 (m + 1)) ≠ 0#16 := by
    rw [Ne, BitVec.toNat_eq, BitVec.toNat_ofNat, Nat.mod_eq_of_lt (by omega)]
    exact (by omega : min 15 (m + 1) ≠ 0)
  obtain ⟨hf, ht⟩ := q.credits_give m h
  simp [Port.creditFlits, hf, ht, hw, hne]

theorem Port.creditFlits_nil (q : Port) (h : q.give = []) : q.creditFlits = [] := by
  have hcr (cls : Bool) : q.credits cls = 0 := by simp [Port.credits, h, List.range, List.range.loop, tgetD]
  simp [Port.creditFlits, hcr]

/-- Link control needs no credit: where nothing waits and nothing is out it leaves at once. -/
theorem State.linkSend_control (s : State) (p : Nat) (cls : Bool) (hready : s.portReady p = true) (hreplay : (s.port p).replay = [])
    (hw : (s.port p).waiting = []) (hr : (s.port p).retraining = false) :
    let q := s.port p
    let g : Flit := { kind := 3, cls, seq := q.sendSeq, ack := q.recvSeq - 1, credit := q.credits cls }
    s.linkSend p [{ kind := 3, cls }] s.now none
      = ((s.setPort p { q with
          replay := [{ flit := g, tick := s.now }], sendSeq := q.sendSeq + 1, unacked := 0, give := q.owing cls, progress := s.now }).postOnce
            (s.now + 10 * usTicks) .glRetrain (.nat p 0 0)).send (.flit p g) := by
  simp [State.linkSend, hready, hreplay, hw, hr, State.pump, Port.mayGo, OutFlit.paid]
  rfl

theorem State.ackDue_iff (s : State) (p : Nat) : s.ackDue p = true ↔ (s.port p).retraining = false ∧ (s.port p).unacked ≠ 0
    ∧ (64 ≤ (s.port p).unacked ∨ (s.port p).ackFrom + 2000 ≤ s.now) := by
  have hus : (s.port p).ackFrom + usTicks = (s.port p).ackFrom + 2000 := rfl
  simp [State.ackDue, hus, and_assoc]

theorem glAckTimer_noCredits (s : State) {p n m : Nat} (harg : s.arg = .nat p n m) (hgive : (s.port p).give = []) :
    execGlAckTimer s = .next (if s.ackDue p then
      (s.setPort p { s.port p with unacked := 0 }).send (.flit p { kind := 3, ack := (s.port p).recvSeq - 1 }) else s) := by
  simp [execGlAckTimer, harg, (s.port p).creditFlits_nil hgive]

/-- The flit that returns the credits acknowledges too, so that no other has to. -/
theorem glAckTimer_credits (s : State) {p n m : Nat} (harg : s.arg = .nat p n m) (hgive : (s.port p).give = [(0, m + 1)])
    (hready : s.portReady p = true) (hreplay : (s.port p).replay = []) (hw : (s.port p).waiting = []) (hr : (s.port p).retraining = false) :
    execGlAckTimer s = .next (s.linkSend p [{ kind := 3, cls := false }] s.now none) := by
  have hdue : ¬ (s.linkSend p [{ kind := 3, cls := false }] s.now none).ackDue p = true := by
    rw [State.ackDue_iff, s.linkSend_control p false hready hreplay hw hr]
    simp
  rw [execGlAckTimer, harg]
  simp only [(s.port p).creditFlits_give m hgive hw, List.foldl_cons, List.foldl_nil, if_neg hdue]

/-- What a flit changes at its port, and what it hands on. -/
theorem linkReception : Claims.LinkReception := by
  intro s p n m f r x hready hreplay q nak rest next taken
  have counted : taken (s.countFlit p) := by
    refine ⟨(s.linkStep_countFlit p).eq, s.countFlit_out p, ?_, ?_⟩ <;> rw [s.port_countFlit p]
  have handed (i : Instr) (a : EvArg) : taken ((s.countFlit p).post s.now i a) :=
    ⟨((s.linkStep_countFlit p).post ..).eq, counted.2⟩
  have accepts (h : next) (hkind : f.kind = 1 ∨ f.kind = 2) : exec .glFlitRx s = .next (s.accept p f) := by
    obtain ⟨harg, hcrc, hn, hseq, -⟩ := h
    rw [exec_glFlitRx, glFlitRx_inOrder s harg hready hreplay hcrc hn hkind hseq]
  have noCredit (h : next) : f.credit = 0 := by
    obtain ⟨-, -, -, -, hcredit⟩ := h
    exact hcredit
  have due (i : Instr) (a : EvArg) : { tick := s.now, ev := { i, arg := a } } ∈ ((s.countFlit p).post s.now i a).agenda :=
    List.mem_append_right _ (List.mem_singleton_self _)
  refine ⟨fun harg hcrc hnak => ?_, fun harg hcrc hn hkind hseq hnak => ?_, fun harg hcrc hn hkind => ?_, fun h hkind hlast hreq => ?_,
    fun h hkind hlast hreq hresp => ?_, fun h hkind hlast => ?_, fun harg hgive hw hr => ?_, fun harg hgive hfew => ?_,
    fun harg hgive hr h0 hdue => ?_⟩
  · rw [exec_glFlitRx, glFlitRx_badCrc s harg hready hcrc hnak]
    refine ⟨_, rfl, ((((State.LinkStep.refl s).setPort ..).setPort ..).send ..).eq, ?_, ?_⟩ <;> simp [State.sendNak, nak, q]
  · rw [exec_glFlitRx, glFlitRx_outOfOrder s harg hready hreplay hcrc hn hkind hseq hnak, State.sendNak]
  · rw [exec_glFlitRx, glFlitRx_idle s harg hready hreplay hcrc hn hkind]
  · exact ⟨_, (accepts h (.inl hkind)).trans (congrArg _ (s.accept_request p (noCredit h) hkind hlast hreq)), handed .., due ..⟩
  · exact ⟨_, (accepts h (.inr hkind)).trans (congrArg _ (s.accept_response p (noCredit h) hkind hlast hreq hresp)), handed .., due ..⟩
  · exact ⟨_, (accepts h hkind).trans (congrArg _ (s.accept_data p (noCredit h) hkind hlast)), counted, s.agenda_countFlit p⟩
  · rw [exec_glAckTimer, glAckTimer_credits s harg hgive hready hreplay hw hr]
    have hsent := s.linkSend_control p false hready hreplay hw hr
    refine ⟨_, { kind := 3, cls := false, seq := q.sendSeq, ack := q.recvSeq - 1, credit := q.credits false }, rfl,
      (s.linkStep_linkSend ..).eq, rfl, rfl, rfl, rfl, (q.credits_give m hgive).1, ?_, ?_, ?_⟩ <;> rw [hsent] <;> simp [q]
  · have hdue : ¬ s.ackDue p = true := by
      rw [s.ackDue_iff p]
      rintro ⟨-, h0, hdue⟩
      rcases hfew with h | ⟨h64, hus⟩
      · exact h0 h
      · exact hdue.elim (Nat.not_le_of_lt h64) (Nat.not_le_of_lt hus)
    rw [exec_glAckTimer, glAckTimer_noCredits s harg hgive, if_neg hdue]
  · rw [exec_glAckTimer, glAckTimer_noCredits s harg hgive, if_pos ((s.ackDue_iff p).mpr ⟨hr, h0, hdue⟩)]

end Sys2Proof.Machine
end

section
/-! Retries, retraining and the failure of a Gliron port (02 R46, R47, R56). -/
namespace Sys2Proof.Machine

theorem exec_glNakRx (s : State) : exec .glNakRx s = execGlNakRx s := rfl
theorem exec_glRetrain (s : State) : exec .glRetrain s = execGlRetrain s := rfl
theorem exec_glRetrainDone (s : State) : exec .glRetrainDone s = execGlRetrainDone s := rfl

/-! ## The flit that is out -/

/-- A flit that an acknowledgement does not cover stays in the replay buffer. -/
theorem State.takeAck_uncovered (s : State) {p : Nat} {ack : BitVec 12} {e : OutFlit} (h : (s.port p).replay = [e])
    (hack : 2048 ≤ (ack - e.flit.seq).toNat) : s.takeAck p ack = s := by
  have hkeep : ¬ (ack - e.flit.seq).toNat < 2048 := by omega
  simp [State.takeAck, h, hkeep, -BitVec.toNat_sub]

/-- The flit that it covers leaves the buffer. -/
theorem State.takeAck_covered (s : State) {p : Nat} {ack : BitVec 12} {e : OutFlit} (h : (s.port p).replay = [e])
    (hack : (ack - e.flit.seq).toNat < 2048) (hw : (s.port p).waiting = []) :
    s.takeAck p ack = s.setPort p { s.port p with replay := [], progress := s.now, naks := 0 } := by
  simp [State.takeAck, h, hack, hw, State.pump, -BitVec.toNat_sub]

/-- A flit of the replay buffer is sent again, and the time that it spends here counts from now on. -/
theorem State.replay_paid (s : State) {p : Nat} {e : OutFlit} {f : Flit} (h : (s.port p).replay = [e]) (hpaid : e.paid s.now = some f) :
    s.replay p = (s.send (.flit p f)).setPort p { s.port p with replay := [{ e with flit := f, tick := s.now }] } := by
  simp [State.replay, h, hpaid]

/-- A request whose lifetime has run out leaves an empty flit in its place. -/
theorem State.out_replay_unpaid (s : State) {p : Nat} {e : OutFlit} (h : (s.port p).replay = [e]) (hpaid : e.paid s.now = none) :
    (s.replay p).out = s.out ++ [.flit p { e.flit with req := none }] := by
  simp [State.replay, h, hpaid, State.countDiscard]

theorem State.replay_nil (s : State) {p : Nat} (h : (s.port p).replay = []) : s.replay p = s.setPort p (s.port p) := by
  simp [State.replay, h]
  rw [← h]

theorem OutFlit.paid_of_none {e : OutFlit} (now : Nat) (h : e.flit.req = none) : e.paid now = some e.flit := by
  simp [OutFlit.paid, h]

theorem OutFlit.paid_of_lt {e : OutFlit} {now : Nat} {r : FabReq} (h : e.flit.req = some r) (hlife : lifeSpent (now - e.tick) < r.life) :
    e.paid now = some { e.flit with req := some { r with life := r.life - lifeSpent (now - e.tick) } } := by
  simp [OutFlit.paid, h, Nat.not_le_of_lt hlife]

theorem OutFlit.paid_of_le {e : OutFlit} {now : Nat} {r : FabReq} (h : e.flit.req = some r) (hlife : r.life ≤ lifeSpent (now - e.tick)) :
    e.paid now = none := by
  simp [OutFlit.paid, h, hlife]

/-! ## NAKs -/

/-- NAKs of one SEQ in a row, with this one. -/
def Port.nakCount (q : Port) (a : BitVec 12) : Nat := if q.nakSeq = a ∧ q.naks ≠ 0 then q.naks + 1 else 1

/-- A NAK is taken: what it acknowledges leaves the buffer, and it is counted. -/
def State.takeNak (s : State) (p : Nat) (a : BitVec 12) : State :=
  (s.takeAck p a).setPort p { (s.takeAck p a).port p with nakSeq := a, naks := (s.port p).nakCount a }

theorem glNakRx_retrains (s : State) {p n m : Nat} (harg : s.arg = .nat p n m) (hready : s.portReady p = true)
    (hcount : 8 ≤ (s.port p).nakCount (BitVec.ofNat 12 n)) :
    execGlNakRx s = .next ((s.takeNak p (BitVec.ofNat 12 n)).post (s.takeNak p (BitVec.ofNat 12 n)).now .glRetrain (.nat p 0 0)) := by
  simp only [Port.nakCount] at hcount
  simp [execGlNakRx, harg, hready, hcount, State.takeNak, Port.nakCount]

theorem glNakRx_replays (s : State) {p n m : Nat} (harg : s.arg = .nat p n m) (hready : s.portReady p = true)
    (hcount : (s.port p).nakCount (BitVec.ofNat 12 n) < 8) (hr : (s.port p).retraining = false) :
    execGlNakRx s = .next ((s.takeNak p (BitVec.ofNat 12 n)).replay p) := by
  have hfew := Nat.not_le_of_lt hcount
  simp only [Port.nakCount] at hfew
  simp [execGlNakRx, harg, hready, hfew, hr, State.takeNak, Port.nakCount]

theorem State.takeNak_uncovered (s : State) {p : Nat} {a : BitVec 12} {e : OutFlit} (h : (s.port p).replay = [e])
    (hack : 2048 ≤ (a - e.flit.seq).toNat) :
    s.takeNak p a = s.setPort p { s.port p with nakSeq := a, naks := (s.port p).nakCount a } := by
  rw [State.takeNak, s.takeAck_uncovered h hack]

theorem State.takeNak_covered (s : State) {p : Nat} {a : BitVec 12} {e : OutFlit} (h : (s.port p).replay = [e])
    (hack : (a - e.flit.seq).toNat < 2048) (hw : (s.port p).waiting = []) :
    s.takeNak p a = s.setPort p { s.port p with replay := [], progress := s.now, nakSeq := a, naks := (s.port p).nakCount a } := by
  simp [State.takeNak, s.takeAck_covered h hack hw]

/-! ## Retraining -/

/-- A choice of the schedule uses up the schedule alone. -/
theorem State.choose_eq (s : State) : s.choose.2 = { s with sched := s.choose.2.sched } := by
  unfold State.choose; split <;> rfl

@[simp] theorem State.port_choose (s : State) (p : Nat) : s.choose.2.port p = s.port p := by rw [s.choose_eq]; rfl
@[simp] theorem State.out_choose (s : State) : s.choose.2.out = s.out := by rw [s.choose_eq]

theorem State.port_retrain (s : State) (p : Nat) : (s.retrain p).port p = { s.port p with
    retraining := true, naks := 0, retrain := if (s.port p).retrain = 255 then 255 else (s.port p).retrain + 1 } := by
  simp [State.retrain]

theorem State.out_retrain (s : State) (p : Nat) : (s.retrain p).out = s.out := by simp [State.retrain]

/-- A retrain takes the whole time that R47 gives it; how it ends is the schedule's pick. -/
theorem State.agenda_retrain (s : State) (p : Nat) :
    ∃ ok, { tick := s.now + 2000000, ev := { i := .glRetrainDone, arg := .nat p ok 0 } } ∈ (s.retrain p).agenda :=
  ⟨_, List.mem_append_right _ (List.mem_singleton_self _)⟩

theorem glRetrain_begins (s : State) {p n m : Nat} (harg : s.arg = .nat p n m) (hready : s.portReady p = true)
    (hr : (s.port p).retraining = false) (hreplay : (s.port p).replay ≠ []) (h : 8 ≤ (s.port p).naks ∨ (s.port p).progress + 20000 ≤ s.now) :
    execGlRetrain s = .next (s.retrain p) := by
  have hus : (s.port p).progress + 10 * usTicks = (s.port p).progress + 20000 := rfl
  simp [execGlRetrain, harg, hready, hr, hreplay, hus, h]

theorem glRetrainDone_succeeds (s : State) {p n m : Nat} (harg : s.arg = .nat p n m) (hr : (s.port p).retraining = true) (hn : n ≠ 0)
    (hw : (s.port p).waiting = []) :
    execGlRetrainDone s = .next ((((s.setPort p { s.port p with retraining := false, fails := 0, progress := s.now }).replay p).postOnce
      (((s.setPort p { s.port p with retraining := false, fails := 0, progress := s.now }).replay p).now + 10 * usTicks)
        .glRetrain (.nat p 0 0)).postOnce
      ((s.setPort p { s.port p with retraining := false, fails := 0, progress := s.now }).replay p).now .glAckTimer (.nat p 0 0)) := by
  simp [execGlRetrainDone, harg, hr, hn, hw, State.pump]

theorem glRetrainDone_tries (s : State) {p n m : Nat} (harg : s.arg = .nat p n m) (hr : (s.port p).retraining = true) (hn : n = 0)
    (hf : (s.port p).fails + 1 < 3) :
    execGlRetrainDone s = .next ((s.setPort p { s.port p with fails := (s.port p).fails + 1 }).retrain p) := by
  simp [execGlRetrainDone, harg, hr, hn, hf]

theorem glRetrainDone_fails (s : State) {p n m : Nat} (harg : s.arg = .nat p n m) (hr : (s.port p).retraining = true) (hn : n = 0)
    (hf : 2 ≤ (s.port p).fails) :
    execGlRetrainDone s = .next ((s.setPort p { s.port p with fails := 3 }).failFunc (.gliron p (s.port p).peerId (s.port p).peerPort)) := by
  have hlast : ¬ (s.port p).fails + 1 < 3 := by omega
  simp [execGlRetrainDone, harg, hr, hn, hlast]

/-! ## A port that fails -/

theorem plat_foldl_send {α : Type} (f : α → HostMsg) (l : List α) (s : State) : (l.foldl (fun s e => s.send (f e)) s).plat = s.plat := by
  induction l generalizing s with
  | nil => rfl
  | cons e l ih => rw [List.foldl_cons, ih, State.send_plat]

/-- An event that is posted leaves power and readiness alone. -/
@[simp] theorem State.event_plat (s : State) (ch kind vdb code die : Nat) (detail : List Byte) :
    (s.event ch kind vdb code die detail).plat = s.plat := by
  simp only [State.event, State.flushChan]
  split
  · rfl
  · exact plat_foldl_send _ _ _

theorem getLsbD_putBit {n : Nat} (x : BitVec n) (i : Nat) (v : Bool) (h : i < n) : (putBit x i v).getLsbD i = v := by
  have hbit : (BitVec.ofNat n (2 ^ i)).getLsbD i = true := by
    rw [BitVec.getLsbD_ofNat, Nat.testBit_two_pow_self, Bool.and_true, decide_eq_true h]
  cases v with
  | false =>
    show (x &&& ~~~BitVec.ofNat n (2 ^ i)).getLsbD i = false
    rw [BitVec.getLsbD_and, BitVec.getLsbD_not, hbit, Bool.not_true, Bool.and_false, Bool.and_false]
  | true =>
    show (x ||| BitVec.ofNat n (2 ^ i)).getLsbD i = true
    rw [BitVec.getLsbD_or, hbit, Bool.or_true]

/-- A Gliron port that fails is not ready any more, and its FAIL bit is set (01 R31). -/
theorem State.plat_failFunc_gliron (s : State) {p : Nat} (m : BitVec 12) (k : BitVec 3) (hp : p < 8) (hready : s.portReady p = true) :
    (s.failFunc (.gliron p m k)).plat = (s.plat.setReady (0, 8 + p) false).setFail (0, 8 + p) := by
  have hbit : funcBit (.gliron p m k) = some (0, 8 + p) := if_pos hp
  have hup : s.plat.isReady (0, 8 + p) = true := hready
  simp [State.failFunc, funcParts, State.failOne, hbit, hup, State.dropPort, State.funcFailed]

theorem State.portReady_failFunc_gliron (s : State) {p : Nat} (m : BitVec 12) (k : BitVec 3) (hp : p < 8) (hready : s.portReady p = true) :
    (s.failFunc (.gliron p m k)).portReady p = false := by
  rw [State.portReady, s.plat_failFunc_gliron m k hp hready]
  exact getLsbD_putBit s.plat.readyIo (8 + p) false (by omega)

theorem State.isFailed_failFunc_gliron (s : State) {p : Nat} (m : BitVec 12) (k : BitVec 3) (hp : p < 8) (hready : s.portReady p = true) :
    (s.failFunc (.gliron p m k)).plat.isFailed (0, 8 + p) = true := by
  rw [s.plat_failFunc_gliron m k hp hready]
  exact getLsbD_putBit s.plat.failIo (8 + p) true (by omega)

theorem State.replay_failFunc_gliron (s : State) (p : Nat) (m : BitVec 12) (k : BitVec 3) :
    ((s.failFunc (.gliron p m k)).port p).replay = [] := by
  simp [State.failFunc, State.dropPort]

/-! ## The statement -/

/-- What is sent again after a NAK or a retraining, and when a port retrains and fails. -/
theorem linkRetries : Claims.LinkRetries := by
  intro s p n m e harg hready q a count
  have replay_stays (h : q.replay = [e]) (hack : 2048 ≤ (a - e.flit.seq).toNat) : ((s.takeNak p a).port p).replay = [e] := by
    simpa [s.takeNak_uncovered h hack] using h
  have now_takeNak (h : q.replay = [e]) (hack : 2048 ≤ (a - e.flit.seq).toNat) : (s.takeNak p a).now = s.now := by
    rw [s.takeNak_uncovered h hack, State.setPort_now]
  refine ⟨fun h hack hreq hr hc => ?_, fun r h hack hreq hr hc => ?_, fun h hack hc => ?_, fun h hack hw hr => ?_,
    fun hr hreplay hdue => ?_, fun hr hn h hreq hw => ?_, fun hr hn hf => ?_, fun hr hn hf hp => ?_⟩
  · rw [exec_glNakRx, glNakRx_replays s harg hready hc hr, State.replay_paid _ (replay_stays h hack) (e.paid_of_none _ hreq),
      s.takeNak_uncovered h hack]
    refine ⟨_, rfl, ?_, ?_, ?_, ?_, ?_⟩ <;> simp [Port.nakCount, count, q]
  · rw [exec_glNakRx, glNakRx_replays s harg hready hc hr]
    refine ⟨fun hlife => ⟨_, rfl, ?_⟩, fun hlife => ⟨_, rfl, ?_⟩⟩
    · rw [State.replay_paid _ (replay_stays h hack) (e.paid_of_lt hreq (now_takeNak h hack ▸ hlife)), s.takeNak_uncovered h hack]
      simp
    · rw [State.out_replay_unpaid _ (replay_stays h hack) (e.paid_of_le hreq (now_takeNak h hack ▸ hlife)), s.takeNak_uncovered h hack]
      simp
  · rw [exec_glNakRx, glNakRx_retrains s harg hready hc]
    refine ⟨_, rfl, List.mem_append_right _ ?_⟩
    rw [now_takeNak h hack]
    exact List.mem_singleton_self _
  · by_cases hc : 8 ≤ q.nakCount a
    · rw [exec_glNakRx, glNakRx_retrains s harg hready hc, s.takeNak_covered h hack hw]
      exact ⟨_, rfl, by simp, by simp⟩
    · rw [exec_glNakRx, glNakRx_replays s harg hready (Nat.lt_of_not_le hc) hr, s.takeNak_covered h hack hw, State.replay_nil _ (by simp)]
      exact ⟨_, rfl, by simp, by simp⟩
  · obtain ⟨ok, hend⟩ := s.agenda_retrain p
    rw [exec_glRetrain, glRetrain_begins s harg hready hr hreplay hdue]
    exact ⟨_, ok, rfl, by rw [s.port_retrain p], by rw [s.port_retrain p], hend, s.out_retrain p⟩
  · rw [exec_glRetrainDone, glRetrainDone_succeeds s harg hr hn hw, State.replay_paid (e := e) _ (by simpa using h) (e.paid_of_none _ hreq)]
    exact ⟨_, rfl, by simp, by simp, by simp⟩
  · rw [exec_glRetrainDone, glRetrainDone_tries s harg hr hn hf]
    exact ⟨_, rfl, by rw [State.port_retrain], by rw [State.port_retrain]; simp [q]⟩
  · rw [exec_glRetrainDone, glRetrainDone_fails s harg hr hn hf]
    exact ⟨_, rfl, State.portReady_failFunc_gliron _ _ _ hp hready, State.isFailed_failFunc_gliron _ _ _ hp hready,
      State.replay_failFunc_gliron ..⟩

/-- Settles O58: what a port takes in order it counts and hands on; what is lost it asks for, sends again, or retrains for. -/
theorem fabricLinks : Obligations.FabricLinks := ⟨linkReception, linkRetries⟩

end Sys2Proof.Machine
end

section
/-! An answer to an instruction that has met a late fault already (02 R52, R57, 06 R161). -/
namespace Sys2Proof.Machine

/-- A far atomic that is still out, and has met the late fault PROT in the meantime. -/
def faultedAtomic : Pend := { id := 4, act := .remote 0 (.ratom 0 6 false 0 0 0 0) (.s 1) 6 none, late := some { cause := 2 } }

/-- Its request, which may be answered until tick 1. -/
def faultedRequest : Outstanding :=
  { tx := 9, die := 0, port := 7, tick := 0, limit := 1, req := { op := .ratom 0 6 false 0 0 0 0 }, course := some (0, 4) }

/-- The answer OK to it arrives in time at a module that runs. -/
def faultedAnswered : State :=
  { plat := { cur := .p0 }, arg := .resp 7 { tx := 9, dst := 0 }, fab := { outs := [faultedRequest] }
    courses := [(0, { pends := [faultedAtomic] })] }

theorem exec_glResponseArrive (s : State) : exec .glResponseArrive s = execGlResponseArrive s := rfl

/-- The events that are due once a meaning has been performed. -/
def dueEvents (o : Out) : List Instr :=
  match o with
  | .next t => t.agenda.map (·.ev.i)
  | _ => []

/-- The answer lands, and the late fault is raised again; nothing else becomes due but the credits of the answer's buffer. -/
theorem dueEvents_faultedAnswered : dueEvents (execGlResponseArrive faultedAnswered) = [.glAckTimer, .lateFault] := rfl

/-- Refutes O59: its clause for an answer OK says that INSTRUCTION_COMPLETE becomes due, and does not ask that the instruction has met no
late fault. One that has met a late fault keeps it as its answer lands, and the module posts LATE_FAULT for it (06 R161). -/
theorem not_fabricExchange : ¬ Obligations.FabricExchange := by
  rintro ⟨-, answers⟩
  obtain ⟨taken, -⟩ := answers faultedAnswered 7 0 0 0 0 4 { tx := 9, dst := 0 } faultedRequest { pends := [faultedAtomic] } faultedAtomic 0
    (.ratom 0 6 false 0 0 0 0) (.s 1) 6 none rfl rfl rfl rfl rfl rfl rfl rfl rfl rfl ⟨_, _, _, _, _, _, _, rfl⟩
  obtain ⟨ok, -⟩ := taken rfl rfl rfl rfl (Nat.zero_le 1) (by decide)
  obtain ⟨t, -, ht, -, -, -, -, d, hd, hev⟩ := ok rfl rfl rfl
  have hdue : Instr.instructionComplete ∈ dueEvents (exec .glResponseArrive faultedAnswered) := by
    rw [ht]
    exact List.mem_map.mpr ⟨d, hd, by rw [hev]⟩
  rw [exec_glResponseArrive, dueEvents_faultedAnswered] at hdue
  simp at hdue

end Sys2Proof.Machine
end

section
/-! Packets of a queue pair (02 R35 to R39, 04 R107). -/
namespace Sys2Proof.Machine

theorem exec_roceAtomicVerb (s : State) : exec .roceAtomicVerb s = execRoceAtomicVerb s := rfl
theorem exec_roceRdmaRead (s : State) : exec .roceRdmaRead s = execRoceRdmaRead s := rfl

/-! ## What a packet meets before it is performed -/

/-- A packet, neither marked nor too long for the port, reaches a queue pair that works. -/
def State.hearsPkt (s : State) (p : RocePkt) (q : Qp) : Prop :=
  s.arg = .pkt p ∧ s.hostReady = true ∧ tget s.host.qps p.qpn = some q ∧ q.err = false ∧ s.plat.cur ≠ .retention ∧ p.ecn = false
    ∧ 78 + p.data.length ≤ 9216

/-- The queue pair when m packets more have been taken. -/
def Qp.taken (q : Qp) (m : Nat) : Qp := { q with psn := q.psn + BitVec.ofNat 24 m }

@[simp] theorem State.setQp_setQp (s : State) (n : Nat) (q r : Qp) : (s.setQp n q).setQp n r = s.setQp n r := by
  simp only [State.setQp, tset_tset_same]

/-- A packet that is heard meets its place in the sequence, and nothing else. -/
theorem withPkt_heard {s : State} {p : RocePkt} {q : Qp} (h : s.hearsPkt p q) (n : RocePkt → Qp → Nat) (again : Bool)
    (f : State → RocePkt → Qp → State) :
    s.withPkt n again f = .next (
      if (p.psn - q.psn).toNat = 0 then
        if q.mtuBytes < p.data.length then (s.countFrame.setQp p.qpn { q with err := true }).send (.nak p.qpn 1)
        else f (s.countFrame.setQp p.qpn (q.taken (n p q))) p (q.taken (n p q))
      else if (p.psn - q.psn).toNat < 2 ^ 23 then s.countFrame.send (.nak p.qpn 0)
      else if again then f s.countFrame p q else s.countFrame.send (.ack p.qpn)) := by
  obtain ⟨harg, hready, hqp, herr, hcur, hecn, hlen⟩ := h
  have hready' : s.countFrame.hostReady = true := hready
  have hqp' : tget s.countFrame.host.qps p.qpn = some q := hqp
  have hcur' : s.countFrame.plat.cur ≠ .retention := hcur
  have hshort : longPkt p = false := by simp [longPkt]; omega
  have hecn' : s.countFrame.notifyEcn p.qpn p = s.countFrame := by simp [State.notifyEcn, hecn]
  simp only [State.withPkt, harg, hready', hshort, hqp', herr, hcur', hecn', tgetD_of_tget {} hqp', Qp.taken,
    Bool.not_true, Bool.false_eq_true, if_false]
  split
  · split <;> rfl
  · split <;> rfl

theorem withPkt_performs {s : State} {p : RocePkt} {q : Qp} (h : s.hearsPkt p q) (n : RocePkt → Qp → Nat) (again : Bool)
    (f : State → RocePkt → Qp → State) (hpsn : p.psn = q.psn) (hmtu : p.data.length ≤ q.mtuBytes) :
    s.withPkt n again f = .next (f (s.countFrame.setQp p.qpn (q.taken (n p q))) p (q.taken (n p q))) := by
  simp [withPkt_heard h, hpsn, Nat.not_lt_of_le hmtu]

theorem withPkt_long {s : State} {p : RocePkt} {q : Qp} (h : s.hearsPkt p q) (n : RocePkt → Qp → Nat) (again : Bool)
    (f : State → RocePkt → Qp → State) (hpsn : p.psn = q.psn) (hmtu : q.mtuBytes < p.data.length) :
    s.withPkt n again f = .next ((s.countFrame.setQp p.qpn { q with err := true }).send (.nak p.qpn 1)) := by
  simp [withPkt_heard h, hpsn, hmtu]

theorem withPkt_early {s : State} {p : RocePkt} {q : Qp} (h : s.hearsPkt p q) (n : RocePkt → Qp → Nat) (again : Bool)
    (f : State → RocePkt → Qp → State) (hpsn : p.psn ≠ q.psn) (hahead : (p.psn - q.psn).toNat < 2 ^ 23) :
    s.withPkt n again f = .next (s.countFrame.send (.nak p.qpn 0)) := by
  have h0 : (p.psn - q.psn).toNat ≠ 0 := fun h0 => hpsn (by bv_omega)
  rw [withPkt_heard h, if_neg h0, if_pos hahead]

theorem withPkt_late {s : State} {p : RocePkt} {q : Qp} (h : s.hearsPkt p q) (n : RocePkt → Qp → Nat)
    (f : State → RocePkt → Qp → State) (hbehind : 2 ^ 23 ≤ (p.psn - q.psn).toNat) :
    s.withPkt n false f = .next (s.countFrame.send (.ack p.qpn)) := by
  rw [withPkt_heard h, if_neg (by omega), if_neg (by omega), if_neg (by decide)]

/-! ## Accesses -/

/-- A queue pair in the error state after a NAK (remote access error), whatever it expected before. -/
theorem State.nakAccess_setQp (s : State) (n : Nat) (q : Qp) :
    (s.setQp n q).nakAccess n q = (s.setQp n { q with err := true }).send (.nak n 2) := by
  simp [State.nakAccess]

theorem State.rdmaWrite_refused (s : State) {p : RocePkt} {q : Qp} {n : Nat} (hvd : q.vd = some n)
    (hg : s.granted q n p p.data.length 1 = false) : s.rdmaWrite p q true = s.nakAccess p.qpn q := by
  simp [State.rdmaWrite, hvd, hg]

/-- A write that a region grants, to bytes that translate and may be written. -/
theorem State.rdmaWrite_granted (s : State) {p : RocePkt} {q : Qp} {n : Nat} (hvd : q.vd = some n)
    (hg : s.granted q n p p.data.length 1 = true) (hva : 2 ^ 57 ≥ p.va.toNat + p.data.length)
    (hmap : (s.vd n).mapsAll p.va.toNat p.data.length = true) (hperm : (s.vd n).allows p.va.toNat p.data.length 1 = true) :
    s.rdmaWrite p q true = if s.faceDown n p.va.toNat p.data.length then s.rnrPkt p
      else (s.pokeVA n none 4 p.va.toNat p.data).send (.ack p.qpn) := by
  have hin : ¬ 144115188075855872 < p.va.toNat + p.data.length := Nat.not_lt_of_le hva
  simp [State.rdmaWrite, hvd, hg, hmap, hperm, hin]

/-- What is read depends on the device's mappings and on memory alone. -/
theorem State.peekVA_congr {s t : State} {n : Nat} (hvd : t.vd n = s.vd n) (hdram : t.dram = s.dram) (len : Nat) :
    ∀ a, t.peekVA n a len = s.peekVA n a len := by
  induction len with
  | zero => exact fun _ => rfl
  | succ len ih => exact fun a => by simp only [State.peekVA, hvd, hdram, ih]

theorem roceRdmaRead_refused {s : State} {p : RocePkt} {q : Qp} {n : Nat} (h : s.hearsPkt p q) (hpsn : p.psn = q.psn)
    (hmtu : p.data.length ≤ q.mtuBytes) (hvd : q.vd = some n) (hg : s.granted q n p p.len 0 = false) :
    execRoceRdmaRead s = .next ((s.countFrame.setQp p.qpn (q.taken (q.packets p.len))).nakAccess p.qpn (q.taken (q.packets p.len))) := by
  have hg' : (s.countFrame.setQp p.qpn (q.taken (q.packets p.len))).granted (q.taken (q.packets p.len)) n p p.len 0 = false := hg
  have hvd' : (q.taken (q.packets p.len)).vd = some n := hvd
  rw [execRoceRdmaRead, withPkt_performs h _ _ _ hpsn hmtu]
  simp [hvd', hg']

theorem roceRdmaRead_granted {s : State} {p : RocePkt} {q : Qp} {n : Nat} (h : s.hearsPkt p q) (hpsn : p.psn = q.psn)
    (hmtu : p.data.length ≤ q.mtuBytes) (hvd : q.vd = some n) (hg : s.granted q n p p.len 0 = true) (hva : 2 ^ 57 ≥ p.va.toNat + p.len)
    (hmap : (s.vd n).mapsAll p.va.toNat p.len = true) (hperm : q.mig = true ∨ (s.vd n).allows p.va.toNat p.len 0 = true)
    (hface : s.faceDown n p.va.toNat p.len = false) (hue : s.poisoned n p.va.toNat p.len = false) (hheld : s.readsHeld p.qpn < 64) :
    execRoceRdmaRead s = .next ((s.countFrame.setQp p.qpn (q.taken (q.packets p.len))).sendRead p.qpn (q.taken (q.packets p.len))
      (s.peekVA n p.va.toNat p.len)) := by
  rw [execRoceRdmaRead, withPkt_performs h _ _ _ hpsn hmtu]
  generalize hr : q.taken (q.packets p.len) = r
  generalize hu : s.countFrame.setQp p.qpn r = u
  have hvd' : r.vd = some n := hr ▸ hvd
  have hg' : u.granted r n p p.len 0 = true := hu ▸ hr ▸ hg
  have hin : ¬ 144115188075855872 < p.va.toNat + p.len := Nat.not_lt_of_le hva
  have hmap' : (u.vd n).mapsAll p.va.toNat p.len = true := hu ▸ hmap
  have hperm' : r.mig = true ∨ (u.vd n).allows p.va.toNat p.len 0 = true := hu ▸ hr ▸ hperm
  have hface' : u.faceDown n p.va.toNat p.len = false := hu ▸ hface
  have hue' : u.poisoned n p.va.toNat p.len = false := hu ▸ hue
  have hheld' : ¬ 64 ≤ u.readsHeld p.qpn := hu ▸ Nat.not_le_of_lt hheld
  have hread : u.peekVA n p.va.toNat p.len = s.peekVA n p.va.toNat p.len := State.peekVA_congr (hu ▸ rfl) (hu ▸ rfl) _ _
  rcases hperm' with hperm' | hperm' <;> simp [hvd', hg', hin, hmap', hperm', hface', hue', hheld', hread]

/-! ## Command messages -/

/-- A field of one byte is that byte. -/
theorem fieldB_one (l : List Byte) (off : Nat) : fieldB l off 1 = (l.getD off 0).toNat := by
  simp [fieldB, sliceB, leNat, List.range, List.range.loop]

/-- A command message of a length that the channel takes starts the command that its opcode names. -/
theorem State.takeSend_cmd (s : State) {p : RocePkt} (q : Qp) {i : Instr} (hqp : isCmdQp p.qpn = true) (hmin : 16 ≤ p.data.length)
    (hmax : p.data.length ≤ 256) (hi : cmdInstr (fieldB p.data 1 1) = some i) :
    s.takeSend p q = (s.send (.ack p.qpn)).post s.now i (.cmd (cmdOf p.qpn p.data)) := by
  have hopc : (cmdOf p.qpn p.data).opc.toNat = fieldB p.data 1 1 := by simp [cmdOf, fieldB_one]
  simp [State.takeSend, hqp, hopc, hi, Nat.not_lt_of_le hmin, Nat.not_lt_of_le hmax]

/-! ## The statement -/

/-- The packets that are acknowledged alone when they have been performed: all but an RDMA READ. -/
theorem exec_oncePkt {i : Instr} (hi : i ∈ [Instr.roceAtomicVerb, .roceRdmaWrite, .roceRdmaWriteImm, .roceSend, .roceSendImm]) :
    ∃ f, ∀ s, exec i s = s.withPkt onePkt false f := by
  simp only [List.mem_cons, List.not_mem_nil, or_false] at hi
  rcases hi with rfl | rfl | rfl | rfl | rfl
  · exact ⟨fun s p _ => s.send (.nak p.qpn 1), fun _ => rfl⟩
  · exact ⟨fun s p q => s.rdmaWrite p q true, fun _ => rfl⟩
  · exact ⟨fun s p q => s.rdmaWrite p q true, fun _ => rfl⟩
  · exact ⟨fun s p q => s.takeSend p q, fun _ => rfl⟩
  · exact ⟨fun s p q => s.takeSend p q, fun _ => rfl⟩

theorem exec_rdmaWrite {i : Instr} (hi : i ∈ [Instr.roceRdmaWrite, .roceRdmaWriteImm]) (s : State) :
    exec i s = s.withPkt onePkt false (fun s p q => s.rdmaWrite p q true) := by
  simp only [List.mem_cons, List.not_mem_nil, or_false] at hi
  rcases hi with rfl | rfl <;> rfl

theorem exec_roceSend (s : State) : exec .roceSend s = s.withPkt onePkt false (fun s p q => s.takeSend p q) := rfl
theorem exec_roceSendImm (s : State) : exec .roceSendImm s = s.withPkt onePkt false (fun s p q => s.takeSend p q) := rfl

/-- A packet in its place is performed, with its queue pair a step further; one out of its place changes no memory. -/
theorem rocePackets : Claims.RocePackets := by
  intro s p q n harg hready hqp herr hcur hecn hlen k taken c a v fits early late gives refuses okW okR m
  have h : s.hearsPkt p q := ⟨harg, hready, hqp, herr, hcur, hecn, hlen⟩
  have performs (hfits : fits) (f : State → RocePkt → Qp → State) : s.withPkt onePkt false f = .next (f c p (taken 1)) :=
    withPkt_performs h onePkt false f hfits.1 hfits.2
  refine ⟨fun hfits => ?_, fun hfits hvd hg hok i hi => ?_, fun hfits hvd hg => ?_, fun hfits hvd hg hok hface hue hheld => ?_,
    fun hfits hvd hg => ?_, fun i hfits hcmd hmin hmax hi => ?_, fun i hi => ⟨fun hearly => ?_, fun hlate => ?_, fun hpsn hmtu => ?_⟩⟩
  · show exec .roceAtomicVerb s = _
    rw [exec_roceAtomicVerb, execRoceAtomicVerb, performs hfits]
  · obtain ⟨hva, hmap, hperm⟩ := hok
    have hwrite : exec i s = .next (c.rdmaWrite p (taken 1) true) := (exec_rdmaWrite hi s).trans (performs hfits _)
    rw [c.rdmaWrite_granted (q := taken 1) hvd hg hva hmap hperm] at hwrite
    exact ⟨fun hface => hwrite.trans (congrArg _ (if_neg (Bool.eq_false_iff.mp hface))), fun hface => hwrite.trans (congrArg _ (if_pos hface))⟩
  · have hwrite (i : Instr) (hi : i ∈ [Instr.roceRdmaWrite, .roceRdmaWriteImm]) : refuses i 1 := by
      show exec i s = _
      rw [exec_rdmaWrite hi, performs hfits, c.rdmaWrite_refused (q := taken 1) hvd hg, State.nakAccess_setQp]
    exact ⟨hwrite _ (by simp), hwrite _ (by simp)⟩
  · obtain ⟨hva, hmap, hperm⟩ := hok
    exact (exec_roceRdmaRead s).trans (roceRdmaRead_granted h hfits.1 hfits.2 hvd hg hva hmap hperm hface hue hheld)
  · show exec .roceRdmaRead s = _
    rw [exec_roceRdmaRead, roceRdmaRead_refused h hfits.1 hfits.2 hvd hg, State.nakAccess_setQp]
    rfl
  · intro t
    have hsend : c.takeSend p (taken 1) = t := by
      rw [c.takeSend_cmd (taken 1) hcmd hmin hmax hi]; rfl
    exact ⟨(exec_roceSend s).trans ((performs hfits _).trans (congrArg _ hsend)),
      (exec_roceSendImm s).trans ((performs hfits _).trans (congrArg _ hsend))⟩
  all_goals
    obtain ⟨f, hf⟩ := exec_oncePkt hi
    show exec i s = _
    rw [hf]
  · exact withPkt_early h _ _ _ hearly.1 hearly.2
  · exact withPkt_late h _ _ hlate
  · exact withPkt_long h _ _ _ hpsn hmtu

end Sys2Proof.Machine
end

section
/-! Frames that the host port counts, pauses, and the buffers of event channels (02 R35, R36, 04 R119, R122). -/
namespace Sys2Proof.Machine

theorem exec_frameDiscardEthertype (s : State) : exec .frameDiscardEthertype s = execFrameDiscardEthertype s := rfl
theorem exec_pfcPauseRx (s : State) : exec .pfcPauseRx s = execPfcPauseRx s := rfl
theorem exec_eventSpaceReturn (s : State) : exec .eventSpaceReturn s = execEventSpaceReturn s := rfl

@[simp] theorem State.hostReady_countFrame (s : State) : s.countFrame.hostReady = s.hostReady := rfl

/-! ## Frames -/

/-- A frame that the port does not take. -/
theorem frameDiscard_drops (s : State) {n len bad : Nat} (hready : s.hostReady = true) (harg : s.arg = .nat n len bad) (hbad : bad ≠ 1)
    (h : n ∉ portTypes ∨ 9216 < len ∨ bad = 2) : execFrameDiscardEthertype s = .next s.countFrame.dropLong := by
  have hdrop : (!portTypes.contains n || decide (9216 < len) || decide (bad = 2)) = true := by
    simpa [or_assoc] using h
  simp only [execFrameDiscardEthertype, harg, State.hostReady_countFrame, hready, hbad, hdrop, Bool.not_true, Bool.false_eq_true,
    if_false, if_true]

theorem frameDiscard_fcs (s : State) {n len : Nat} (hready : s.hostReady = true) (harg : s.arg = .nat n len 1) :
    execFrameDiscardEthertype s = .next { s.countFrame with host := { s.countFrame.host with fcserr := bump s.countFrame.host.fcserr } } := by
  simp [execFrameDiscardEthertype, harg, hready]

/-! ## Pauses -/

theorem pfcPause_takes (s : State) {n a b : Nat} (hready : s.hostReady = true) (harg : s.arg = .nat n a b) :
    execPfcPauseRx s = .next ({ s.countFrame with host := { s.countFrame.host with
      pfcrx := bump s.countFrame.host.pfcrx, pause := BitVec.ofNat 8 n } } : State).resumeSends := by
  simp [execPfcPauseRx, harg, hready]

/-- Where nothing waits nothing goes out. -/
theorem State.resumeSends_nil (s : State) (h : s.host.held = []) : s.resumeSends = s := by
  simp only [State.resumeSends, h, List.foldl_nil]
  rw [← h]

/-! ## Event channels -/

/-- A channel without events delivers none. -/
theorem EvChan.flush_nil (vdb time n : Nat) {c : EvChan} (hq : c.queued = []) (hd : c.dropped = 0) : EvChan.flush vdb time n c = ([], c) := by
  cases n with
  | zero => rfl
  | succ n => simp [EvChan.flush, hq, hd]

/-- A buffer takes the one event that waits, under the channel's TAG. -/
theorem EvChan.flush_one (vdb time n : Nat) {c : EvChan} {e : List Byte} (hq : c.queued = [e]) (hd : c.dropped = 0) (hs : c.space ≠ 0) :
    EvChan.flush vdb time (n + 1) c
      = ([(e, c.tag)], { c with space := c.space - 1, queued := [], tag := (c.tag + 1) % 2 ^ 32 }) := by
  have hrest (tag : Nat) : EvChan.flush vdb time n { space := c.space - 1, tag } = ([], { space := c.space - 1, tag }) :=
    EvChan.flush_nil vdb time n rfl rfl
  simp [EvChan.flush, hq, hd, hs, hrest]

theorem State.flushChan_tset (s : State) (ch : Nat) {c d : EvChan} {l : List (List Byte × Nat)} (hcur : s.plat.cur ≠ .retention)
    (h : ∀ vdb time, EvChan.flush vdb time (c.space + 1) c = (l, d)) :
    ({ s with chans := tset s.chans ch c } : State).flushChan ch
      = l.foldl (fun s e => s.send (.event ch e.2 e.1)) { s with chans := tset s.chans ch d } := by
  simp [State.flushChan, hcur, h]

/-- Posted buffers add to the channel's space, and the channel delivers what it can. -/
theorem eventSpaceReturn_posts (s : State) {ch n m : Nat} (harg : s.arg = .nat ch n m)
    (hthere : if ch = 64 then tget s.host.qps 0x100 ≠ none else tget s.vds ch ≠ none) :
    execEventSpaceReturn s = .next (({ s with chans := tset s.chans ch { tgetD s.chans ch {} with
      space := (tgetD s.chans ch {}).space + n } } : State).flushChan ch) := by
  have hthere' : (if ch = 64 then (tget s.host.qps 0x100).isSome else (tget s.vds ch).isSome) = true := by
    split at hthere
    · simp [*, Option.isSome_iff_ne_none]
    · simp [*, Option.isSome_iff_ne_none]
  simp [execEventSpaceReturn, harg, hthere']

/-- A pause holds a message, or not, whatever else the module has changed before it sends. -/
theorem State.says_send {s t : State} (hout : t.out = s.out) (hhost : t.host = s.host) (m : HostMsg) : s.says (t.send m) m := by
  have hpaused : t.paused m = s.paused m := by simp only [State.paused, hhost]
  simp [State.says, hpaused, hout, hhost]

/-! ## The statement -/

/-- What the port counts, whom a pause holds, and what posted buffers take. -/
theorem hostPortCounts : Claims.HostPortCounts := by
  intro s n ch m e up c ready paused
  refine ⟨fun hready harg h => ?_, fun hready harg => ?_, fun hready harg => ?_, fun hready harg => ?_, fun hready harg hheld => ?_,
    fun harg hthere hd _ hcur => ⟨fun hq => ?_, fun hq hs hn => ?_⟩⟩
  · have hdrop : n ∉ portTypes ∨ 9216 < ch ∨ 0 = 2 := h.imp (by simp [portTypes]) Or.inl
    rw [exec_frameDiscardEthertype, frameDiscard_drops s hready harg (by decide) hdrop]; rfl
  · rw [exec_frameDiscardEthertype, frameDiscard_drops s hready harg (by decide) (.inr (.inr rfl))]; rfl
  · rw [exec_frameDiscardEthertype, frameDiscard_fcs s hready harg]; rfl
  · rw [exec_pfcPauseRx, pfcPause_takes s hready harg]; rfl
  · rw [exec_pfcPauseRx, pfcPause_takes s hready harg, State.resumeSends_nil]
    · rfl
    · exact hheld
  · have hflush := s.flushChan_tset ch (c := { c with space := c.space + n }) hcur (fun vdb time => EvChan.flush_nil vdb time _ hq hd)
    rw [exec_eventSpaceReturn, eventSpaceReturn_posts s harg hthere, hflush]
    exact ⟨_, rfl, rfl, tgetD_tset_same ..⟩
  · have hspace : c.space + n ≠ 0 := by omega
    have hflush := s.flushChan_tset ch (c := { c with space := c.space + n }) hcur (fun vdb time => EvChan.flush_one vdb time _ hq hd hspace)
    rw [exec_eventSpaceReturn, eventSpaceReturn_posts s harg hthere, hflush, List.foldl_cons, List.foldl_nil]
    refine ⟨_, rfl, State.says_send (by rfl) (by rfl) _, ?_⟩
    rw [State.send_chans, tgetD_tset_same, hs, Nat.zero_add]

/-- Settles O47: a packet is performed, refused, or answered alone by its place in the sequence; the port counts, pauses and delivers. -/
theorem hostPackets : Obligations.HostPackets := ⟨rocePackets, hostPortCounts⟩

end Sys2Proof.Machine
end

section
/-! What the management channel's requests outside SPDM do (03 R70 to R73, R94, 04 R95). -/
namespace Sys2Proof.Machine

theorem exec_cmdqpOpen (s : State) : exec .cmdqpOpen s = execCmdqpOpen s := rfl
theorem exec_warmReset (s : State) : exec .warmReset s = execWarmReset s := rfl
theorem exec_sessionAuth (s : State) : exec .sessionAuth s = execSessionAuth s := rfl
theorem exec_securedMessage (s : State) : exec .securedMessage s = execSecuredMessage s := rfl
theorem exec_secProvision (s : State) : exec .secProvision s = execSecProvision s := rfl
theorem exec_secLock (s : State) : exec .secLock s = execSecLock s := rfl
theorem exec_secUnlock (s : State) : exec .secUnlock s = execSecUnlock s := rfl
theorem exec_secSetdbg (s : State) : exec .secSetdbg s = execSecSetdbg s := rfl
theorem exec_fwUpdate (s : State) : exec .fwUpdate s = execFwUpdate s := rfl
theorem exec_fwData (s : State) : exec .fwData s = execFwData s := rfl
theorem exec_fwEnd (s : State) : exec .fwEnd s = execFwEnd s := rfl
theorem exec_dbgOpen (s : State) : exec .dbgOpen s = execDbgOpen s := rfl
theorem exec_dbgClose (s : State) : exec .dbgClose s = execDbgClose s := rfl
theorem exec_mgmtBadOpcode (s : State) : exec .mgmtBadOpcode s = execMgmtBadOpcode s := rfl

/-! ## Answers -/

/-- A message that leaves by no queue pair is never held by a pause (02 R36). -/
theorem State.send_noQp (s : State) {m : HostMsg} (h : m.qp = none) : s.send m = { s with out := s.out ++ [m] } := by
  simp [State.send, State.paused, h]

/-- An answer of the management channel leaves at once. -/
theorem State.answer_eq (s : State) (f : MgmtFrame) (st : Nat) (b : List Byte) :
    s.answer f st b = { s with out := s.out ++ [.mgmt f.src f.opc f.tag st f.session b] } := s.send_noQp rfl

/-- A counted frame changes one count of the host port and nothing else. -/
theorem State.countMgmt_eq (s : State) (f : MgmtFrame) :
    s.countMgmt f = { s with host := { s.host with rxfrm := (s.countMgmt f).host.rxfrm } } := by
  unfold State.countMgmt; split <;> rfl

@[simp] theorem State.countMgmt_out (s : State) (f : MgmtFrame) : (s.countMgmt f).out = s.out := by rw [State.countMgmt_eq]
@[simp] theorem State.countMgmt_now (s : State) (f : MgmtFrame) : (s.countMgmt f).now = s.now := by rw [State.countMgmt_eq]
@[simp] theorem State.countMgmt_vds (s : State) (f : MgmtFrame) : (s.countMgmt f).vds = s.vds := by rw [State.countMgmt_eq]
@[simp] theorem State.countMgmt_qps (s : State) (f : MgmtFrame) : (s.countMgmt f).host.qps = s.host.qps := by rw [State.countMgmt_eq]
@[simp] theorem State.countMgmt_hostReady (s : State) (f : MgmtFrame) : (s.countMgmt f).hostReady = s.hostReady := by
  simp only [State.hostReady, State.countMgmt_plat]

/-- A request of a session belongs to no frame of the host port. -/
theorem State.countMgmt_inSession (s : State) {f : MgmtFrame} {k : Nat} (h : f.session = some k) : s.countMgmt f = s := by
  simp [State.countMgmt, h]

/-! ## CMDQP_OPEN -/

/-- A queue-pair block whose MTU is one of R99 gives a queue pair that works. -/
theorem qpBlock_of_mtu {l : List Byte} (vd : Option Nat) (h : fieldB l 24 1 ≤ 2) :
    ∃ q, qpBlock l vd = some q ∧ q.err = false ∧ q.hqpn = BitVec.ofNat 24 (fieldB l 0 3) :=
  ⟨_, if_neg (Nat.not_lt_of_le h), rfl, rfl⟩

/-! ## WARM_RESET -/

/-- The readiness limits of functions are events to come, and nothing else. -/
theorem foldl_readyTimeout (l : List Func) : ∀ s : State, ∃ agenda,
    l.foldl (fun s f => s.post (s.now + funcTicks f) .readyTimeout (.func f)) s = { s with agenda } := by
  induction l with
  | nil => exact fun s => ⟨s.agenda, rfl⟩
  | cons f l ih =>
    intro s
    obtain ⟨agenda, h⟩ := ih (s.post (s.now + funcTicks f) .readyTimeout (.func f))
    exact ⟨agenda, h⟩

/-- What a bring-up makes of the security state. -/
def Sec.afresh (x : Sec) : Sec := { x.cut.provisioned.boot with pending := false }

@[simp] theorem Sec.cut_st (x : Sec) : x.cut.st = x.st := by
  unfold Sec.cut Sec.setTarget
  split
  · split <;> rfl
  · split <;> rfl
  · rfl

theorem Sec.afresh_fields (x : Sec) : x.afresh.st = x.st ∧ x.afresh.dbg = [] ∧ x.afresh.spdm = [] := by
  have hst : x.cut.provisioned.st = x.st := x.cut_st
  unfold Sec.afresh Sec.boot
  dsimp only
  split
  · exact ⟨hst, rfl, rfl⟩
  · exact ⟨hst, rfl, rfl⟩

/-- A bring-up starts the clocks of a module that holds nothing but what was provisioned. -/
theorem State.bringUp_eq (s : State) : ∃ agenda, s.bringUp = { s.lost with
    plat := { s.lost.plat with cur := .p0, since := some s.now }
    sec := s.sec.afresh
    benches := (List.range 64).map (fun i => (i, { clk0 := s.now })), agenda } := by
  unfold State.bringUp
  exact foldl_readyTimeout allFuncs _

/-- Where P0 is wanted, the forces alone can begin a transition. -/
theorem State.settlePower_p0 (s : State) (hbusy : s.plat.busy = false) (hcur : s.plat.cur = .p0) (htarget : s.plat.target = .p0) :
    ∃ busy going began agenda, s.settlePower = { s with plat := { s.plat with busy, going, began }, agenda } := by
  by_cases hforced : (s.plat.therm || s.plat.cap) = true
  · have h : s.settlePower = s.beginPower .p1 (2 * usTicks) .powerTransitionDone := by
      simp [State.settlePower, hbusy, hcur, htarget, hforced]
    exact ⟨_, _, _, _, h⟩
  · have h : s.settlePower = s := by
      simp [State.settlePower, hbusy, hcur, htarget, hforced]
    exact ⟨_, _, _, _, h⟩

/-- A bring-up under the forces that last: the module holds what was provisioned, and its clocks start now. -/
theorem State.bringUp_forced (s : State) (therm cap : Bool) :
    ∃ plat sec benches agenda, ({ s.bringUp with plat := { s.bringUp.plat with therm, cap } } : State).settlePower
        = { s.lost with plat, sec, benches, agenda }
      ∧ plat.since = some s.now ∧ plat.readyIo = 0 ∧ sec = s.sec.afresh := by
  obtain ⟨agenda, hup⟩ := s.bringUp_eq
  obtain ⟨_, _, _, _, hset⟩ := State.settlePower_p0 { s.bringUp with plat := { s.bringUp.plat with therm, cap } }
    (by rw [hup]; rfl) (by rw [hup]) (by rw [hup]; rfl)
  rw [hset, hup]
  exact ⟨_, _, _, _, rfl, rfl, rfl, rfl⟩

/-! ## SESSION_AUTH -/

/-- The key of a SESSION_AUTH is the one that its session asks for, and has signed the session. -/
def Sec.authenticates (y : Sec) (x : Spdm) (f : MgmtFrame) : Prop :=
  sha384 (sliceB f.body 1 97) = (if bodyAt f 0 1 = 1 then y.ownerHash else y.debugHash)
    ∧ ecdsaOk (sliceB f.body 1 97) (sha384 (Config.transcript x.id) ++ [f.body.getD 0 0]) (sliceB f.body 98 96) = true

/-- A finished session that asks for the owner's or the debugger's standing gets it when key and signature fit, and keeps its own otherwise. -/
theorem sessionAuth_performs {s : State} {f : MgmtFrame} {k : Nat} {x : Spdm} (harg : s.arg = .frame f) (hup : s.mgmtUp = true)
    (hboot : s.sec.bootfail = false) (hver : f.ver = 1) (hshort : f.short = false) (hopc : f.opc.toNat = 5) (hlen : f.body.length = 194)
    (hk : f.session = some k) (hx : tget s.sec.spdm k = some x) (hfin : x.finished = true) (hwho : fieldB f.body 0 1 = 1 ∨ fieldB f.body 0 1 = 2) :
    (s.sec.authenticates x f → exec .sessionAuth s
        = .next (({ s with sec := { s.sec with spdm := tset s.sec.spdm k { x with standing := fieldB f.body 0 1 } } } : State).answer f 0 []))
    ∧ (¬ s.sec.authenticates x f → exec .sessionAuth s = .next (s.answer f 0xf [])) := by
  have hkind : (decide (bodyAt f 0 1 = 0) || decide (2 < bodyAt f 0 1)) = false := by
    rcases hwho with h | h <;> simp [bodyAt, h]
  rw [exec_sessionAuth, execSessionAuth, withFrame_performs _ _ harg hup hboot hopc hver hshort (by omega) (by simp [hlen]),
    s.countMgmt_inSession hk]
  simp only [hk, hx, hkind, hfin, Bool.not_true, Bool.false_eq_true, if_false]
  refine ⟨fun h => ?_, fun h => ?_⟩
  · exact congrArg Host.Outcome.next (if_neg (by simpa [Sec.authenticates] using h))
  · refine congrArg Host.Outcome.next (if_pos ?_)
    simpa [Sec.authenticates, Classical.or_iff_not_imp_left] using h

/-! ## Requests of a session -/

/-- The requests of 03 R70 outside SPDM and SECURED, by their opcodes. -/
def requestInstrs : List (Nat × Instr) :=
  [(1, .mregRead), (2, .mregWrite), (3, .cmdqpOpen), (4, .warmReset), (5, .sessionAuth), (0x10, .secProvision),
    (0x11, .secLock), (0x12, .secUnlock), (0x13, .secSetdbg), (0x18, .fwUpdate), (0x19, .fwData), (0x1a, .fwEnd), (0x20, .dbgOpen), (0x21, .dbgClose)]

theorem withFrame_next (s : State) (opc : Nat) (fits : Nat → Bool) (boot : MgmtFrame → Bool) (g : State → MgmtFrame → State) :
    ∃ t, s.withFrame opc fits boot g = .next t := by
  simp only [State.withFrame]
  repeat' split
  all_goals exact ⟨_, rfl⟩

theorem mgmtBadOpcode_next (s : State) : ∃ t, exec .mgmtBadOpcode s = .next t := by
  simp only [exec_mgmtBadOpcode, execMgmtBadOpcode]
  repeat' split
  all_goals exact ⟨_, rfl⟩

/-- Every request that the channel knows goes on. -/
theorem request_next {opc : Nat} {i : Instr} (hi : (opc, i) ∈ requestInstrs) (s : State) : ∃ t, exec i s = .next t := by
  simp only [requestInstrs, List.mem_cons, Prod.mk.injEq, List.not_mem_nil, or_false] at hi
  rcases hi with ⟨-, rfl⟩ | ⟨-, rfl⟩ | ⟨-, rfl⟩ | ⟨-, rfl⟩ | ⟨-, rfl⟩ | ⟨-, rfl⟩ | ⟨-, rfl⟩ | ⟨-, rfl⟩ | ⟨-, rfl⟩ | ⟨-, rfl⟩
    | ⟨-, rfl⟩ | ⟨-, rfl⟩ | ⟨-, rfl⟩ | ⟨-, rfl⟩
  all_goals
    simp only [exec_mregRead, exec_mregWrite, exec_cmdqpOpen, exec_warmReset, exec_sessionAuth, exec_secProvision, exec_secLock,
      exec_secUnlock, exec_secSetdbg, exec_fwUpdate, execFwUpdate, exec_fwData, exec_fwEnd, exec_dbgOpen, exec_dbgClose]
    exact withFrame_next ..

/-- A request that the channel knows is performed as the instruction of its opcode. -/
theorem State.perform1_request (s : State) {g : MgmtFrame} {i : Instr} (hver : g.ver = 1) (hi : (g.opc.toNat, i) ∈ requestInstrs) :
    s.perform1 g = exec i { s with arg := .frame g } := by
  simp only [requestInstrs, List.mem_cons, Prod.mk.injEq, List.not_mem_nil, or_false] at hi
  rcases hi with ⟨h, rfl⟩ | ⟨h, rfl⟩ | ⟨h, rfl⟩ | ⟨h, rfl⟩ | ⟨h, rfl⟩ | ⟨h, rfl⟩ | ⟨h, rfl⟩ | ⟨h, rfl⟩ | ⟨h, rfl⟩ | ⟨h, rfl⟩
    | ⟨h, rfl⟩ | ⟨h, rfl⟩ | ⟨h, rfl⟩ | ⟨h, rfl⟩
  all_goals
    simp only [State.perform1, hver, h]
    rfl

/-- A request that the channel does not know is performed as one. -/
theorem State.perform1_unknown (s : State) {g : MgmtFrame} (h : g.ver ≠ 1 ∨ g.opc.toNat ∉ requestInstrs.map (·.1)) :
    s.perform1 g = exec .mgmtBadOpcode { s with arg := .frame g } := by
  rw [exec_mgmtBadOpcode]
  unfold State.perform1
  by_cases hver : g.ver = 1
  · have hopc := h.resolve_left (· hver)
    rw [if_neg (· hver)]
    split
    case h_15 => rfl
    all_goals simp_all [requestInstrs]
  · exact if_pos hver

/-- Whatever a session carries, the module goes on. -/
theorem State.perform1_next (s : State) (g : MgmtFrame) : ∃ t, s.perform1 g = .next t := by
  by_cases h : g.ver ≠ 1 ∨ g.opc.toNat ∉ requestInstrs.map (·.1)
  · rw [s.perform1_unknown h]
    exact mgmtBadOpcode_next _
  · obtain ⟨hver, hopc⟩ := not_or.mp h
    obtain ⟨⟨n, i⟩, hi, rfl : n = g.opc.toNat⟩ := List.mem_map.mp (Classical.not_not.mp hopc)
    rw [s.perform1_request (Classical.not_not.mp hver) hi]
    exact request_next hi _

/-- A session has carried one message more. -/
def State.carry (s : State) (n : Nat) (x : Spdm) : State :=
  { s with sec := { s.sec with spdm := tset s.sec.spdm n { x with carried := x.carried + 1 } } }

/-- A secured message that opens is performed in its session, and its answers go back protected. -/
theorem securedMessage_performs {s : State} {f : MgmtFrame} {x : Spdm} {l : List Byte} (harg : s.arg = .frame f) (hup : s.mgmtUp = true)
    (hboot : s.sec.bootfail = false) (hver : f.ver = 1) (hshort : f.short = false) (hopc : f.opc.toNat = 0x31) (hlong : longFrame f = false)
    (hlen : 6 ≤ f.body.length) (hx : tget s.sec.spdm (fieldB f.body 2 2) = some x) (hfin : x.finished = true) (hl : x.opened f.body = some l) :
    ∃ v, ((s.countMgmt f).carry (fieldB f.body 2 2) x).perform1 (frameOf f.src (fieldB f.body 2 2) l) = .next v
      ∧ exec .securedMessage s = .next (v.protectAnswers s.out.length f (fieldB f.body 2 2) x) := by
  obtain ⟨v, hv⟩ := State.perform1_next ((s.countMgmt f).carry (fieldB f.body 2 2) x) (frameOf f.src (fieldB f.body 2 2) l)
  refine ⟨v, hv, ?_⟩
  have hup' : (s.countMgmt f).mgmtUp = true := (s.countMgmt_mgmtUp f).trans hup
  rw [← s.countMgmt_sec f] at hboot hx
  have hcarried := hv
  simp only [State.carry, hboot] at hcarried
  rw [exec_securedMessage, ← s.countMgmt_out f]
  simp only [execSecuredMessage, harg, hopc, hlong, hup', hver, hshort, hboot, bodyAt, Nat.not_lt_of_le hlen, hx, hl, hcarried]
  simp [hfin]

/-- The one answer of a request in a session goes back protected, after what was sent before. -/
theorem State.protectAnswers_out (s : State) (sent : List HostMsg) (f : MgmtFrame) (n : Nat) (x : Spdm) {d : BitVec 48} {opc : BitVec 8}
    {tag : BitVec 32} {st k : Nat} {b : List Byte} (h : s.out = sent ++ [.mgmt d opc tag st (some k) b]) :
    (s.protectAnswers sent.length f n x).out = sent ++ [.mgmt d 0x31 f.tag 0 (some n) (x.protect n (mgmtPayload opc st tag b))] := by
  simp [State.protectAnswers, h]

/-- A changed entry leaves the others. -/
theorem tget_tmod_other {α : Type} (m : FMap α) {k n : Nat} (f : α → α) (h : k ≠ n) : tget (tmod m k f) n = tget m n := by
  unfold tmod
  split
  · exact tget_tset_other m _ h
  · rfl

/-! ## The statement -/

/-- What each of these requests is answered and leaves. -/
theorem managementRequestsOutsideSpdm : Claims.ManagementRequests := by
  intro s f k x harg hup hboot hver hshort c ok locked key who
  have performs {opc len : Nat} (h : ok opc len) (hlen : len ≤ 9182) (boot : MgmtFrame → Bool) (g : State → MgmtFrame → State) :
      s.withFrame opc (· = len) boot g = .next (g c f) := by
    obtain ⟨hopc, rfl⟩ := h
    exact withFrame_performs boot g harg hup hboot hopc hver hshort hlen (by simp)
  have hneeds : locked → c.needsOwner f = true := fun h => (s.countMgmt_needsOwner f f).trans ((needsOwner_iff s f).mpr h)
  have hfree : ¬ locked → c.needsOwner f = false := fun h => by
    rw [State.countMgmt_needsOwner, ← Bool.not_eq_true, needsOwner_iff]; exact h
  refine ⟨fun h hl => ?_, fun h hl hready hmtu => ?_, fun h hl => ?_, fun h hl => ?_, fun h hk hx hfin hwho => ?_,
    fun l hopc hlong hlen hx hfin hl => ?_, fun hreq hlong h30 h31 => ?_⟩
  · rw [exec_cmdqpOpen, execCmdqpOpen, performs h (by decide), if_pos (hneeds hl)]
  · obtain ⟨q, hq, herr, hhqpn⟩ := qpBlock_of_mtu none hmtu
    have hready' : c.hostReady = true := (s.countMgmt_hostReady f).trans hready
    rw [exec_cmdqpOpen, execCmdqpOpen, performs h (by decide)]
    simp only [hfree hl, hready', hq, State.answer_eq, Bool.not_true, Bool.false_eq_true, if_false]
    refine ⟨_, q, rfl, tget_tset_same .., herr, hhqpn, ?_, fun m hm => ?_⟩
    · exact congrArg (· ++ _) (s.countMgmt_out f)
    · exact (tget_tset_other _ _ hm.symm).trans (congrArg (tget · m) (s.countMgmt_qps f))
  · rw [exec_warmReset, execWarmReset, performs h (by decide), if_pos (by simp [hneeds hl, c, hboot])]
  · obtain ⟨plat, sec, _, _, hup, hsince, hready, hsec⟩ := (c.answer f 0 []).bringUp_forced c.plat.therm c.plat.cap
    rw [State.answer_eq] at hup hsince hsec
    obtain ⟨hst, hdbg, hspdm⟩ := hsec ▸ Sec.afresh_fields c.sec
    rw [exec_warmReset, execWarmReset, performs h (by decide), if_neg (by simp [hfree hl])]
    simp only [State.answer_eq]
    refine ⟨_, rfl, ?_⟩
    rw [hup]
    refine ⟨hsince.trans (congrArg some (s.countMgmt_now f)), hready, rfl, rfl, hdbg, hspdm, hst.trans (congrArg Sec.st (s.countMgmt_sec f)), ?_⟩
    exact congrArg (· ++ _) (s.countMgmt_out f)
  · rw [show c = s from s.countMgmt_inSession hk]
    exact sessionAuth_performs harg hup hboot hver hshort h.1 h.2 hk hx hfin hwho
  · intro g u names
    obtain ⟨v, hv, ht⟩ := securedMessage_performs harg hup hboot hver hshort hopc hlong hlen hx hfin hl
    have hu : ({ c.carry (fieldB f.body 2 2) x with arg := .frame g } : State) = u := by
      simp only [State.carry, c, State.countMgmt_sec]; rfl
    refine ⟨_, v, ht, fun i hgver hi => ?_, fun hunknown => ?_, rfl, rfl, fun m hm => tget_tmod_other _ _ hm.symm,
      fun st b hout => v.protectAnswers_out s.out f _ x hout⟩
    · rw [← hu, ← State.perform1_request _ hgver hi]; exact hv
    · rw [← hu, ← State.perform1_unknown _ hunknown]; exact hv
  · rw [exec_mgmtBadOpcode]
    simp [execMgmtBadOpcode, harg, hlong, hver, hreq, hup, hboot, c]
    exact fun _ hopc => absurd hopc (not_or.mpr ⟨h30, h31⟩)

end Sys2Proof.Machine
end

section
/-! SPDM requests (03 R72, R73, R86, R87). -/
namespace Sys2Proof.Machine

theorem exec_spdmGetVersion (s : State) : exec .spdmGetVersion s = execSpdmGetVersion s := rfl
theorem exec_spdmGetCapabilities (s : State) : exec .spdmGetCapabilities s = execSpdmGetCapabilities s := rfl
theorem exec_spdmNegotiateAlgorithms (s : State) : exec .spdmNegotiateAlgorithms s = execSpdmNegotiateAlgorithms s := rfl
theorem exec_spdmUnsupportedRequest (s : State) : exec .spdmUnsupportedRequest s = execSpdmUnsupportedRequest s := rfl
theorem exec_spdmGetDigests (s : State) : exec .spdmGetDigests s = execSpdmGetDigests s := rfl
theorem exec_spdmGetCertificate (s : State) : exec .spdmGetCertificate s = execSpdmGetCertificate s := rfl
theorem exec_spdmChallenge (s : State) : exec .spdmChallenge s = execSpdmChallenge s := rfl
theorem exec_spdmGetMeasurements (s : State) : exec .spdmGetMeasurements s = execSpdmGetMeasurements s := rfl
theorem exec_spdmKeyExchange (s : State) : exec .spdmKeyExchange s = execSpdmKeyExchange s := rfl
theorem exec_spdmFinish (s : State) : exec .spdmFinish s = execSpdmFinish s := rfl
theorem exec_spdmHeartbeat (s : State) : exec .spdmHeartbeat s = execSpdmHeartbeat s := rfl
theorem exec_spdmEndSession (s : State) : exec .spdmEndSession s = execSpdmEndSession s := rfl

/-! ## What a message meets before it is answered -/

/-- An SPDM message in a frame that the channel takes. -/
def State.hearsSpdm (s : State) (f : MgmtFrame) : Prop :=
  s.arg = .frame f ∧ f.opc = 0x30 ∧ s.mgmtUp = true ∧ f.ver = 1 ∧ f.short = false ∧ 4 ≤ f.body.length ∧ longFrame f = false
    ∧ s.sec.bootfail = false

/-- The version of a message is one that the standard gives for its request code: 1.0 for GET_VERSION, 1.2 or 1.3 for the others. -/
def spdmVersionFits (f : MgmtFrame) : Prop :=
  if fieldB f.body 1 1 = 0x84 then fieldB f.body 0 1 = 0x10 else fieldB f.body 0 1 = 0x12 ∨ fieldB f.body 0 1 = 0x13

/-- A request with this code, in a version that fits. -/
def spdmAsks (f : MgmtFrame) (code : Nat) : Prop :=
  fieldB f.body 1 1 = code ∧ if code = 0x84 then fieldB f.body 0 1 = 0x10 else fieldB f.body 0 1 = 0x12 ∨ fieldB f.body 0 1 = 0x13

theorem versionFits_of_asks {f : MgmtFrame} {code : Nat} (h : spdmAsks f code) : spdmVersionFits f := by
  obtain ⟨rfl, h⟩ := h
  exact h

/-- A message in a version that fits is performed, after its frame is counted. -/
theorem withSpdm_performs {s : State} {f : MgmtFrame} (h : s.hearsSpdm f) {code : Nat → Bool} (hcode : code (fieldB f.body 1 1) = true)
    (hver : spdmVersionFits f) (g : State → MgmtFrame → State) : s.withSpdm code g = .next (g s.countFrame f) := by
  obtain ⟨harg, hopc, hup, hfv, hshort, hlen, hlong, hboot⟩ := h
  have hup' : s.countFrame.mgmtUp = true := hup
  have hboot' : s.countFrame.sec.bootfail = false := hboot
  have hfits : (decide (bodyAt f 0 1 ≠ if bodyAt f 1 1 = 0x84 then 0x10 else 0x12) && !(decide (bodyAt f 0 1 = 0x13) && decide (bodyAt f 1 1 ≠ 0x84)))
      = false := by
    unfold spdmVersionFits at hver
    unfold bodyAt
    split at hver
    · simp [*]
    · rcases hver with h | h <;> simp [*]
  simp only [State.withSpdm, harg, hopc, hlong, hup', hfv, hshort, hboot', bodyAt, hcode, Nat.not_lt_of_le hlen] at hfits ⊢
  simp only [hfits]
  simp

theorem withSpdm_asked {s : State} {f : MgmtFrame} {code : Nat} (h : s.hearsSpdm f) (hasks : spdmAsks f code) (g : State → MgmtFrame → State) :
    s.withSpdm (· = code) g = .next (g s.countFrame f) :=
  withSpdm_performs h (decide_eq_true hasks.1) (versionFits_of_asks hasks) g

/-- Outside a session a request that needs one is unexpected. -/
theorem withSession_none {s : State} {f : MgmtFrame} {code : Nat} (h : s.hearsSpdm f) (hasks : spdmAsks f code) (hk : f.session = none)
    (finished : Bool) (g : State → MgmtFrame → Nat → Spdm → State) :
    s.withSession code finished g = .next (s.countFrame.spdmReply f .unexpected) := by
  rw [State.withSession, withSpdm_asked h hasks]
  simp only [hk]

/-- In a session that is as far as the request needs it is performed. -/
theorem withSession_performs {s : State} {f : MgmtFrame} {code n : Nat} {x : Spdm} {finished : Bool} (h : s.hearsSpdm f) (hasks : spdmAsks f code)
    (hk : f.session = some n) (hx : tget s.sec.spdm n = some x) (hfin : x.finished = finished) (g : State → MgmtFrame → Nat → Spdm → State) :
    s.withSession code finished g = .next (g s.countFrame f n x) := by
  have hx' : tget s.countFrame.sec.spdm n = some x := hx
  rw [State.withSession, withSpdm_asked h hasks]
  simp only [hk, hx', hfin, if_true]

/-! ## Measurements and sessions -/

/-- A counted frame changes no measurement. -/
theorem State.measurements_countFrame (s : State) : s.countFrame.measurements = s.measurements := by
  have hcode (n : Nat) : s.countFrame.codeBytes n = s.codeBytes n := by
    have hpeek (n a len : Nat) : s.countFrame.peekVA n a len = s.peekVA n a len := State.peekVA_congr (by rfl) (by rfl) len a
    unfold State.codeBytes
    simp only [hpeek]
    rfl
  unfold State.measurements
  simp only [hcode]
  rfl

/-- The first number below a bound that a table does not use. -/
theorem find_free {α : Type} {m : FMap α} {n k : Nat} (hk : k < n) (hfree : tget m k = none) (hused : ∀ i < k, tget m i ≠ none) :
    (List.range n).find? (fun i => (tget m i).isNone) = some k := by
  rw [List.find?_range_eq_some]
  exact ⟨by simp [hfree], List.mem_range.mpr hk, fun i hi => by simpa using Option.isSome_iff_ne_none.mpr (hused i hi)⟩

theorem find_full {α : Type} {m : FMap α} {n : Nat} (hused : ∀ i < n, tget m i ≠ none) :
    (List.range n).find? (fun i => (tget m i).isNone) = none := by
  simp only [List.find?_eq_none, List.mem_range, Option.isNone_iff_eq_none]
  exact hused

/-- Where no debug session is open, none ends. -/
theorem State.endSessions_nil (s : State) (ok : Dbg → Bool) (status : Nat) (h : s.sec.dbg = []) :
    s.endSessions ok status = s.dropSessions (fun _ d => ok d) := by
  simp [State.endSessions, h]

/-- An SPDM response leaves at once, in the version of its request. -/
theorem State.spdmReply_eq (s : State) (f : MgmtFrame) (r : SpdmReply) :
    s.spdmReply f r = { s with out := s.out ++ [.spdm f.src f.tag (fieldB f.body 0 1) r] } := s.send_noQp rfl

/-- A part of the chain that begins inside it is given. -/
theorem State.certificate_part (s : State) (f : MgmtFrame) (hslot : bodyAt f 2 1 % 16 = 0) (h8 : 8 ≤ f.body.length) :
    (if bodyAt f 2 1 % 16 ≠ 0 || f.body.length < 8 || s.sec.chain.length ≤ bodyAt f 4 2 then s.spdmReply f .invalid
      else s.spdmReply f (.certificate ((s.sec.chain.drop (bodyAt f 4 2)).take (bodyAt f 6 2))))
    = s.spdmReply f (if fieldB f.body 4 2 < s.sec.chain.length then
        .certificate ((s.sec.chain.drop (fieldB f.body 4 2)).take (fieldB f.body 6 2)) else .invalid) := by
  by_cases h : bodyAt f 4 2 < s.sec.chain.length
  · exact (if_neg (by simp [hslot, h8, h])).trans (congrArg _ (if_pos h).symm)
  · exact (if_pos (by simp [Nat.le_of_not_lt h])).trans (congrArg _ (if_neg h).symm)

/-! ## The statement -/

/-- What each request is answered, and what becomes of its session. -/
theorem spdmRequests : Claims.SpdmRequests := by
  intro s f n x harg hopc hup hver hshort hlen hlong hboot c ver asks tells op ms key chain off drawn rand
  have hears : s.hearsSpdm f := ⟨harg, hopc, hup, hver, hshort, hlen, hlong, hboot⟩
  refine ⟨fun h => ?_, fun h => ?_, fun h => ?_, fun hcode hv => ?_, fun h => ?_, fun h hslot h8 => ?_, fun h hslot => ?_, fun h => ?_,
    fun h => ⟨fun h0 => ?_, fun hall => ?_, fun m h0 hall hm => ?_⟩, fun h hused => ?_, fun h hn hfree hused => ?_,
    fun hk => ⟨fun h => ?_, fun h => ?_, fun h => ?_⟩, fun h hk hx hfin => ?_, fun hk hx hfin => ⟨fun h => ?_, fun h hdbg hsorted => ?_⟩⟩
  · show exec .spdmGetVersion s = _
    rw [exec_spdmGetVersion, execSpdmGetVersion, withSpdm_asked hears h]; rfl
  · show exec .spdmGetCapabilities s = _
    rw [exec_spdmGetCapabilities, execSpdmGetCapabilities, withSpdm_asked hears h]; rfl
  · show exec .spdmNegotiateAlgorithms s = _
    rw [exec_spdmNegotiateAlgorithms, execSpdmNegotiateAlgorithms, withSpdm_asked hears h]; rfl
  · have hfits : spdmVersionFits f := by
      have h84 : fieldB f.body 1 1 ≠ 0x84 := fun h => hcode (by simp [h])
      rw [spdmVersionFits, if_neg h84]; exact hv
    have hnone : (!spdmCodes.contains (fieldB f.body 1 1)) = true := by simpa [spdmCodes] using hcode
    show exec .spdmUnsupportedRequest s = _
    rw [exec_spdmUnsupportedRequest, execSpdmUnsupportedRequest, withSpdm_performs hears hnone hfits]; rfl
  · show exec .spdmGetDigests s = _
    rw [exec_spdmGetDigests, execSpdmGetDigests, withSpdm_asked hears h]; rfl
  · show exec .spdmGetCertificate s = _
    rw [exec_spdmGetCertificate, execSpdmGetCertificate, withSpdm_asked hears h]
    exact congrArg Host.Outcome.next (s.countFrame.certificate_part f hslot h8)
  · show exec .spdmGetCertificate s = _
    rw [exec_spdmGetCertificate, execSpdmGetCertificate, withSpdm_asked hears h]
    rw [if_pos (by simp [bodyAt, hslot])]; rfl
  · rw [exec_spdmChallenge, execSpdmChallenge, withSpdm_asked hears h]; rfl
  · show exec .spdmGetMeasurements s = _
    rw [exec_spdmGetMeasurements, execSpdmGetMeasurements, withSpdm_asked hears h, State.measurements_countFrame]
    exact congrArg Host.Outcome.next (if_pos h0)
  · show exec .spdmGetMeasurements s = _
    rw [exec_spdmGetMeasurements, execSpdmGetMeasurements, withSpdm_asked hears h, State.measurements_countFrame]
    exact congrArg Host.Outcome.next ((if_neg (show op ≠ 0 by omega)).trans (if_pos hall))
  · show exec .spdmGetMeasurements s = _
    rw [exec_spdmGetMeasurements, execSpdmGetMeasurements, withSpdm_asked hears h, State.measurements_countFrame]
    refine congrArg Host.Outcome.next ((if_neg h0).trans ((if_neg hall).trans ?_))
    rw [show s.measurements.find? (fun y => y.1 = bodyAt f 3 1) = some m from hm]; rfl
  · have hbusy : (List.range 8).find? (fun i => (tget c.sec.spdm i).isNone) = none := find_full hused
    show exec .spdmKeyExchange s = _
    rw [exec_spdmKeyExchange, execSpdmKeyExchange, withSpdm_asked hears h]
    simp only [show s.countFrame = c from rfl, hbusy]; rfl
  · have hfound : (List.range 8).find? (fun i => (tget c.sec.spdm i).isNone) = some n := find_free hn hfree hused
    rw [exec_spdmKeyExchange, execSpdmKeyExchange, withSpdm_asked hears h]
    simp only [show s.countFrame = c from rfl, hfound, State.spdmReply_eq]
    exact ⟨_, _, rfl, tget_tset_same .., rfl, rfl, rfl, rfl, rfl, rfl⟩
  · show exec .spdmFinish s = _
    rw [exec_spdmFinish, execSpdmFinish, withSession_none hears h hk]; rfl
  · show exec .spdmHeartbeat s = _
    rw [exec_spdmHeartbeat, execSpdmHeartbeat, withSession_none hears h hk]; rfl
  · show exec .spdmEndSession s = _
    rw [exec_spdmEndSession, execSpdmEndSession, withSession_none hears h hk]; rfl
  · rw [exec_spdmFinish, execSpdmFinish, withSession_performs hears h hk hx hfin, State.spdmReply_eq]
    exact ⟨_, rfl, tget_tset_same .., rfl⟩
  · show exec .spdmHeartbeat s = _
    rw [exec_spdmHeartbeat, execSpdmHeartbeat, withSession_performs hears h hk hx hfin]; rfl
  · have hnone : c.sec.dbg = [] := hdbg
    rw [exec_spdmEndSession, execSpdmEndSession, withSession_performs hears h hk hx hfin]
    simp only [s.countFrame.endSessions_nil _ _ hnone, State.spdmReply_eq]
    refine ⟨_, rfl, ?_, fun m hm => ?_, rfl⟩
    · exact (tget_tdel n n hsorted).trans (if_pos rfl)
    · exact (tget_tdel n m hsorted).trans (if_neg hm.symm)

/-- Settles O49: each request outside SPDM is answered and performed by its opcode, alone or in a session, and so is each SPDM request. -/
theorem managementRequests : Obligations.ManagementRequests := ⟨managementRequestsOutsideSpdm, spdmRequests⟩

end Sys2Proof.Machine
end

section
/-! Security requests (03 R68, R71, R77, R78). -/
namespace Sys2Proof.Machine

/-! ## What a signed request meets before it is performed -/

/-- Where firmware runs, its identity has the digest of R71. -/
theorem Sec.identity_up {x : Sec} (h : x.bootfail = false) : x.identity = sha384 (Config.identity x.seed (sha384 x.image)) := by
  simp [Sec.identity, Sec.identityKey, h]

/-- The last 201 bytes of a signed request: key, counter and signature. -/
def trailerOf (f : MgmtFrame) : List Byte := f.body.drop (f.body.length - 201)

/-- The owner's key has signed a request for this module. -/
def Sec.ownerSigned (x : Sec) (f : MgmtFrame) : Prop :=
  sha384 (sliceB (trailerOf f) 0 97) = x.ownerHash
    ∧ ecdsaOk (sliceB (trailerOf f) 0 97) ([f.ver, f.opc] ++ f.body.take (f.body.length - 201) ++ sliceB (trailerOf f) 0 97
        ++ sliceB (trailerOf f) 97 8 ++ x.identity) (sliceB (trailerOf f) 105 96) = true

theorem Sec.signedBy_unsigned {x : Sec} {f : MgmtFrame} (h : ¬ x.ownerSigned f) : x.signedBy f = 0xf := by
  unfold Sec.signedBy
  refine if_pos ?_
  simpa [Sec.ownerSigned, trailerOf, Classical.or_iff_not_imp_left] using h

theorem Sec.signedBy_signed {x : Sec} {f : MgmtFrame} (h : x.ownerSigned f) :
    x.signedBy f = if fieldB (trailerOf f) 97 8 ≤ x.counter then 0x10 else 0 := by
  unfold Sec.signedBy
  refine if_neg ?_
  simpa [Sec.ownerSigned, trailerOf] using h

/-- The first refusal that holds before the signature is looked at answers a signed request. -/
theorem State.signed_early (s : State) (f : MgmtFrame) {early : List (Bool × Nat)} {e : Bool × Nat} (late : List (Bool × Nat)) (g : State → State)
    (h : early.find? (·.1) = some e) : s.signed f early late g = s.answer f e.2 [] := by
  simp only [State.signed, h]

theorem State.signed_unsigned (s : State) (f : MgmtFrame) {early : List (Bool × Nat)} (late : List (Bool × Nat)) (g : State → State)
    (h : early.find? (·.1) = none) (hsig : ¬ s.sec.ownerSigned f) : s.signed f early late g = s.answer f 0xf [] := by
  simp only [State.signed, h, Sec.signedBy_unsigned hsig]
  rfl

/-- A counter that is not above the last one accepted is stale. -/
theorem State.signed_stale (s : State) (f : MgmtFrame) {early : List (Bool × Nat)} (late : List (Bool × Nat)) (g : State → State)
    (h : early.find? (·.1) = none) (hsig : s.sec.ownerSigned f) (hcount : fieldB (trailerOf f) 97 8 ≤ s.sec.counter) :
    s.signed f early late g = s.answer f 0x10 [] := by
  simp only [State.signed, h, Sec.signedBy_signed hsig, if_pos hcount]
  rfl

/-- A request of the owner with a fresh counter meets the refusals of its own, and is performed under that counter. -/
theorem State.signed_fresh (s : State) (f : MgmtFrame) {early : List (Bool × Nat)} (late : List (Bool × Nat)) (g : State → State)
    (h : early.find? (·.1) = none) (hsig : s.sec.ownerSigned f) (hcount : s.sec.counter < fieldB (trailerOf f) 97 8) :
    s.signed f early late g = match late.find? (·.1) with
      | some e => s.answer f e.2 []
      | none => g (s.takeCounter f) := by
  simp only [State.signed, h, Sec.signedBy_signed hsig, if_neg (Nat.not_le_of_lt hcount)]
  rfl

/-! ## The end of all debug sessions -/

/-- A notice is sent and counted, and changes nothing else. -/
theorem State.mgmtNotice_eq (s : State) (mac : BitVec 48) (opc : BitVec 8) (status : Nat) (body : List Byte) :
    s.mgmtNotice mac opc status body = { s with
      sec := { s.sec with notices := s.sec.notices + 1 }, out := s.out ++ [.mgmtNotice mac opc (s.sec.notices + 1) status body] } :=
  State.send_noQp _ rfl

theorem State.mgmtNotices_eq (status : Nat) (l : FMap Dbg) : ∀ s : State, ∃ out notices,
    l.foldl (fun s p => s.mgmtNotice p.2.mac 0x22 status (leBytes 8 p.1)) s = { s with sec := { s.sec with notices }, out } := by
  induction l with
  | nil => exact fun s => ⟨s.out, s.sec.notices, rfl⟩
  | cons p l ih =>
    intro s
    rw [List.foldl_cons, State.mgmtNotice_eq]
    exact ih _

/-- Sessions that end are gone from the security state, which only counts their notices besides. -/
theorem State.endSessions_sec (s : State) (ok : Dbg → Bool) (status : Nat) : ∃ notices,
    (s.endSessions ok status).sec = { s.sec with notices, dbg := s.sec.dbg.filter (fun p => !ok p.2) } := by
  obtain ⟨_, notices, h⟩ := s.mgmtNotices_eq status (s.sec.dbg.filter (fun p => ok p.2))
  refine ⟨notices, ?_⟩
  simp only [State.endSessions, h, State.dropSessions]

/-- No device comes or goes with a debug session. -/
theorem State.endSessions_vds (s : State) (ok : Dbg → Bool) (status : Nat) : (s.endSessions ok status).vds.map (·.1) = s.vds.map (·.1) := by
  obtain ⟨_, _, h⟩ := s.mgmtNotices_eq status (s.sec.dbg.filter (fun p => ok p.2))
  simp only [State.endSessions, h, State.dropSessions, List.map_map, Function.comp_def]

/-! ## The statement -/

/-- Settles O50: the first check that holds answers each request with its refusal, and one that meets none changes the security state as
R78 says. -/
theorem securityRequests : Obligations.SecurityRequests := by
  intro s f harg hup hboot hver hshort c ok tr key count sigOk refused owner accepted
  have performs {opc len : Nat} (h : ok opc len) (hlen : len ≤ 9182) (g : State → MgmtFrame → State) :
      s.withFrame opc (· = len) (fun _ => false) g = .next (g c f) := by
    obtain ⟨hopc, rfl⟩ := h
    exact withFrame_performs _ g harg hup hboot hopc hver hshort hlen (by simp)
  have hsec : c.sec = s.sec := s.countMgmt_sec f
  have hsigned : c.sec.ownerSigned f ↔ sigOk := by rw [hsec, Sec.ownerSigned, Sec.identity_up hboot]; exact Iff.rfl
  have hstale {n : Nat} (h : n ≤ s.sec.counter) : n ≤ c.sec.counter := hsec ▸ h
  have hfresh {n : Nat} (h : s.sec.counter < n) : c.sec.counter < n := hsec ▸ h
  have howner : owner → c.needsOwner f = false := fun h => (s.countMgmt_needsOwner f f).trans ((needsOwner_eq_false_iff s f).mpr h)
  have hother : ¬ owner → c.needsOwner f = true := fun h => by
    rw [← Bool.not_eq_false]; exact fun hn => h ((needsOwner_eq_false_iff s f).mp ((s.countMgmt_needsOwner f f).symm.trans hn))
  have hlocked : ¬ owner → s.sec.st = .locked := fun h => Classical.not_not.mp (not_or.mp h).1
  refine ⟨fun h => ?_, fun h => ?_, fun h => ?_, fun h => ?_⟩
  · simp only [refused, accepted, exec_secProvision, execSecProvision, performs h (by decide), hsec]
    refine ⟨fun hst => ?_, fun hst hcur => ?_, fun hst hcur => ?_⟩
    · rw [if_pos hst]
    · rw [if_neg (Classical.not_not.mpr hst), if_pos (by simpa [c] using hcur)]
    · rw [if_neg (Classical.not_not.mpr hst), if_neg (by simpa [c] using hcur)]
  · simp only [refused, accepted, exec_secLock, execSecLock, performs h (by decide)]
    refine ⟨fun hst => ?_, fun hst => ?_⟩
    · rw [State.signed_early c f _ _ (e := (true, 6)) (by simp [hsec, hst])]
    have hopen : [(decide (c.sec.st ≠ .openState), 6)].find? (·.1) = none := by simp [hsec, hst]
    refine ⟨fun hs => ?_, fun hs hn => ?_, fun hs hn hupd => ?_, fun hs hn hupd hlev => ?_, fun hs hn hupd hlev => ?_⟩
    · rw [State.signed_unsigned c f _ _ hopen (mt hsigned.mp hs)]
    · rw [State.signed_stale c f _ _ hopen (hsigned.mpr hs) (hstale hn)]
    · rw [State.signed_fresh c f _ _ hopen (hsigned.mpr hs) (hfresh hn)]
      simp [hsec, hupd]
    · rw [State.signed_fresh c f _ _ hopen (hsigned.mpr hs) (hfresh hn)]
      simp [hsec, hupd, hlev]
    · rw [State.signed_fresh c f _ _ hopen (hsigned.mpr hs) (hfresh hn)]
      simp [hsec, hupd, hlev, State.takeCounter]
      rfl
  · simp only [refused, accepted, exec_secSetdbg, execSecSetdbg, performs h (by decide)]
    refine ⟨fun hst => ?_, fun ho => ?_, fun hst ho => ?_⟩
    · rw [State.signed_early c f _ _ (e := (true, 6)) (by simp [hsec, hst])]
    · rw [State.signed_early c f _ _ (e := (true, 0xc)) (by simp [hsec, hlocked ho, hother ho])]
    have hmay : [(decide (c.sec.st = .unprovisioned), 6), (c.needsOwner f, 0xc)].find? (·.1) = none := by simp [hsec, hst, howner ho]
    refine ⟨fun hs => ?_, fun hs hn => ?_, fun hs hn => ?_⟩
    · rw [State.signed_unsigned c f _ _ hmay (mt hsigned.mp hs)]
    · rw [State.signed_stale c f _ _ hmay (hsigned.mpr hs) (hstale hn)]
    · rw [State.signed_fresh c f _ _ hmay (hsigned.mpr hs) (hfresh hn)]
      simp [hsec, State.takeCounter]
      rfl
  · simp only [refused, exec_secUnlock, execSecUnlock, performs h (by decide)]
    refine ⟨fun hst => ?_, fun ho => ?_, fun hst ho hs hn hupd => ?_⟩
    · rw [State.signed_early c f _ _ (e := (true, 6)) (by simp [hsec, hst])]
    · rw [State.signed_early c f _ _ (e := (true, 0xc)) (by simp [hsec, hlocked ho, hother ho])]
    have hmay : [(decide (c.sec.st ≠ .locked), 6), (c.needsOwner f, 0xc)].find? (·.1) = none := by simp [hsec, hst, howner ho]
    rw [State.signed_fresh c f _ _ hmay (hsigned.mpr hs) (hfresh hn)]
    have hidle : [(c.sec.updating, 0x12)].find? (·.1) = none := by simp [hsec, hupd]
    simp only [hidle, State.answer_eq]
    refine ⟨_, rfl, rfl, rfl, rfl, rfl, rfl, rfl, fun hvds => ?_⟩
    have hnone : ((c.takeCounter f).endSessions (fun _ => true) 0x13).vds.map (·.1) = [] := by
      rw [State.endSessions_vds]
      simp [State.takeCounter, c, hvds]
    obtain ⟨_, hends⟩ := (c.takeCounter f).endSessions_sec (fun _ => true) 0x13
    simp only [hnone, List.foldl_nil, hends]
    simp only [State.takeCounter, hsec]
    exact ⟨by simp, rfl, trivial⟩

end Sys2Proof.Machine
end

section
/-! Firmware updates (03 R74, R83 to R85, R93). -/
namespace Sys2Proof.Machine

theorem exec_fwVerifyDone (s : State) : exec .fwVerifyDone s = execFwVerifyDone s := rfl

/-- A request that BOOTFAIL leaves to the boot ROM is performed whether or not firmware runs (03 R75). -/
theorem withFrame_performs_boot {s : State} {f : MgmtFrame} {opc : Nat} {fits : Nat → Bool} (g : State → MgmtFrame → State)
    (harg : s.arg = .frame f) (hup : s.mgmtUp = true) (hopc : f.opc.toNat = opc) (hver : f.ver = 1) (hshort : f.short = false)
    (hlen : f.body.length ≤ 9182) (hfits : fits f.body.length = true) : s.withFrame opc fits (fun _ => true) g = .next (g (s.countMgmt f) f) := by
  have hlong : longFrame f = false := by
    have : ¬ 9216 < 34 + f.body.length := by omega
    simp [longFrame, this]
  simp [State.withFrame, harg, hopc, hlong, hup, hver, hshort, hfits]

/-! ## An update begins -/

/-- A signed request that meets no refusal is performed under its counter. -/
theorem State.signed_accepted (s : State) (f : MgmtFrame) {early late : List (Bool × Nat)} (g : State → State)
    (hearly : early.find? (·.1) = none) (hsig : s.sec.signedBy f = 0) (hlate : late.find? (·.1) = none) :
    s.signed f early late g = g (s.takeCounter f) := by
  simp [State.signed, hearly, hsig, hlate]

/-- An update is received into the slot that is not active, which keeps no image meanwhile; the active one stays. -/
theorem State.startUpdate_fields {s t : State} {f : MgmtFrame} (ht : s.startUpdate f = t) :
    t.sec.stage = .receiving ∧ t.sec.updLen = bodyAt f 0 4 ∧ t.sec.update = (s.sec.update + 1) % 2 ^ 32 ∧ t.sec.target.valid = false
      ∧ t.sec.updSession = s.sessionId f ∧ t.sec.slot = s.sec.slot
      ∧ (if s.sec.slot then t.sec.slotB = s.sec.slotB else t.sec.slotA = s.sec.slotA)
      ∧ t.out = s.out ++ [.mgmt f.src f.opc f.tag 0 f.session (leBytes 4 t.sec.update)] := by
  subst ht
  simp only [State.startUpdate, State.answer_eq]
  cases hslot : s.sec.slot <;> simp [Sec.setTarget, Sec.target, hslot]

/-! ## Requests of an update -/

/-- A request of the update that is being received, in the session that opened it where the module is Locked. -/
def State.ownsUpdate (s : State) (f : MgmtFrame) : Prop :=
  s.sec.stage = .receiving ∧ (s.sec.st ≠ .locked ∨ s.sessionId f = s.sec.updSession) ∧ fieldB f.body 0 4 = s.sec.update

theorem State.withUpdate_performs {s : State} {f : MgmtFrame} (h : s.ownsUpdate f) (g : State → State) : s.withUpdate f g = g s := by
  obtain ⟨hstage, hsession, hid⟩ := h
  have hmay : ¬ (s.sec.st = .locked ∧ s.sessionId f ≠ s.sec.updSession) := by
    rintro ⟨hst, hother⟩
    exact hsession.elim (· hst) hother
  have hid' : bodyAt f 0 4 = s.sec.update := hid
  rw [State.withUpdate, if_neg (Classical.not_not.mpr hstage), if_neg (by simpa using hmay), if_neg (Classical.not_not.mpr hid')]

/-- A counted frame leaves it to the same requests to go on with the update. -/
theorem State.ownsUpdate_countMgmt {s : State} {f : MgmtFrame} (h : s.ownsUpdate f) : (s.countMgmt f).ownsUpdate f := by
  simpa only [State.ownsUpdate, State.sessionId, State.countMgmt_sec] using h

/-! ## The verdict -/

/-- REASON of a received image (03 R93): 4 malformed, 1 not the vendor's, 2 of a version below the fuses; 0 of one that is accepted. -/
def Sec.verdict (x : Sec) : Nat :=
  if Config.imageMalformed x.target.bytes = true then 4 else if x.imageOk x.target.bytes = false then 1
  else if Config.imageSvn x.target.bytes < x.fuseSvn then 2 else 0

theorem Sec.verdict_of_bad {x : Sec} (h : Config.imageMalformed x.target.bytes = true ∨ x.imageOk x.target.bytes = false
    ∨ Config.imageSvn x.target.bytes < x.fuseSvn) :
    x.verdict ≠ 0 ∧ x.verdict = if Config.imageMalformed x.target.bytes = true then 4 else if x.imageOk x.target.bytes = false then 1 else 2 := by
  unfold Sec.verdict
  split
  · exact ⟨by decide, rfl⟩
  · split
    · exact ⟨by decide, rfl⟩
    · have hold := (h.resolve_left ‹_›).resolve_left ‹_›
      simp [hold]

theorem Sec.verdict_of_good {x : Sec} (h : ¬ (Config.imageMalformed x.target.bytes = true ∨ x.imageOk x.target.bytes = false
    ∨ Config.imageSvn x.target.bytes < x.fuseSvn)) : x.verdict = 0 := by
  obtain ⟨hform, hrest⟩ := not_or.mp h
  obtain ⟨hsig, hsvn⟩ := not_or.mp hrest
  rw [Sec.verdict, if_neg hform, if_neg hsig, if_neg hsvn]

/-- Verification ends with the verdict. -/
theorem fwVerifyDone_verdict {s : State} (h : s.sec.stage = .verifying) : execFwVerifyDone s =
    if s.sec.verdict ≠ 0 then .next { s with sec := { s.sec with stage := .rejected, reason := s.sec.verdict } }
    else .next { s with sec := { s.sec.setTarget { s.sec.target with valid := true } with stage := .staged, pending := true } } := by
  have hreason : s.sec.verdict = if Config.imageMalformed s.sec.target.bytes then 4 else if !s.sec.imageOk s.sec.target.bytes then 1
      else if Config.imageSvn s.sec.target.bytes < s.sec.fuseSvn then 2 else 0 := by
    simp [Sec.verdict]
  rw [hreason, execFwVerifyDone, if_neg (Classical.not_not.mpr h)]

/-! ## The statement -/

/-- How an update is received, ended and verified: the firmware half of O51, which holds. -/
theorem firmwareUpdate : Claims.FirmwareUpdate := by
  intro s f harg hup hver hshort c ok off d mine b bad
  have performs {opc : Nat} {fits : Nat → Bool} (hopc : ok opc) (hlen : f.body.length ≤ 9182) (hfits : fits f.body.length = true)
      (g : State → MgmtFrame → State) : s.withFrame opc fits (fun _ => true) g = .next (g c f) :=
    withFrame_performs_boot g harg hup hopc hver hshort hlen hfits
  have hsec : c.sec = s.sec := s.countMgmt_sec f
  have howns : mine → c.ownsUpdate f := State.ownsUpdate_countMgmt
  refine ⟨fun h hlen hboot hst howner hsig hdbg hbusy hcur hupd => ?_, fun h h8 hlen => ⟨fun hm hal hin => ?_, fun hstage => ?_, fun hm hal => ?_⟩,
    fun h hlen hm => ⟨fun hfit => ?_, fun hbig => ?_⟩, fun hstage => ⟨fun hbad => ?_, fun hgood => ?_⟩⟩
  · have hneeds : c.needsOwner f = false := (s.countMgmt_needsOwner f f).trans ((needsOwner_eq_false_iff s f).mpr howner)
    rw [exec_fwUpdate, execFwUpdate]
    simp only [hboot, Bool.false_and, Bool.false_eq_true, if_false]
    have hpower : s.plat.cur ≠ .p0 → s.plat.cur = .p1 := hcur.resolve_left
    rw [performs h (by omega) (by simp [hlen]), State.signed_accepted c f _ (by simp [hsec, hst, hneeds]) (by rw [hsec]; exact hsig)
      (by simpa [c, hdbg, hbusy, hupd] using hpower)]
    have hbegun := State.startUpdate_fields (s := c.takeCounter f) (f := f) rfl
    generalize (c.takeCounter f).startUpdate f = t at hbegun
    simp only [State.takeCounter, State.sessionId, hsec, c, State.countMgmt_out] at hbegun
    exact ⟨t, rfl, hbegun⟩
  · rw [exec_fwData, execFwData, performs h (by omega) (by simp [h8, hlen]), State.withUpdate_performs (howns hm), ← hsec]
    have hroom : off + (f.body.length - 8) ≤ s.sec.updLen := List.length_drop ▸ hin
    exact congrArg Host.Outcome.next (if_neg (by simpa [hsec] using ⟨hal, hroom⟩))
  · rw [exec_fwData, execFwData, performs h (by omega) (by simp [h8, hlen]), State.withUpdate, if_pos (by rwa [hsec])]
  · rw [exec_fwData, execFwData, performs h (by omega) (by simp [h8, hlen]), State.withUpdate_performs (howns hm)]
    exact congrArg Host.Outcome.next (if_pos (by simpa using .inl hal))
  · rw [exec_fwEnd, execFwEnd, performs h (by omega) (by simp [hlen]), State.withUpdate_performs (howns hm), ← hsec]
    rw [if_neg (Nat.not_lt.mpr (hsec ▸ hfit)), ← s.countMgmt_now f]
  · rw [exec_fwEnd, execFwEnd, performs h (by omega) (by simp [hlen]), State.withUpdate_performs (howns hm), ← hsec]
    rw [if_pos (hsec ▸ hbig)]
  · rw [exec_fwVerifyDone, fwVerifyDone_verdict hstage]
    obtain ⟨hrejects, hreason⟩ := Sec.verdict_of_bad hbad
    exact ⟨_, if_pos hrejects, hreason⟩
  · rw [exec_fwVerifyDone, fwVerifyDone_verdict hstage, if_neg (Classical.not_not.mpr (Sec.verdict_of_good hgood))]

end Sys2Proof.Machine
end

section
/-! A debugger's access in a session whose device number is the module's (03 R88). -/
namespace Sys2Proof.Machine

theorem exec_debugHalt (s : State) : exec .debugHalt s = execDebugHalt s := rfl

/-- A Locked module with a halted course of a task whose device number is 255, and an Invasive session of the whole module. -/
def halted255 (arg : EvArg) : State :=
  { arg, plat := { cur := .p0 }, sec := { st := .locked, dbg := [(0, { vd := 255, level := 2 })] }
    tasks := [(0, { vd := 255 })], courses := [(0, { st := .halted })] }

/-- What the module has sent once a meaning has been performed. -/
def sentMsgs (o : Out) : List HostMsg :=
  match o with
  | .next t => t.out
  | _ => []

/-- The session of a Locked module reads no register. -/
theorem sentMsgs_halted255 : sentMsgs (execDebugHalt (halted255 (.debug 0 0 (.readReg 1 0 0)))) = [] := rfl

/-- Refutes O51: its clause for the registers of a halted course takes a session of the course's own device for one that may act, and does
not ask that the device's number is not 255. In a Locked module a session of number 255 is one of the whole module, whose accesses are
refused (03 R88, R90), whatever number the course's task bears. The state is one that no run reaches, as VD_CREATE numbers devices below 64;
the statement speaks of all states. Its firmware half holds: `firmwareUpdate`. -/
theorem not_firmwareAndDebug : ¬ Obligations.FirmwareAndDebug := by
  rintro ⟨-, sessions⟩
  obtain ⟨-, -, -, accesses⟩ := sessions (halted255 (.nat 0 0 0)) {} 0 0 {} { st := .halted } 0
  obtain ⟨reads, -⟩ := accesses rfl rfl
  have hread : exec .debugHalt (halted255 (.debug 0 0 (.readReg 1 0 0)))
      = .next ((halted255 (.debug 0 0 (.readReg 1 0 0))).send (.debug 0 [0])) := reads ⟨_, rfl, rfl, .inl rfl, by decide⟩ rfl 1 0 0
  have hsent := sentMsgs_halted255
  rw [← exec_debugHalt, hread] at hsent
  exact absurd hsent (List.cons_ne_nil _ _)

end Sys2Proof.Machine
end

section
/-! Migrations, exchanges of the active set, ends of budgets, and records (05 R155, 06 R171, R175, R179, 08 R230, R250 to R253). -/
namespace Sys2Proof.Machine

theorem exec_migrationComplete (s : State) : exec .migrationComplete s = execMigrationComplete s := rfl
theorem exec_migrationRequestPost (s : State) : exec .migrationRequestPost s = execMigrationRequestPost s := rfl
theorem exec_courseExchange (s : State) : exec .courseExchange s = execCourseExchange s := rfl
theorem exec_budgetExhausted (s : State) : exec .budgetExhausted s = execBudgetExhausted s := rfl
theorem exec_parkedDeadlineKill (s : State) : exec .parkedDeadlineKill s = execParkedDeadlineKill s := rfl
theorem exec_faultTaskDeferredWrite (s : State) : exec .faultTaskDeferredWrite s = execFaultTaskDeferredWrite s := rfl
theorem exec_recordFreeGrant (s : State) : exec .recordFreeGrant s = execRecordFreeGrant s := rfl

/-! ## What a course needs to go over -/

theorem State.course_of_tget {s : State} {k : Nat} {c : Course} (h : tget s.courses k = some c) : s.course k = c := tgetD_of_tget _ h

/-- A core that can take a demand has a free slot. -/
theorem State.freeSlots_ne_nil {s : State} {bench cell n : Nat} {dcore : Bool} (h : s.coreFits bench cell dcore n = true) :
    s.freeSlots bench cell dcore ≠ [] := by
  rw [State.coreFits, Bool.and_eq_true, Bool.not_eq_true', List.isEmpty_eq_false_iff] at h
  exact h.1

/-- Whatever the schedule says, it picks one of the slots that there are. -/
theorem getD_mod_mem {l : List Nat} (h : l ≠ []) (n : Nat) : l.getD (n % max 1 l.length) 0 ∈ l := by
  have hpos : 0 < l.length := List.length_pos_iff.mpr h
  have hlt : n % max 1 l.length < l.length := by rw [Nat.max_eq_right hpos]; exact Nat.mod_lt _ hpos
  rw [List.getD_eq_getElem?_getD, List.getElem?_eq_getElem hlt, Option.getD_some]
  exact List.getElem_mem hlt

/-- Without a debug session nothing is traced. -/
theorem State.trace_of_no_session {s : State} (h : s.sec.dbg = []) (vdn : Nat) (kind : TraceKind) (cause : Nat) (pc addr : Word) :
    s.trace vdn kind cause pc addr = s := by
  simp [State.trace, h]

/-! ## What does not depend on the schedule -/

/-- The state with another list of what the schedule picks. -/
def State.withSched (s : State) (l : List Nat) : State := { s with sched := l }

theorem State.choose_withSched (s : State) : ∃ l, s.choose.2 = s.withSched l := ⟨_, s.choose_eq⟩

@[simp] theorem State.withSched_now (s : State) (l : List Nat) : (s.withSched l).now = s.now := rfl

@[simp] theorem State.peekVA_withSched (s : State) (l : List Nat) (vdn va n : Nat) :
    (s.withSched l).peekVA vdn va n = s.peekVA vdn va n := by
  induction n generalizing va with
  | zero => rfl
  | succ n ih => exact congrArg (List.cons _) (ih (va + 1))

@[simp] theorem State.bridgeMap_withSched (s : State) (l : List Nat) (vdn : Nat) (e : Bridge) :
    (s.withSched l).bridgeMap vdn e = s.bridgeMap vdn e := by
  simp only [State.bridgeMap, State.peekVA_withSched]

@[simp] theorem State.tableOf_withSched (s : State) (l : List Nat) (tk : Nat) (prof : Bool) :
    (s.withSched l).tableOf tk prof = s.tableOf tk prof := by
  simp only [State.tableOf, State.peekVA_withSched]
  rfl

/-! ## MIGRATION_COMPLETE -/

/-- A course that has gone over to its other core and continues at a bridge point (R251). -/
def State.crossed (s : State) (c : Course) (e : Bridge) (slot : Nat) (active : Bool) : Course :=
  let tk := (s.group c.group).task
  let toD := !c.dcore
  { c with
    st := .running, migReq := false, dcore := toD, prof := toD, slot, active, since := s.now, loop := 0, loopI := [], b := []
    v := moveRegs c.v toD (s.bridgeMap (s.task tk).vd e), sched := s.tableOf tk toD, pends := c.pends.map Pend.noVector
    splits := c.splits.map (fun p => (p.1, { p.2 with pc := if toD then e.pcd else e.pcl })) }

/-- A course that a rollback took back over its MIGR, on its other core again (R253). -/
def State.returned (s : State) (c : Course) (slot : Nat) (active : Bool) : Course :=
  { c with st := .running, dcore := !c.dcore, slot, active, since := s.now }

section
variable (s : State) {cid id : Nat} {c : Course}

/-- Can the other core take a course? -/
def State.otherFits (c : Course) : Bool :=
  s.coreFits (s.group c.group).bench (s.group c.group).cell (!c.dcore) ((s.task (s.group c.group).task).hdr.demand (!c.dcore))

/-- The free slots of the other core of a course. -/
def State.otherSlots (c : Course) : List Nat := s.freeSlots (s.group c.group).bench (s.group c.group).cell (!c.dcore)

/-- May it join the active set of the other core (R230)? Every course of an L-core is active. -/
def State.otherActive (c : Course) : Bool :=
  c.dcore || ((s.residents (s.group c.group).bench (s.group c.group).cell true).filter (fun p => p.2.active)).length < 8

theorem migrationComplete_waits (harg : s.arg = .nat cid 0 0) (hc : tget s.courses cid = some c) (hst : c.st = .migrating id)
    (h : s.otherFits c = false ∨ (id ≠ backId ∧ c.flagsDown = false)) :
    execMigrationComplete s = .next (s.postOnce (s.now + 1) .migrationComplete (.nat cid 0 0)) := by
  unfold State.otherFits at h
  rcases h with h | ⟨hid, hflags⟩
  · simp [execMigrationComplete, harg, hc, hst, h]
  · simp [execMigrationComplete, harg, hc, hst, hid, hflags]

theorem migrationComplete_noBridge (harg : s.arg = .nat cid 0 0) (hc : tget s.courses cid = some c) (hst : c.st = .migrating id)
    (hid : id ≠ backId) (hflags : c.flagsDown = true) (hfits : s.otherFits c = true)
    (he : s.findBridge (s.task (s.group c.group).task) id = none) :
    execMigrationComplete s = .next (s.setCourse cid { c with st := .running, migReq := false }) := by
  unfold State.otherFits at hfits
  simp [execMigrationComplete, harg, hc, hst, hid, hflags, hfits, he]

theorem migrationComplete_crosses (harg : s.arg = .nat cid 0 0) (hc : tget s.courses cid = some c) (hst : c.st = .migrating id)
    (hid : id ≠ backId) (hflags : c.flagsDown = true) (hfits : s.otherFits c = true) (hdbg : s.sec.dbg = []) {e : Bridge}
    (he : s.findBridge (s.task (s.group c.group).task) id = some e) :
    ∃ l, ∃ slot ∈ s.otherSlots c,
      execMigrationComplete s = .next ((s.withSched l).setCourse cid (s.crossed c e slot (s.otherActive c))) := by
  obtain ⟨l, hl⟩ := s.choose_withSched
  refine ⟨l, _, getD_mod_mem (State.freeSlots_ne_nil hfits) s.choose.1, ?_⟩
  unfold State.otherFits at hfits
  have hquiet : (s.withSched l).sec.dbg = [] := hdbg
  simp [execMigrationComplete, harg, hc, hst, hid, hflags, hfits, he, hl, State.trace_of_no_session hquiet, State.crossed,
    State.otherActive]

theorem migrationComplete_returns (harg : s.arg = .nat cid 0 0) (hc : tget s.courses cid = some c) (hst : c.st = .migrating backId)
    (hfits : s.otherFits c = true) :
    ∃ l, ∃ slot ∈ s.otherSlots c,
      execMigrationComplete s = .next ((s.withSched l).setCourse cid (s.returned c slot (s.otherActive c))) := by
  obtain ⟨l, hl⟩ := s.choose_withSched
  refine ⟨l, _, getD_mod_mem (State.freeSlots_ne_nil hfits) s.choose.1, ?_⟩
  unfold State.otherFits at hfits
  simp [execMigrationComplete, harg, hc, hst, hfits, hl, State.returned, State.otherActive]

/-! ## Requests, exchanges and budgets -/

/-- May a course ask to go over to a kind of core (R252)? -/
structure State.MayAsk (s : State) (c : Course) (toD : Bool) : Prop where
  running : c.st = .running
  noRequest : c.migReq = false
  enabled : (s.bench (s.group c.group).bench).migEn = true
  bridges : (s.task (s.group c.group).task).bridges = true
  resident : (s.group c.group).saved = false
  core : c.dcore = !toD
  direction : (if toD then (s.bench (s.group c.group).bench).ltod else (s.bench (s.group c.group).bench).dtol) = true
  room : s.requests (s.group c.group).bench (s.group c.group).cell toD
    < (s.freeSlots (s.group c.group).bench (s.group c.group).cell toD).length

theorem migrationRequestPost_posts (toD : Bool) (harg : s.arg = .nat cid (if toD then 1 else 0) 0) (hc : tget s.courses cid = some c)
    (h : s.MayAsk c toD) : execMigrationRequestPost s = .next (s.setCourse cid { c with migReq := true }) := by
  obtain ⟨hst, hreq, hen, hbr, hsaved, hd, hdir, hroom⟩ := h
  cases toD <;> simp_all [execMigrationRequestPost]

theorem courseExchange_exchanges {other : Nat} {d : Course} (harg : s.arg = .nat cid other 0) (hc : tget s.courses cid = some c)
    (hd : tget s.courses other = some d) (hca : c.active = true) (hda : d.active = false) (hcd : c.dcore = true) (hdd : d.dcore = true)
    (halive : d.alive = true) (hbench : (s.group d.group).bench = (s.group c.group).bench)
    (hcell : (s.group d.group).cell = (s.group c.group).cell) :
    execCourseExchange s
      = .next ((s.setCourse cid { c with active := false, since := s.now }).setCourse other { d with active := true, since := s.now }) := by
  simp [execCourseExchange, harg, State.course_of_tget hc, State.course_of_tget hd, hca, hda, hcd, hdd, halive, hbench, hcell]

theorem budgetExhausted_refilled {tk bench : Nat} (harg : s.arg = .nat tk bench 0) (h : (s.spend tk bench).isSome = true) :
    execBudgetExhausted s = .next s := by
  simp [execBudgetExhausted, harg, h]

theorem budgetExhausted_parks {tk bench : Nat} (harg : s.arg = .nat tk bench 0) (h : s.spend tk bench = none) :
    execBudgetExhausted s
      = .next ((s.cands.filter (fun c => s.taskOf c.cid = tk && (s.group (s.course c.cid).group).bench = bench)).foldl
        (fun s c => if (s.course c.cid).st = .running then s.fetchFault c.cid c.w 0x0d 0 else s) s) := by
  simp only [execBudgetExhausted, harg, h, Option.isSome_none, Bool.false_eq_true, if_false]
  refine congrArg (fun f => Host.Outcome.next (List.foldl f s _)) (funext fun u => funext fun c => ?_)
  split
  · next hst => exact (if_pos hst).symm
  · next hst => exact (if_neg hst).symm

/-! ## Parked records -/

theorem parkedDeadlineKill_record {k a : Nat} (harg : s.arg = .nat k a 0) (hcur : s.plat.cur ≠ .retention) (hk : k < 2 ^ 20) :
    execParkedDeadlineKill s
      = .next (if (s.record k).used && (s.record k).gen = a && s.isPast (s.record k).deadline then s.killRec k 2 else s) := by
  have hne : k ≠ 2 ^ 21 := by omega
  have hlow : ¬ 2 ^ 20 ≤ k := by omega
  simp only [execParkedDeadlineKill, harg, if_neg hcur, if_neg hne, if_neg hlow]

theorem recordFreeGrant_nothing {die : Nat} (harg : s.arg = .nat die 0 0)
    (h : (s.die die).waiting = [] ∨ s.lowestFree die 0 8192 = none) : execRecordFreeGrant s = .next s := by
  rcases h with h | h
  · simp [execRecordFreeGrant, harg, h]
  · cases hw : (s.die die).waiting <;> simp [execRecordFreeGrant, harg, h, hw]

theorem recordFreeGrant_course {die k : Nat} {r : PRec} {rest : List PRec} (harg : s.arg = .nat die 0 0)
    (hw : (s.die die).waiting = r :: rest) (hk : s.lowestFree die 0 8192 = some k) (hkind : r.kind = 0) (hlim : r.deadline = none) :
    let u := ((s.setDie die { s.die die with waiting := rest }).setRecord k
      { r with gen := (s.record k).gen, used := true, stage := 1, parkedAt := s.now })
    let v := (u.setCourse r.uA { s.course r.uA with st := .parked die (k % 16384) }).raiseFault k
    execRecordFreeGrant s = .next (if rest = [] then v else v.postOnce v.now .recordFreeGrant (.nat die 0 0)) := by
  simp only [execRecordFreeGrant, harg, hw, hk, hkind, hlim, List.isEmpty_iff]
  rfl

end

/-- Settles O41: a migrating course goes over, returns or waits by the entry that it waits under and by what the other core can take; each
other event acts on the unit that it names. -/
theorem migrationAndExchange : Obligations.MigrationAndExchange := by
  intro s cid other id c d e g t toD there slots b moving fits ready
  simp only [exec_migrationComplete, exec_migrationRequestPost, exec_courseExchange, exec_budgetExhausted, exec_parkedDeadlineKill,
    exec_faultTaskDeferredWrite, exec_recordFreeGrant]
  refine ⟨?_, ?_, ?_, ?_, ?_, ?_, ?_, fun _ _ => budgetExhausted_refilled s, fun _ _ => budgetExhausted_parks s,
    fun _ _ => parkedDeadlineKill_record s, ?_, fun _ => recordFreeGrant_nothing s, fun _ _ _ _ => recordFreeGrant_course s⟩
  · rintro ⟨⟨hc, hst, harg⟩, hid, hflags, hfits, hdbg⟩ he
    obtain ⟨l, slot, hslot, hexec⟩ := migrationComplete_crosses s harg hc hst hid hflags hfits hdbg he
    exact ⟨_, slot, _, hexec, hslot, (State.course_setCourse ..).trans (if_pos rfl),
      fun j hj => (State.course_setCourse ..).trans (if_neg hj.symm), rfl, rfl⟩
  · rintro ⟨⟨hc, hst, harg⟩, hid, hflags, hfits, -⟩ he
    exact migrationComplete_noBridge s harg hc hst hid hflags hfits he
  · rintro ⟨hc, hst, harg⟩ rfl hfits
    obtain ⟨l, slot, hslot, hexec⟩ := migrationComplete_returns s harg hc hst hfits
    exact ⟨_, slot, _, hexec, hslot, (State.course_setCourse ..).trans (if_pos rfl),
      fun j hj => (State.course_setCourse ..).trans (if_neg hj.symm), rfl, rfl⟩
  · rintro ⟨hc, hst, harg⟩ h
    exact migrationComplete_waits s harg hc hst (h.imp_left Bool.eq_false_iff.mpr)
  · intro hc harg hst hreq hen hbr hsaved hd hdir hroom
    exact migrationRequestPost_posts s false harg hc ⟨hst, hreq, hen, hbr, hsaved, hd, hdir, hroom⟩
  · intro hc harg hst hreq hen hbr hsaved hd hdir hroom
    exact migrationRequestPost_posts s true harg hc ⟨hst, hreq, hen, hbr, hsaved, hd, hdir, hroom⟩
  · intro hc hd _ harg hca hda hcd hdd halive hbench hcell
    exact courseExchange_exchanges s harg hc hd hca hda hcd hdd halive hbench hcell
  · intro k harg
    simp only [execFaultTaskDeferredWrite, harg]

end Sys2Proof.Machine
end

section
/-! Dispatch, drains, saves, flushes and shadow copies (05 R144 to R157, 07 R188 to R212). -/
namespace Sys2Proof.Machine

theorem exec_dispatchSelect (s : State) : exec .dispatchSelect s = execDispatchSelect s := rfl
theorem exec_drainLimit (s : State) : exec .drainLimit s = execDrainLimit s := rfl
theorem exec_groupSaveComplete (s : State) : exec .groupSaveComplete s = execGroupSaveComplete s := rfl
theorem exec_shadowCopyDone (s : State) : exec .shadowCopyDone s = execShadowCopyDone s := rfl
theorem exec_ltodWaitLimit (s : State) : exec .ltodWaitLimit s = execLtodWaitLimit s := rfl

section
variable (s : State) {gk : Nat}

/-! ## DISPATCH_SELECT -/

@[simp] theorem State.ageReached_now (home : Nat) : (s.ageReached home).now = s.now := by
  refine List.foldlRecOn (motive := fun u : State => u.now = s.now) _ _ rfl fun u hu p _ => ?_
  split <;> exact hu

theorem dispatchSelect_off {bench : Nat} (harg : s.arg = .nat bench 0 0) (hw : s.works = false) : execDispatchSelect s = .next s := by
  simp [execDispatchSelect, harg, hw]

theorem dispatchSelect_selects {bench : Nat} (harg : s.arg = .nat bench 0 0) (hw : s.works = true) :
    let r := (s.ageReached bench).selectFrom ((s.ageReached bench).ranked bench)
    execDispatchSelect s = .next
      (if r.2 then r.1 else if (r.1.ranked bench).isEmpty then r.1 else r.1.postOnce (s.now + 64) .dispatchSelect (.nat bench 0 0)) := by
  simp [execDispatchSelect, harg, hw]

/-! ## DRAIN_LIMIT -/

theorem State.beginSave_begins (hended : (s.group gk).ended = false) (hsaved : (s.group gk).saved = false)
    (hsaving : (s.group gk).saving = false) :
    s.beginSave gk = (s.setGroup gk { s.group gk with saving := true, drain := none }).post (s.now + 1) .groupSaveComplete (.nat gk 0 0) := by
  simp [State.beginSave, hended, hsaved, hsaving]

/-- A group that leaves already, or has left, is not saved again. -/
theorem State.beginSave_done (h : (s.group gk).saved = true ∨ (s.group gk).saving = true) : s.beginSave gk = s := by
  rcases h with h | h <;> simp [State.beginSave, h]

theorem drainLimit_saves {lim : Nat} (harg : s.arg = .nat gk 0 0) (hended : (s.group gk).ended = false)
    (hdrain : (s.group gk).drain = some lim) (hlim : lim ≤ s.now) (hslot : (s.group gk).slot.isSome = true) :
    execDrainLimit s = .next (s.beginSave gk) := by
  simp [execDrainLimit, harg, hended, hdrain, hlim, hslot]

theorem drainLimit_idle (harg : s.arg = .nat gk 0 0)
    (h : (s.group gk).ended = true ∨ (s.group gk).saved = true ∨ (s.group gk).saving = true ∨ (s.group gk).drain = none
      ∨ (s.group gk).slot = none ∨ ∃ lim, (s.group gk).drain = some lim ∧ s.now < lim) :
    execDrainLimit s = .next s := by
  rcases h with h | h | h | h | h | ⟨lim, h, hlim⟩
  · simp [execDrainLimit, harg, h]
  · simp [execDrainLimit, harg, s.beginSave_done (.inl h)]
  · simp [execDrainLimit, harg, s.beginSave_done (.inr h)]
  · simp [execDrainLimit, harg, h]
  · simp [execDrainLimit, harg, h]
  · simp [execDrainLimit, harg, h, Nat.not_le.mpr hlim]

/-! ## GROUP_SAVE_COMPLETE -/

/-- What changes no group, course by course, changes none for any list of courses. -/
theorem State.group_foldl {f : State → Nat → State} (hf : ∀ u c, (f u c).groups = u.groups) (l : List Nat) (g : Nat) :
    (l.foldl f s).group g = s.group g := by
  have hgroups : (l.foldl f s).groups = s.groups :=
    List.foldlRecOn (motive := fun u => u.groups = s.groups) _ _ rfl fun u hu c _ => (hf u c).trans hu
  simp only [State.group, hgroups]

/-- A saved group has left its banks. -/
theorem State.group_saveGroup (gk : Nat) : ((s.saveGroup gk).group gk).saved = true ∧ ((s.saveGroup gk).group gk).banks = []
    ∧ ((s.saveGroup gk).group gk).saving = false := by
  unfold State.saveGroup
  extract_lets
  rw [State.group_foldl, State.group_setGroup, if_pos rfl]
  · exact ⟨rfl, rfl, rfl⟩
  · intro u c
    dsimp only
    split <;> rfl

/-- A flushed group waits to start again: it holds its place among the groups of its task and its slot, and nothing else (R191). -/
theorem State.group_flushGroup (gk : Nat) :
    (s.flushGroup gk).group gk = { task := (s.group gk).task, f := (s.group gk).f, b := (s.group gk).b, g := (s.group gk).g
                                   bench := (s.group gk).bench, cell := (s.group gk).cell, index := (s.group gk).index
                                   win := (s.group gk).win, dcore := (s.group gk).dcore, level := (s.group gk).level
                                   slot := (s.group gk).slot, saved := true, fresh := true } := by
  unfold State.flushGroup
  extract_lets
  rw [State.group_foldl, State.group_setGroup, if_pos rfl]
  exact fun _ _ => rfl

theorem groupSaveComplete_saves (harg : s.arg = .nat gk 0 0) (hsaving : (s.group gk).saving = true) (hended : (s.group gk).ended = false)
    (hflush : (s.group gk).flushing = false) (hready : s.saveReady gk = true) : execGroupSaveComplete s = .next (s.saveGroup gk) := by
  simp [execGroupSaveComplete, harg, hsaving, hended, hflush, hready]

theorem groupSaveComplete_flushes (harg : s.arg = .nat gk 0 0) (hsaving : (s.group gk).saving = true) (hended : (s.group gk).ended = false)
    (hflush : (s.group gk).flushing = true) (hready : s.flushReady gk = true) : execGroupSaveComplete s = .next (s.flushGroup gk) := by
  simp [execGroupSaveComplete, harg, hsaving, hended, hflush, hready]

theorem groupSaveComplete_waits (harg : s.arg = .nat gk 0 0) (hsaving : (s.group gk).saving = true) (hended : (s.group gk).ended = false)
    (h : ((s.group gk).flushing = false ∧ s.saveReady gk = false) ∨ ((s.group gk).flushing = true ∧ s.flushReady gk = false)) :
    execGroupSaveComplete s = .next (s.postOnce (s.now + 1) .groupSaveComplete (.nat gk 0 0)) := by
  rcases h with ⟨hflush, hready⟩ | ⟨hflush, hready⟩ <;> simp [execGroupSaveComplete, harg, hsaving, hended, hflush, hready]

theorem groupSaveComplete_idle (harg : s.arg = .nat gk 0 0) (h : (s.group gk).saving = false ∨ (s.group gk).ended = true) :
    execGroupSaveComplete s = .next s := by
  rcases h with h | h <;> simp [execGroupSaveComplete, harg, h]

/-! ## SHADOW_COPY_DONE -/

/-- A course goes on when it waits for the shadow copy of a boundary of this scope (R212, 10 R307). -/
def State.passCopying (lw : Bool) (scope : Nat) (s : State) (cid : Nat) : State :=
  let c := s.course cid
  if c.alive && (c.splits.any (fun p => p.2.wait.isCopying scope) || c.held.any (fun h => !h.ended && h.wait.isCopying scope)) then
    s.setCourse cid (c.passBoundary lw scope (fun w => w.isCopying scope))
  else s

theorem State.passCopying_dead {lw : Bool} {scope cid : Nat} (h : (s.course cid).alive = false) : s.passCopying lw scope cid = s := by
  simp [State.passCopying, h]

theorem State.passCopying_waiting {lw : Bool} {scope cid : Nat} (hc : (s.course cid).alive = true)
    (hw : ∃ p ∈ (s.course cid).splits, p.2.wait.isCopying scope = true) :
    s.passCopying lw scope cid = s.setCourse cid ((s.course cid).passBoundary lw scope (fun w => w.isCopying scope)) := by
  have hany : (s.course cid).splits.any (fun p => p.2.wait.isCopying scope) = true := List.any_eq_true.mpr hw
  simp [State.passCopying, hc, hany]

theorem execShadowCopyDone_eq {scope : Nat} (harg : s.arg = .nat gk scope 0) :
    let u := (s.coursesOf gk).foldl (State.passCopying (s.task (s.group gk).task).hdr.lw16 scope) s
    execShadowCopyDone s = .next (if (u.group gk).ended then u else u.newInterval gk) := by
  simp only [execShadowCopyDone, harg]
  rfl

theorem shadowCopyDone_dead {scope : Nat} (harg : s.arg = .nat gk scope 0) (h : ∀ c ∈ s.coursesOf gk, (s.course c).alive = false) :
    execShadowCopyDone s = .next (if (s.group gk).ended then s else s.newInterval gk) := by
  have hfold : (s.coursesOf gk).foldl (State.passCopying (s.task (s.group gk).task).hdr.lw16 scope) s = s :=
    List.foldlRecOn (motive := (· = s)) _ _ rfl fun u hu c hc => by subst hu; exact u.passCopying_dead (h c hc)
  rw [execShadowCopyDone_eq s harg, hfold]

theorem shadowCopyDone_alone {scope c : Nat} (hcs : s.coursesOf gk = [c]) (harg : s.arg = .nat gk scope 0)
    (hc : (s.course c).alive = true) (hw : ∃ p ∈ (s.course c).splits, p.2.wait.isCopying scope = true) :
    let u := s.setCourse c ((s.course c).passBoundary (s.task (s.group gk).task).hdr.lw16 scope (fun w => w.isCopying scope))
    execShadowCopyDone s = .next (if (s.group gk).ended then u else u.newInterval gk) := by
  rw [execShadowCopyDone_eq s harg, hcs, List.foldl_cons, List.foldl_nil, s.passCopying_waiting hc hw]
  rfl

/-! ## LTOD_WAIT_LIMIT -/

theorem ltodWaitLimit_waiting {tk : Nat} {t : Task} (harg : s.arg = .nat tk 0 0) (ht : tget s.tasks tk = some t)
    (hltod : t.ltod.isSome = true) : execLtodWaitLimit s = .next (s.setTask tk { t with ltod := some 0 }) := by
  simp [execLtodWaitLimit, harg, ht, hltod]

theorem ltodWaitLimit_idle {tk : Nat} {t : Task} (harg : s.arg = .nat tk 0 0) (ht : tget s.tasks tk = some t) (hltod : t.ltod = none) :
    execLtodWaitLimit s = .next s := by
  simp [execLtodWaitLimit, harg, ht, hltod]

end

/-- The dispatchers' half of O42: each event acts by what the group that it names has come to. -/
theorem dispatchAndImages_claim : Claims.DispatchAndImages := by
  intro s gk bench scope tk g named r later
  simp only [later, exec_dispatchSelect, exec_drainLimit, exec_groupSaveComplete, exec_shadowCopyDone, exec_ltodWaitLimit]
  refine ⟨dispatchSelect_selects s, dispatchSelect_off s, ?_, drainLimit_idle s, ?_, ?_, ?_, ?_, groupSaveComplete_idle s,
    shadowCopyDone_dead s, fun _ => shadowCopyDone_alone s, fun _ => ltodWaitLimit_waiting s, fun _ => ltodWaitLimit_idle s⟩
  · intro lim harg hended hsaved hsaving hdrain hlim hslot
    rw [drainLimit_saves s harg hended hdrain hlim hslot, s.beginSave_begins hended hsaved hsaving]
  · intro harg hsaving hended hflush hready
    exact ⟨groupSaveComplete_saves s harg hsaving hended hflush hready, s.group_saveGroup gk⟩
  · intro harg hsaving hended hflush hready
    have hg := s.group_flushGroup gk
    exact ⟨groupSaveComplete_flushes s harg hsaving hended hflush hready, by rw [hg], by rw [hg], by rw [hg], by rw [hg]⟩
  · intro harg hsaving hended hflush hready
    exact groupSaveComplete_waits s harg hsaving hended (.inl ⟨hflush, hready⟩)
  · intro harg hsaving hended hflush hready
    exact groupSaveComplete_waits s harg hsaving hended (.inr ⟨hflush, hready⟩)

end Sys2Proof.Machine
end

section
/-! Notices of tags (05 R129, R137, 17 R479). -/
namespace Sys2Proof.Machine

theorem exec_waitTagNotice (s : State) : exec .waitTagNotice s = execWaitTagNotice s := rfl

/-! ## Entries of a table -/

theorem mem_of_tget {α : Type} {m : FMap α} {k : Nat} {x : α} (h : tget m k = some x) : (k, x) ∈ m := by
  induction m with
  | nil => simp at h
  | cons p m ih =>
    obtain ⟨a, y⟩ := p
    simp only [tget] at h
    split at h
    · next ha => subst ha; obtain rfl := Option.some.inj h; exact List.mem_cons_self
    · split at h
      · simp at h
      · exact List.mem_cons_of_mem _ (ih h)

theorem le_of_mem_tsorted {α : Type} {lo : Nat} {m : FMap α} {p : Nat × α} (hm : tsorted lo m = true) (hp : p ∈ m) : lo ≤ p.1 := by
  induction m generalizing lo with
  | nil => simp at hp
  | cons q m ih =>
    obtain ⟨a, y⟩ := q
    simp only [tsorted, Bool.and_eq_true, decide_eq_true_eq] at hm
    rcases List.mem_cons.mp hp with rfl | hp
    · exact hm.1
    · have := ih hm.2 hp
      omega

/-- The keys of a sorted table rise strictly. -/
theorem pairwise_of_tsorted {α : Type} {lo : Nat} {m : FMap α} (hm : tsorted lo m = true) : m.Pairwise (fun p q => p.1 < q.1) := by
  induction m generalizing lo with
  | nil => exact .nil
  | cons q m ih =>
    obtain ⟨a, y⟩ := q
    simp only [tsorted, Bool.and_eq_true, decide_eq_true_eq] at hm
    exact .cons (fun p hp => le_of_mem_tsorted hm.2 hp) (ih hm.2)

theorem tget_of_mem {α : Type} {lo : Nat} {m : FMap α} {p : Nat × α} (hm : tsorted lo m = true) (hp : p ∈ m) : tget m p.1 = some p.2 := by
  induction m generalizing lo with
  | nil => simp at hp
  | cons q m ih =>
    obtain ⟨a, y⟩ := q
    simp only [tsorted, Bool.and_eq_true, decide_eq_true_eq] at hm
    rcases List.mem_cons.mp hp with rfl | hp
    · simp [tget]
    · have hlt : a < p.1 := le_of_mem_tsorted hm.2 hp
      simp only [tget, if_neg (Nat.ne_of_lt hlt), if_neg (Nat.lt_asymm hlt), ih hm.2 hp]

/-- A filter of a sorted table that one entry alone passes. -/
theorem filter_eq_singleton {α : Type} {lo : Nat} {m : FMap α} {f : Nat × α → Bool} {p : Nat × α} (hm : tsorted lo m = true) (hp : p ∈ m)
    (hf : f p = true) (h : ∀ q ∈ m, f q = true → q = p) : m.filter f = [p] := by
  have hnodup : (m.filter f).Nodup := ((pairwise_of_tsorted hm).imp (fun hlt he => Nat.ne_of_lt hlt (congrArg _ he))).filter f
  refine List.perm_singleton.mp ((List.perm_ext_iff_of_nodup hnodup (List.pairwise_singleton _ p)).mpr fun q => ?_)
  rw [List.mem_filter, List.mem_singleton]
  exact ⟨fun hq => h q hq.1 hq.2, fun hq => hq ▸ ⟨hp, hf⟩⟩

/-! ## Held tasks -/

theorem State.task_of_tget {s : State} {k : Nat} {t : Task} (h : tget s.tasks k = some t) : s.task k = t := tgetD_of_tget _ h

/-- A held task stays, becomes ready, or completes as a NOP: no more than its own entry and the agenda changes. -/
theorem State.settleHeld_cases (s : State) (tk : Nat) :
    ∃ tasks agenda, s.settleHeld tk = { s with tasks, agenda } ∧ ∀ j, j ≠ tk → (s.settleHeld tk).task j = s.task j := by
  unfold State.settleHeld
  dsimp only
  split
  · split
    · exact ⟨_, _, rfl, fun j hj => (State.task_setTask ..).trans (if_neg hj.symm)⟩
    · exact ⟨_, _, rfl, fun j hj => (State.task_setTask ..).trans (if_neg hj.symm)⟩
  · exact ⟨_, _, rfl, fun _ _ => rfl⟩

/-- A task observes the tag of a word for its wait slots (R137). -/
def State.observe (va : Nat) (s : State) (tk : Nat) : State :=
  let t := s.task tk
  (s.setTask tk { t with seen := t.seen ++ ((t.trec.slotsOf 1).filter (fun x => x.2 = va && !t.seen.contains x.1)).map (·.1) }).settleHeld tk

theorem State.observe_frame (s : State) (va tk : Nat) :
    ∃ tasks agenda, s.observe va tk = { s with tasks, agenda } ∧ ∀ j, j ≠ tk → (s.observe va tk).task j = s.task j := by
  obtain ⟨tasks, agenda, heq, htask⟩ := State.settleHeld_cases
    (s.setTask tk { s.task tk with seen := (s.task tk).seen
      ++ (((s.task tk).trec.slotsOf 1).filter (fun x => x.2 = va && !(s.task tk).seen.contains x.1)).map (·.1) }) tk
  exact ⟨tasks, agenda, heq, fun j hj => (htask j hj).trans ((State.task_setTask ..).trans (if_neg hj.symm))⟩

/-- Does a held task wait on the word of a tag that became full at a tick, and had it been copied by then? -/
def Task.awaits (vdn va tick : Nat) (t : Task) : Prop := t.st = .held ∧ t.vd = vdn ∧ t.copied ≤ tick ∧ ∃ x ∈ t.trec.slotsOf 1, x.2 = va

/-- The same as a test. -/
def Task.awaitsB (vdn va tick : Nat) (t : Task) : Bool :=
  t.st = .held && t.vd = vdn && t.copied ≤ tick && (t.trec.slotsOf 1).any (fun x => x.2 = va)

theorem Task.awaitsB_iff {vdn va tick : Nat} {t : Task} : t.awaitsB vdn va tick = true ↔ t.awaits vdn va tick := by
  simp [Task.awaitsB, Task.awaits, and_assoc]

theorem execWaitTagNotice_eq {s : State} {vdn va tick : Nat} (harg : s.arg = .nat vdn va tick) :
    execWaitTagNotice s = .next ((s.tasks.filter (fun p => p.2.awaitsB vdn va tick)).foldl (fun u p => u.observe va p.1) s) := by
  simp only [execWaitTagNotice, harg]
  rfl

/-- Observing for some tasks changes them alone. -/
theorem State.observeAll_frame (s : State) (va : Nat) (l : List (Nat × Task)) :
    ∃ tasks agenda, l.foldl (fun u p => u.observe va p.1) s = { s with tasks, agenda }
      ∧ ∀ j, (∀ p ∈ l, p.1 ≠ j) → (l.foldl (fun u p => u.observe va p.1) s).task j = s.task j := by
  induction l generalizing s with
  | nil => exact ⟨_, _, rfl, fun _ _ => rfl⟩
  | cons p l ih =>
    obtain ⟨_, _, heq, htask⟩ := s.observe_frame va p.1
    obtain ⟨tasks, agenda, heqs, htasks⟩ := ih (s.observe va p.1)
    refine ⟨tasks, agenda, ?_, fun j hj => ?_⟩
    · rw [List.foldl_cons, heqs, heq]
    · rw [List.foldl_cons, htasks j (fun q hq => hj q (List.mem_cons_of_mem _ hq)), htask j (hj p List.mem_cons_self).symm]

/-- The notices' part of O42: the tasks that the notice reaches are those that wait on the word. -/
theorem tagNotices : Claims.TagNotices := by
  intro s vdn va tick harg hsorted waits sees
  simp only [exec_waitTagNotice, execWaitTagNotice_eq harg]
  refine ⟨?_, fun tk x hx hwaits honly => ?_⟩
  · obtain ⟨_, _, heq, htask⟩ := s.observeAll_frame va (s.tasks.filter (fun p => p.2.awaitsB vdn va tick))
    refine ⟨_, rfl, fun j hj => htask j fun p hp hpj => hj ?_, by rw [heq], by rw [heq], by rw [heq]⟩
    obtain ⟨hmem, haw⟩ := List.mem_filter.mp hp
    rw [← hpj, State.task_of_tget (tget_of_mem hsorted hmem)]
    exact Task.awaitsB_iff.mp haw
  · rw [filter_eq_singleton hsorted (mem_of_tget hx) (Task.awaitsB_iff.mpr hwaits) fun p hp hpaw => honly p hp (Task.awaitsB_iff.mp hpaw)]
    rw [List.foldl_cons, List.foldl_nil, State.observe, State.task_of_tget hx]

end Sys2Proof.Machine
end

section
/-! Consumed uncorrectable words (06 R184, 07 R209, R213, R216, 12 R352). -/
namespace Sys2Proof.Machine

theorem exec_uncorrectableConsumed (s : State) : exec .uncorrectableConsumed s = execUncorrectableConsumed s := rfl

/-- A cell that counts an error, and what becomes due of it, leave all else alone. -/
theorem State.countError_eq (s : State) (bench cell : Nat) : ∃ cells agenda, s.countError bench cell = { s with cells, agenda } := by
  simp only [State.countError]
  split
  · exact ⟨_, _, State.postOnce_eq ..⟩
  · exact ⟨_, _, rfl⟩

@[simp] theorem State.course_countError (s : State) (bench cell k : Nat) : (s.countError bench cell).course k = s.course k := by
  obtain ⟨_, _, h⟩ := s.countError_eq bench cell
  rw [h]; rfl
@[simp] theorem State.group_countError (s : State) (bench cell k : Nat) : (s.countError bench cell).group k = s.group k := by
  obtain ⟨_, _, h⟩ := s.countError_eq bench cell
  rw [h]; rfl
@[simp] theorem State.task_countError (s : State) (bench cell k : Nat) : (s.countError bench cell).task k = s.task k := by
  obtain ⟨_, _, h⟩ := s.countError_eq bench cell
  rw [h]; rfl
@[simp] theorem State.copy_countError (s : State) (bench cell k : Nat) : (s.countError bench cell).copy k = s.copy k := by
  obtain ⟨_, _, h⟩ := s.countError_eq bench cell
  rw [h]; rfl

/-! ## A shadowed group -/

section
variable (s : State) {gk : Nat} (addr : Word)

/-- Is a group shadowed, with its courses in its cell and not parked as a whole? -/
structure State.Shadowing (s : State) (gk : Nat) : Prop where
  running : (s.group gk).ended = false
  shadow : (s.task (s.group gk).task).hdr.shadow = true
  resident : (s.group gk).saved = false
  unparked : s.parkedWhole gk = false

/-- What a group that has consumed an uncorrectable word undoes (R213). -/
def Group.undoing (g : Group) (addr : Word) : Undo := g.undo.getD { addr }

/-- Does it roll back: RETRY asks for it, or the interval has not escaped? -/
def Group.rolls (g : Group) (addr : Word) : Bool := (g.undoing addr).retry || !g.escaped

theorem State.groupUE_waits (h : s.Shadowing gk)
    (hwait : s.segsDone gk = false ∨ ((s.group gk).rolls addr = false ∧ s.groupStill gk = false)) :
    s.groupUE gk addr = (s.setGroup gk { s.group gk with undo := some ((s.group gk).undoing addr) }).postOnce (s.now + 1)
      .uncorrectableConsumed (.consumer (.group gk) 3 addr) := by
  obtain ⟨hended, hshadow, hsaved, hparked⟩ := h
  unfold Group.rolls Group.undoing at *
  rcases hwait with hsegs | ⟨hroll, hstill⟩
  · simp [State.groupUE, hended, hshadow, hsaved, hparked, hsegs]
  · simp [State.groupUE, hended, hshadow, hsaved, hparked, hroll, hstill]

theorem State.groupUE_rolls (h : s.Shadowing gk) (hsegs : s.segsDone gk = true) (hroll : (s.group gk).rolls addr = true) :
    let u := (s.setGroup gk { s.group gk with undo := none }).rollback gk
    s.groupUE gk addr = if ((s.group gk).undoing addr).retry then u
      else u.setGroup gk { u.group gk with lastUE := some ((s.group gk).undoing addr).addr } := by
  obtain ⟨hended, hshadow, hsaved, hparked⟩ := h
  unfold Group.rolls Group.undoing at *
  simp [State.groupUE, hended, hshadow, hsaved, hparked, hsegs, hroll]

theorem State.groupUE_parks (h : s.Shadowing gk) (hsegs : s.segsDone gk = true) (hroll : (s.group gk).rolls addr = false)
    (hstill : s.groupStill gk = true) :
    s.groupUE gk addr = (s.setGroup gk { s.group gk with undo := none }).parkGroup gk := by
  obtain ⟨hended, hshadow, hsaved, hparked⟩ := h
  unfold Group.rolls Group.undoing at *
  simp [State.groupUE, hended, hshadow, hsaved, hparked, hsegs, hroll, hstill]

end

/-! ## UNCORRECTABLE_CONSUMED -/

section
variable {s : State} {who : Consumer} {cause : Nat} {addr : Word}

/-- Does the group of what has consumed a word undo, rather than the unit park (R213)? -/
def State.Undoes (s : State) (gk : Nat) (addr : Word) : Prop :=
  (s.task (s.group gk).task).hdr.shadow = true ∧ ((s.group gk).undo.isSome = true ∨ s.rollsBack gk addr = true)

theorem uncorrectableConsumed_ended (harg : s.arg = .consumer who cause addr) (h : (s.group (s.consumerGroup who)).ended = true) :
    execUncorrectableConsumed s = .next s := by
  simp [execUncorrectableConsumed, harg, h]

theorem uncorrectableConsumed_undoes (harg : s.arg = .consumer who cause addr) (hended : (s.group (s.consumerGroup who)).ended = false)
    (h : s.Undoes (s.consumerGroup who) addr) :
    execUncorrectableConsumed s = .next ((if (s.group (s.consumerGroup who)).undo.isSome = true ∨ who = .group (s.consumerGroup who) then s
      else s.countError (s.group (s.consumerGroup who)).bench (s.group (s.consumerGroup who)).cell).groupUE (s.consumerGroup who) addr) := by
  obtain ⟨hshadow, hundo⟩ := h
  simp only [execUncorrectableConsumed, harg, hended, hshadow, Bool.true_and, Bool.or_eq_true, hundo, if_true, decide_eq_true_eq,
    Bool.false_eq_true, if_false]

theorem uncorrectableConsumed_notUndone (harg : s.arg = .consumer who cause addr)
    (hended : (s.group (s.consumerGroup who)).ended = false) (h : ¬ s.Undoes (s.consumerGroup who) addr) :
    execUncorrectableConsumed s = .next (if (s.group (s.consumerGroup who)).saved then s else s.unitUE who addr) := by
  rw [State.Undoes, ← Bool.or_eq_true, ← Bool.and_eq_true] at h
  simp only [execUncorrectableConsumed, harg, hended, if_neg h, Bool.false_eq_true, if_false]

/-! ## The unit meets ECC_UE -/

/-- The instruction that a course has issued last of those whose results are still on their way. -/
def Course.landing (c : Course) : Option Pend :=
  (c.pends.filter (fun p => p.act = .none && p.due.isSome && !p.writes.isEmpty && p.late.isNone)).getLast?

theorem State.unitUE_landing {cid : Nat} {p : Pend} (hc : (s.course cid).alive = true) (hp : (s.course cid).landing = some p) :
    s.unitUE (.course cid) addr = (s.countError (s.group (s.course cid).group).bench (s.group (s.course cid).group).cell).meetLate cid
      { p with writes := [] } { cause := 3, addr, mask := lanesIn p.writes } := by
  unfold Course.landing at hp
  simp [State.unitUE, State.courseUE, State.consumerGroup, hc, hp]

theorem State.unitUE_here {cid w : Nat} {sp : Split} {rest : FMap Split} (hc : (s.course cid).alive = true)
    (hp : (s.course cid).landing = none) (hsp : (s.course cid).splits = (w, sp) :: rest) :
    s.unitUE (.course cid) addr = (s.countError (s.group (s.course cid).group).bench (s.group (s.course cid).group).cell).lateHere cid w
      { cause := 3, addr, mask := sp.mask } := by
  unfold Course.landing at hp
  simp only [State.unitUE, State.courseUE, State.consumerGroup, State.course_countError, hc, hp, hsp, Bool.not_true, Bool.false_eq_true,
    if_false]

theorem State.unitUE_node {g i : Nat} {n : Node} (hn : tget (s.group g).nodes i = some n) (hst : n.st = .pending) :
    s.unitUE (.node g i) addr = (s.countError (s.group g).bench (s.group g).cell).parkNode
      { gk := g, idx := i, vd := (s.task (s.group g).task).vd, n } { cause := 3, addr } n.d.whole { pc := 0 } := by
  simp [State.unitUE, State.consumerGroup, hn, hst]

theorem State.unitUE_segment {n : Nat} {x : Seg}
    (hx : (s.copy n).segs.find? (fun x => !x.done && !x.parked && !x.sent && x.left.isEmpty) = some x) :
    s.unitUE (.segment n) addr
      = (s.countError (s.group (s.copy n).group).bench (s.group (s.copy n).group).cell).parkSeg n x 3 addr := by
  simp only [State.unitUE, State.consumerGroup, State.copy_countError, hx]

end

/-- The errors' part of O42: a shadowed group undoes or parks, and elsewhere the cell counts the error and the unit meets it. -/
theorem consumedErrors : Claims.ConsumedErrors := by
  intro s who cause addr harg gk
  have hgk : gk = s.consumerGroup who := by cases who <;> rfl
  clear_value gk
  subst hgk
  intro g shadow counted tell undoes here whole undo rolls u landing
  have hunit (h : here) : tell = .next (s.unitUE who addr) := by
    obtain ⟨hended, hundoes, hsaved⟩ := h
    exact (uncorrectableConsumed_notUndone harg hended hundoes).trans (congrArg _ (if_neg (ne_true_of_eq_false hsaved)))
  have hrolls : rolls ↔ g.rolls addr = true := by simp [rolls, Group.rolls, Group.undoing, undo]
  refine ⟨uncorrectableConsumed_ended harg, uncorrectableConsumed_undoes harg, ?_, ?_, ?_, ?_, ?_, ?_, ?_, ?_⟩
  · intro hended hundoes hsaved
    exact (uncorrectableConsumed_notUndone harg hended hundoes).trans (congrArg _ (if_pos hsaved))
  · rintro ⟨hended, hshadow, hsaved, hparked⟩ hsegs hroll
    exact s.groupUE_rolls addr ⟨hended, hshadow, hsaved, hparked⟩ hsegs (hrolls.mp hroll)
  · rintro ⟨hended, hshadow, hsaved, hparked⟩ hsegs hroll hstill
    exact s.groupUE_parks addr ⟨hended, hshadow, hsaved, hparked⟩ hsegs (Bool.eq_false_iff.mpr (mt hrolls.mpr hroll)) hstill
  · rintro ⟨hended, hshadow, hsaved, hparked⟩ hwait
    exact s.groupUE_waits addr ⟨hended, hshadow, hsaved, hparked⟩
      (hwait.imp_right fun h => ⟨Bool.eq_false_iff.mpr (mt hrolls.mpr h.1), h.2⟩)
  · rintro h cid p rfl hc hp
    exact (hunit h).trans (congrArg _ (State.unitUE_landing hc hp))
  · rintro h cid w sp rest rfl hc hp hsp
    exact (hunit h).trans (congrArg _ (State.unitUE_here hc hp hsp))
  · intro h i n hwho hn hst
    obtain ⟨j, hj⟩ : ∃ j, who = .node j i := ⟨_, hwho⟩
    subst hj
    exact (hunit h).trans (congrArg _ (State.unitUE_node hn hst))
  · rintro h n x rfl hx
    exact (hunit h).trans (congrArg _ (State.unitUE_segment hx))

/-- Settles O42: the three families of events, each by what the unit that it names has come to. -/
theorem dispatchAndImages : Obligations.DispatchAndImages :=
  ⟨dispatchAndImages_claim, tagNotices, consumedErrors⟩

end Sys2Proof.Machine
end

section
/-! The completion of a checkpoint's RESTORE where one is due already (07 R205). -/
namespace Sys2Proof.Machine

theorem exec_vdCkptRestoreComplete (s : State) : exec .vdCkptRestoreComplete s = execVdCkptRestoreComplete s := rfl

/-- RESTORE_COMPLETE of device 0 as it stands on the agenda. -/
def restoreCompleteAt (tick : Nat) : Due := { tick, ev := { i := .vdCkptRestoreComplete, arg := .nat 0 0 0 } }

/-- At tick 0 device 0 restores an empty blob, and a second completion of it is due in that tick. -/
def restoringTwice : State :=
  { arg := .nat 0 0 0, vds := [(0, { ck := .restoring })], blobs := [([], {})], agenda := [restoreCompleteAt 0] }

/-- What is due once a meaning has been performed. -/
def agendaAfter (o : Out) : List Due :=
  match o with
  | .next t => t.agenda
  | _ => []

/-- The empty bytes at VD_SVBASE are those of the empty blob. -/
theorem blobAt_restoringTwice : restoringTwice.blobAt 0 (restoringTwice.vdReg 0).svbase.toNat = some {} := rfl

/-- The completion is due already, so that no other is posted for the next tick. -/
theorem agendaAfter_restoringTwice : agendaAfter (execVdCkptRestoreComplete restoringTwice) = [restoreCompleteAt 0] := rfl

/-- Refutes O57: its clause for a completion that finds an empty blob says that the next completion becomes due at the next tick, and does
not ask that none of this device is due already. The completion is posted again only where none is on the agenda, so that one of another
tick stands for it. RESTORE alone makes no such state, as each completion leaves the agenda before it posts the next; the statement speaks of
all states. -/
theorem not_checkpointsAndCells : ¬ Obligations.CheckpointsAndCells := by
  intro h
  obtain ⟨-, -, -, -, -, -, restored, -⟩ := h restoringTwice 0 0 0 { ck := .restoring } rfl
  obtain ⟨t, ht, -, -, -, hdue⟩ := restored rfl rfl blobAt_restoringTwice rfl rfl rfl rfl rfl
  have hagenda : t.agenda = [restoreCompleteAt 0] := by
    rw [← agendaAfter_restoringTwice, ← exec_vdCkptRestoreComplete, ht, agendaAfter]
  rw [hagenda, List.mem_singleton] at hdue
  exact absurd (congrArg Due.tick hdue) (Nat.succ_ne_zero 0)

end Sys2Proof.Machine
end

section
/-! Fetching from the code of a bench's route variant (13 R390, R400, 14 R403, 09 R261). -/
namespace Sys2Proof.Machine

/-! ## One word of code -/

/-- A course that sees no older code bytes, and runs from no stale loop buffer, reads the word that stands in memory, least significant
byte first. -/
theorem State.codeBits_of_fresh {s : State} {cid : Nat} (pa : Nat) (hstale : (s.course cid).staleI = []) (hloop : (s.course cid).loop = 0) :
    s.codeBits cid pa = Memory.read s.dram (pa + 3) ++ Memory.read s.dram (pa + 2) ++ Memory.read s.dram (pa + 1) ++ Memory.read s.dram pa := by
  have hold : (s.course cid).codeOld pa = [] := by simp [Course.codeOld, hstale, hloop]
  simp [State.codeBits, State.codeByte, hold]

theorem State.codeWord_unmapped {s : State} {cid a : Nat} (h : (s.vd (s.vdOf cid)).phys (s.variantAddr cid a) = none) :
    s.codeWord cid a = .error (.bad 1 (BitVec.ofNat 64 (s.variantAddr cid a))) := by
  rw [State.codeWord, h]

theorem State.codeWord_poisoned {s : State} {cid a : Nat} (hmap : ((s.vd (s.vdOf cid)).phys (s.variantAddr cid a)).isSome = true)
    (hbad : s.poisoned (s.vdOf cid) (s.variantAddr cid a) 4 = true) :
    s.codeWord cid a = .error (.bad 3 (BitVec.ofNat 64 (s.variantAddr cid a))) := by
  obtain ⟨pa, hpa⟩ := Option.isSome_iff_exists.mp hmap
  simp only [State.codeWord, hpa, hbad, if_true]

theorem State.codeWord_delivered {s : State} {cid a pa : Nat} (hpa : (s.vd (s.vdOf cid)).phys (s.variantAddr cid a) = some pa)
    (hgood : s.poisoned (s.vdOf cid) (s.variantAddr cid a) 4 = false) : s.codeWord cid a = .ok (s.codeBits cid pa) := by
  simp [State.codeWord, hpa, hgood]

theorem State.fetchWord_beyond {s : State} {cid a : Nat} (h : 2 ^ 57 ≤ s.variantAddr cid a) :
    s.fetchWord cid a = .error (.bad 2 (BitVec.ofNat 64 (s.variantAddr cid a))) :=
  if_pos h

theorem State.fetchWord_absent {s : State} {cid a : Nat} (h : s.variantAddr cid a < 2 ^ 57)
    (he : s.atlbEntry (s.coreOf cid) (s.vdOf cid) (s.variantAddr cid a) = none) :
    s.fetchWord cid a = .error (.wait (s.variantAddr cid a / 65536)) := by
  simp only [State.fetchWord, if_neg (Nat.not_le.mpr h), he]

theorem State.fetchWord_protected {s : State} {cid a : Nat} {e : AtlbEntry} (h : s.variantAddr cid a < 2 ^ 57)
    (he : s.atlbEntry (s.coreOf cid) (s.vdOf cid) (s.variantAddr cid a) = some e) (hmap : e.mapped = true) (hperm : e.perm.getLsbD 2 = false) :
    s.fetchWord cid a = .error (.bad 2 (BitVec.ofNat 64 (s.variantAddr cid a))) := by
  simp only [State.fetchWord, if_neg (Nat.not_le.mpr h), he, hmap, hperm, Bool.not_false, Bool.and_self, if_true]

/-- What the entry does not forbid, the device's table and memory decide. -/
theorem State.fetchWord_eq_codeWord {s : State} {cid a : Nat} {e : AtlbEntry} (h : s.variantAddr cid a < 2 ^ 57)
    (he : s.atlbEntry (s.coreOf cid) (s.vdOf cid) (s.variantAddr cid a) = some e) (hperm : e.mapped = true → e.perm.getLsbD 2 = true) :
    s.fetchWord cid a = s.codeWord cid a := by
  have hallow : (e.mapped && !e.perm.getLsbD 2) = false := by
    cases hmap : e.mapped
    · rfl
    · rw [hperm hmap]; rfl
  simp only [State.fetchWord, if_neg (Nat.not_le.mpr h), he, hallow, Bool.false_eq_true, if_false]

/-! ## The words of an instruction -/

/-- Each of these words is delivered at its place from an address on. -/
def Delivers (rd : Nat → Except Fetched Half) (a : Nat) (words : List Half) : Prop := ∀ i w, words[i]? = some w → rd (a + 4 * i) = .ok w

theorem Delivers.head {rd : Nat → Except Fetched Half} {a : Nat} {w : Half} {ws : List Half} (h : Delivers rd a (w :: ws)) : rd a = .ok w :=
  h 0 w rfl

theorem Delivers.tail {rd : Nat → Except Fetched Half} {a : Nat} {w : Half} {ws : List Half} (h : Delivers rd a (w :: ws)) :
    Delivers rd (a + 4) ws := by
  intro i x hx
  rw [← h (i + 1) x hx, Nat.mul_succ, Nat.add_assoc, Nat.add_comm 4]

theorem Delivers.readWords_eq {rd : Nat → Except Fetched Half} {a : Nat} {words : List Half} (h : Delivers rd a words) :
    readWords rd a words.length = .ok words := by
  induction words generalizing a with
  | nil => rfl
  | cons w ws ih => simp only [List.length_cons, readWords, h.head, ih h.tail]

/-- A word that is not delivered gives the fetch its outcome, whatever the mode of the group. -/
theorem State.fetchAt_of_error {s : State} {cid a : Nat} {r : Fetched} (h : s.fetchWord cid a = .error r) : s.fetchAt cid a = r := by
  have hread : readInstr (s.fetchWord cid) a = r := by simp only [readInstr, h]
  have hrefuse : s.refusesAt cid a = false := by simp only [State.refusesAt, h, Bool.and_false]
  cases r <;> simp only [State.fetchAt, hread, hrefuse, Bool.false_eq_true, if_false]

theorem State.fetchAt_of_instr {s : State} {cid a : Nat} {i : Instr} (h : readInstr (s.fetchWord cid) a = .instr i) :
    s.fetchAt cid a = .instr i := by
  simp only [State.fetchAt, h]

/-- ILLEGAL_ENCODING it is, whether or not the group refuses the word anyway. -/
theorem State.fetchAt_of_illegal {s : State} {cid a : Nat} (h : readInstr (s.fetchWord cid) a = .bad 7 0) : s.fetchAt cid a = .bad 7 0 := by
  simp only [State.fetchAt, h, ite_self]

theorem readInstr_of_badWord0 {rd : Nat → Except Fetched Half} {a : Nat} {w : Half} (hw : rd a = .ok w) (h : ∀ m, checkWord0 w ≠ .ok m) :
    readInstr rd a = .bad 7 0 := by
  cases hc : checkWord0 w with
  | ok m => exact absurd hc (h m)
  | error e => simp only [readInstr, hw, hc]

section
variable {rd : Nat → Except Fetched Half} {a : Nat} {w : Half} {ws : List Half}

theorem readInstr_of_decoded {i : Instr} (h : Delivers rd a (w :: ws)) (hlen : checkWord0 w = .ok (ws.length + 1))
    (hdec : decode (w :: ws) = .ok i) : readInstr rd a = .instr i := by
  simp only [readInstr, h.head, hlen, Nat.add_sub_cancel, h.tail.readWords_eq, hdec]

theorem readInstr_of_undecoded {e : DecodeError} (h : Delivers rd a (w :: ws)) (hlen : checkWord0 w = .ok (ws.length + 1))
    (hdec : decode (w :: ws) = .error e) : readInstr rd a = .bad 7 0 := by
  simp only [readInstr, h.head, hlen, Nat.add_sub_cancel, h.tail.readWords_eq, hdec]

end

/-- Settles O5: word 0 decides what is no instruction and how many words are read; each word is delivered as its address, its granule's
entry, the device's table and memory say. -/
theorem fetchReadsCode : Obligations.FetchReadsCode := by
  intro s cid a n words hstale hloop hlen v va entry
  refine ⟨fun hva => State.fetchAt_of_error (State.fetchWord_beyond hva), fun hva he => State.fetchAt_of_error (State.fetchWord_absent hva he),
    fun e hva he hmap hperm => State.fetchAt_of_error (State.fetchWord_protected hva he hmap hperm), ?unmapped, ?poisoned, ?delivered⟩
  case unmapped =>
    intro e hva he hmap hpa
    have hexec : e.mapped = true → e.perm.getLsbD 2 = true := fun h => absurd (hmap.symm.trans h) Bool.false_ne_true
    exact State.fetchAt_of_error ((State.fetchWord_eq_codeWord hva he hexec).trans (State.codeWord_unmapped hpa))
  case poisoned =>
    intro e hva he hexec hpa hbad
    exact State.fetchAt_of_error ((State.fetchWord_eq_codeWord hva he hexec).trans (State.codeWord_poisoned hpa hbad))
  case delivered =>
    intro hmem
    have hword : Delivers (s.fetchWord cid) a words := by
      intro i w hi
      obtain ⟨hlt, -⟩ := List.getElem?_eq_some_iff.mp hi
      obtain ⟨hva, ⟨e, he, -, hperm⟩, hgood, pa, hpa, hbytes⟩ := hmem i (by omega)
      rw [State.fetchWord_eq_codeWord hva he fun _ => hperm, State.codeWord_delivered hpa hgood, State.codeBits_of_fresh pa hstale hloop]
      exact congrArg _ (Option.some.inj (hbytes.symm.trans hi))
    obtain ⟨w0, ws, rfl⟩ : ∃ w0 ws, words = w0 :: ws := List.exists_cons_of_length_eq_add_one hlen
    obtain rfl : ws.length = n := Nat.succ.inj hlen
    refine ⟨fun hcount => ?_, fun hillegal => State.fetchAt_of_illegal (readInstr_of_badWord0 hword.head hillegal)⟩
    cases hdec : decode (w0 :: ws) with
    | ok i => exact State.fetchAt_of_instr (readInstr_of_decoded hword hcount hdec)
    | error e => exact State.fetchAt_of_illegal (readInstr_of_undecoded hword hcount hdec)

end Sys2Proof.Machine
end

section
/-! What a step leaves of spilt sectors and of killed copies (09 R272, 06 R181). -/
namespace Sys2Proof.Machine

/-! ## Spilt sectors -/

/-- The L1 of a cell is no part of its courses. -/
theorem State.settleL1_courses (s : State) : s.settleL1.courses = s.courses := by
  unfold State.settleL1
  refine List.foldlRecOn (motive := fun u : State => u.courses = s.courses) _ _ rfl fun u hu p _ => ?_
  dsimp only
  split
  · exact hu
  · exact hu

/-- Each sector that a course lists as spilt has a byte in its buffer. -/
def Course.spiltBuffered (c : Course) : Prop := ∀ e ∈ c.spilt, ∃ b ∈ c.buf, ∃ va, b.loc = .glob va ∧ va / 64 = e.1

theorem State.trimSpills_buffered (s : State) : ∀ p ∈ s.trimSpills.courses, p.2.spiltBuffered := by
  intro p hp
  obtain ⟨q, -, rfl⟩ := List.mem_map.mp hp
  split
  · next hempty =>
    intro e he
    simp [List.isEmpty_iff.mp hempty] at he
  · intro e he
    obtain ⟨b, hb, hin⟩ := List.any_eq_true.mp (List.mem_filter.mp he).2
    refine ⟨b, hb, ?_⟩
    split at hin
    · next va hloc => exact ⟨va, hloc, of_decide_eq_true hin⟩
    · cases hin

/-- The spilt sectors are seen to last, before the L1. -/
theorem State.settle_trims (s : State) : ∃ u : State, s.settle = u.trimSpills.settleL1 := ⟨_, rfl⟩

theorem settled_next {o : Out} {t : State} (h : settled o = .next t) : ∃ u : State, t = u.settle := by
  cases o with
  | next u => exact ⟨u, (Host.Outcome.next.inj h).symm⟩
  | fault f => cases h
  | refused r => cases h

/-- Whatever a step performs, what is noticed after it is the last that it does. -/
theorem step_next_settled {s t : State} (h : step s = .next t) : ∃ u : State, t = u.settle := by
  unfold step at h
  generalize s.tickOne.pickNext.1 = p at h
  cases p with
  | quiet => exact settled_next (o := .next _) h
  | event ev => exact settled_next h
  | issue c w i => exact settled_next h

/-- The half of O8 that speaks of spilt sectors. -/
theorem step_spilt_buffered {s t : State} (h : step s = .next t) : ∀ p ∈ t.courses, p.2.spiltBuffered := by
  obtain ⟨u, ht⟩ := step_next_settled h
  obtain ⟨v, hv⟩ := u.settle_trims
  rw [ht, hv, State.settleL1_courses]
  exact v.trimSpills_buffered

/-! ## Killed copies -/

/-- A killed copy, key 0, whose segment has ended, listed behind a copy of key 1 that is under way. -/
def copiesMisordered : State :=
  { copies := [(1, { course := 0, group := 0, segs := [{ id := 3, off := 0, len := 1, addr := 0 }] }),
      (0, { course := 0, group := 0, segs := [{ id := 2, off := 0, len := 1, addr := 0, done := true }], killed := some 0 })] }

/-- Nothing is due and nothing can issue, so that the step only notices; the removal of key 0 stops at the higher key before it. -/
theorem step_copiesMisordered : ∃ t, step copiesMisordered = .next t ∧ t.copies = copiesMisordered.copies := ⟨_, rfl, rfl⟩

/-- Refutes O8: its clause for killed copies does not ask that the keys of the table of copies rise. Where they do not, a killed copy whose
last segment has ended can stand behind a higher key, at which its removal stops. The operations of the model set and remove copies by key
in a rising table, so that the state is a malformed one; the statement speaks of all states. Its half for spilt sectors holds:
`step_spilt_buffered`. -/
theorem not_stepSettlesSpillsAndCopies : ¬ Obligations.StepSettlesSpillsAndCopies := by
  intro h
  obtain ⟨t, hstep, hcopies⟩ := step_copiesMisordered
  obtain ⟨-, hended⟩ := h copiesMisordered t hstep
  rw [hcopies] at hended
  obtain ⟨x, hx, hopen⟩ := hended _ (List.mem_cons_of_mem _ List.mem_cons_self) rfl
  obtain rfl := List.mem_singleton.mp hx
  cases hopen

end Sys2Proof.Machine
end

section
/-! The append of a node whose destination no pending node touches (11 R315, R318, R323, R328). -/
namespace Sys2Proof.Machine

section
variable (s : State)

/-! ## An instruction that is done -/

@[simp] theorem State.endPend_groups (cid n : Nat) : (s.endPend cid n).groups = s.groups := rfl

@[simp] theorem State.course_endPend_same (cid n : Nat) :
    (s.endPend cid n).course cid = { s.course cid with pends := (s.course cid).pends.filter (fun q => q.id ≠ n) } := by
  simp [State.endPend]

theorem State.course_endPend_other {cid c : Nat} (n : Nat) (h : c ≠ cid) : (s.endPend cid n).course c = s.course c := by
  simp [State.endPend, Ne.symm h]

/-! ## Room in the group and in the CAM -/

theorem State.makeNode_of_free {cid : Nat} (pend : Nat) (n : Node) (a : Asker) (h : (s.group (s.course cid).group).freeNode.isSome = true) :
    s.makeNode cid pend n a = (s, true) := by
  simp [State.makeNode, h]

theorem State.makeCam_of_room {gk n : Nat} (fuel : Nat) (a : Asker) (h : s.camUsed (s.group gk).bench (s.group gk).cell + n ≤ 64) :
    s.makeCam (fuel + 1) gk n a = (s, true) := by
  simp [State.makeCam, h]

/-! ## The append -/

/-- A group with a node added under an index, of an age and in the open batch; what killed nodes should have written there is forgotten. -/
def Group.addNode (g : Group) (r : NodeRef) (i key : Nat) : Group :=
  { g with nodes := tset g.nodes i { r.n with seq := key, batch := g.nextBatch, forced := none }
           dead := g.dead.filter (fun p => !(r.ranges p.1).any (fun x => (r.ranges r.n.d).any x.meets)) }

/-- Nothing is forced where the destination is clear and there is room. -/
theorem State.appendNode_of_room {cid pend i : Nat} {n : Node} {r : NodeRef} (hr : r = { gk := (s.course cid).group, idx := 0, vd := s.vdOf cid, n })
    (hclear : s.forceRanges (s.group r.gk).bench (s.group r.gk).cell (r.ranges n.d) { pc := n.pc, course := some cid, issued := some pend }
      = (s, true))
    (hfree : (s.group r.gk).freeNode = some i) (hroom : s.camUsed (s.group r.gk).bench (s.group r.gk).cell + n.camEntries ≤ 64) :
    s.appendNode cid pend n
      = ({ s.setGroup r.gk ((s.group r.gk).addNode r i s.nextKey) with nextKey := s.nextKey + 1 }.endPend cid pend, true) := by
  subst hr
  have hnode (a : Asker) : s.makeNode cid pend n a = (s, true) := s.makeNode_of_free pend n a (by simp [hfree])
  have hcam (a : Asker) := s.makeCam_of_room 64 a hroom
  simp only [State.appendNode, hclear, hnode, hcam, hfree, if_true, Bool.not_true, Bool.false_eq_true, if_false]
  rfl

end

/-- Settles O31: the destination forces nothing, a node and the CAM have room, and the rest is the frame of the two tables written. -/
theorem nodeAppended : Obligations.NodeAppended := by
  intro s cid pend i n gk g r hclear hfree hroom
  have happend := s.appendNode_of_room (r := r) rfl hclear hfree hroom
  refine ⟨_, (g.addNode r i s.nextKey).dead, happend, ?_, ?_, rfl, ?_, ?_⟩
  · exact (State.group_setGroup ..).trans (if_pos rfl)
  · exact fun h hne => (State.group_setGroup ..).trans (if_neg hne.symm)
  · exact State.course_endPend_same ..
  · exact fun c hne => State.course_endPend_other _ pend hne

end Sys2Proof.Machine
end

section
/-! Tensor identifiers, tile nodes, demands, waits and queries (11 R312 to R330, 18 R499 to R507). -/
namespace Sys2Proof.Machine

theorem exec_gdef (x : XFields) (s : State) : exec (.gdef x) s = execGdef x s := rfl
theorem exec_gview (x : XFields) (s : State) : exec (.gview x) s = execGview x s := rfl
theorem exec_grel (x : XFields) (s : State) : exec (.grel x) s = execGrel x s := rfl
theorem exec_tload (x : XFields) (s : State) : exec (.tload x) s = execTload x s := rfl
theorem exec_tmma (x : XFields) (s : State) : exec (.tmma x) s = execTmma x s := rfl
theorem exec_tew (x : XFields) (s : State) : exec (.tew x) s = execTew x s := rfl
theorem exec_tred (x : XFields) (s : State) : exec (.tred x) s = execTred x s := rfl
theorem exec_tcvt (x : XFields) (s : State) : exec (.tcvt x) s = execTcvt x s := rfl
theorem exec_tforce (x : XFields) (s : State) : exec (.tforce x) s = execTforce x s := rfl
theorem exec_tstore (x : XFields) (s : State) : exec (.tstore x) s = execTstore x s := rfl
theorem exec_twait (x : XFields) (s : State) : exec (.twait x) s = execTwait x s := rfl
theorem exec_tdrop (x : XFields) (s : State) : exec (.tdrop x) s = execTdrop x s := rfl
theorem exec_tqry (x : XFields) (s : State) : exec (.tqry x) s = execTqry x s := rfl

/-- The fields and the state of the context in which an X form issues. -/
theorem issuer_fields_state {s : State} {i : Instr} {k : Ctx} {x : XFields} (hx : xFieldsOf i = some x) (h : s.issuer i = some k) :
    k.x = x ∧ k.s = s :=
  ⟨by rw [issuer_fields h, hx]; rfl, issuer_state h⟩

section
variable {s u : State} {k : Ctx} {x : XFields} {l : List Byte} {t : Tensor}

/-! ## Identifiers -/

theorem execGdef_defines (h : s.issuer (.gdef x) = some k) (hl : k.readOperand (x.ext.getLsbD 0) (k.srcS x.sa) 128 = .bytes u l)
    (ht : descriptor l = some t) (hgood : t.good k.g.win = true) :
    execGdef x s = .next (({ k with s := u }.issueAt k.next [] .none).1.setTensor k.c.group (idNum x.vd) t) := by
  simp only [execGdef, withIssue_issuer h, hl, ht, hgood, if_true]
  rfl

theorem execGdef_refuses (h : s.issuer (.gdef x) = some k) (hl : k.readOperand (x.ext.getLsbD 0) (k.srcS x.sa) 128 = .bytes u l)
    (hbad : descriptor l = none ∨ (descriptor l = some t ∧ t.good k.g.win = false)) :
    execGdef x s = .next ({ k with s := u }.fault 0x0f 0 (k.srcS x.sa) 0 k.k0) := by
  rcases hbad with ht | ⟨ht, hgood⟩
  · simp only [execGdef, withIssue_issuer h, hl, ht]
    rfl
  · simp only [execGdef, withIssue_issuer h, hl, ht, hgood, Bool.false_eq_true, if_false]
    rfl

theorem execGview_defines (h : s.issuer (.gview x) = some k) (hbase : (k.tensor x.sa).isEmpty = false)
    (hl : k.readOperand (x.ext.getLsbD 0) (k.srcS x.sb) 40 = .bytes u l) (ht : viewOf (k.tensor x.sa) l = some t)
    (hgood : t.good k.g.win = true) :
    execGview x s = .next (({ k with s := u }.issueAt k.next [] .none).1.setTensor k.c.group (idNum x.vd) t) := by
  simp only [execGview, withIssue_issuer h, hbase, hl, ht, hgood, Bool.false_eq_true, if_false, if_true]
  rfl

theorem execGview_refuses (h : s.issuer (.gview x) = some k) (hbase : (k.tensor x.sa).isEmpty = false)
    (hl : k.readOperand (x.ext.getLsbD 0) (k.srcS x.sb) 40 = .bytes u l)
    (hbad : viewOf (k.tensor x.sa) l = none ∨ (viewOf (k.tensor x.sa) l = some t ∧ t.good k.g.win = false)) :
    execGview x s = .next ({ k with s := u }.badId (idNum x.vd)) := by
  rcases hbad with ht | ⟨ht, hgood⟩
  · simp only [execGview, withIssue_issuer h, hbase, hl, ht, Bool.false_eq_true, if_false]
  · simp only [execGview, withIssue_issuer h, hbase, hl, ht, hgood, Bool.false_eq_true, if_false]

/-- The identifiers' part of O30: what the operand describes is put into the identifier, or SCRATCH_RANGE names the operand or the
identifier. -/
theorem tensorIdentifiers : Claims.TensorIdentifiers := by
  intro s u k x l t spad gd base defines refuses
  refine ⟨fun hi hl => ⟨fun ht hgood => ?_, fun hbad => ?_⟩, fun hi hbase hl => ⟨fun ht hgood => ?_, fun hbad => ?_⟩, fun hi => ?_⟩
  · exact (exec_gdef x s).trans (execGdef_defines hi hl ht hgood)
  · exact (exec_gdef x s).trans (execGdef_refuses hi hl hbad)
  · exact (exec_gview x s).trans (execGview_defines hi hbase hl ht hgood)
  · exact (exec_gview x s).trans (execGview_refuses hi hbase hl hbad)
  · exact (exec_grel x s).trans (withIssue_issuer hi)

end

section
variable {k : Ctx}

/-! ## What takes effect at the cell (R497) -/

theorem Ctx.engine_busy {op : EngineOp} {now : Nat → State → State × Bool} (h : k.arrayBusy = true) :
    k.engine op now = (k.issueAt k.next [] (.engine op)).1 := if_pos h

theorem Ctx.engine_idle {op : EngineOp} {now : Nat → State → State × Bool} (h : k.arrayBusy = false) :
    let r := k.issueAt k.next [] (.engine op) true
    let q := now r.2 r.1
    k.engine op now = if q.2 then q.1 else q.1.postOnce (q.1.now + 1) .instructionComplete (.course k.cid r.2 0 0) :=
  if_neg (ne_true_of_eq_false h)

/-! ## Tile nodes -/

/-- Every check of R501 passes for the node that an instruction's fields name. -/
structure Ctx.NodeAllowed (k : Ctx) (op sub : Nat) (two : Bool) : Prop where
  dest : (k.tensor k.x.vd).isEmpty = false
  source : (k.tensor k.x.sa).isEmpty = false
  second : two = true → (k.tensor k.x.sb).isEmpty = false
  shapes : nodeBad op sub (k.tensor k.x.vd) (k.tensor k.x.sa) (if two then k.tensor k.x.sb else {}) = none
  apart : overlapBad k.c.group k.vdn op (k.tensor k.x.vd) (k.tensor k.x.sa) = false
  apartSecond : two = true → overlapBad k.c.group k.vdn op (k.tensor k.x.vd) (k.tensor k.x.sb) = false

/-- The node that an instruction appends (R315, R503). -/
def Ctx.newNode (k : Ctx) (op sub : Nat) (two acc : Bool) : Node :=
  { op, sub, sat := k.x.sat ≠ 0, acc, d := k.tensor k.x.vd, s1 := some (k.tensor k.x.sa), s2 := if two then some (k.tensor k.x.sb) else none
    course := k.cid, batch := k.g.nextBatch, pc := k.pc, pcOther := k.s.nodeSite k.t k.c.prof k.pc, prof := k.c.prof, trapmask := k.c.trapmask }

theorem Ctx.append_of_allowed {op sub : Nat} {two acc : Bool} (h : k.NodeAllowed op sub two) :
    k.append op sub two acc = k.engine (.append (k.newNode op sub two acc)) (fun id s => s.appendNode k.cid id (k.newNode op sub two acc)) := by
  obtain ⟨hdest, hsource, hsecond, hshapes, hapart, hapartSecond⟩ := h
  have hempty := Bool.and_eq_false_imp.mpr hsecond
  have hover := Bool.and_eq_false_imp.mpr hapartSecond
  simp only [Ctx.append, hdest, hsource, hempty, hshapes, hapart, hover, Bool.or_self, Bool.false_eq_true, if_false]
  rfl

/-- The nodes' part of O30: past the checks, all five instructions append through the one operation that takes effect at the cell. -/
theorem tileNodes : Claims.TileNodes := by
  intro s k x d a b appends
  have happends {i : Instr} {op sub : Nat} {two acc : Bool} (hfields : xFieldsOf i = some x)
      (hexec : s.issuer i = some k → exec i s = .next (k.append op sub two acc)) : appends i op sub two acc := by
    intro hi hd ha hb hbad hover hover2 n u v
    replace hexec := hexec hi
    obtain ⟨rfl, rfl⟩ := issuer_fields_state hfields hi
    rw [Ctx.append_of_allowed ⟨hd, ha, hb, hbad, hover, hover2⟩] at hexec
    refine ⟨fun hbusy => ?_, fun hidle hdone => ?_, fun hidle hwait => ?_⟩
    · exact hexec.trans (congrArg _ (Ctx.engine_busy hbusy))
    · exact hexec.trans (congrArg _ ((Ctx.engine_idle hidle).trans (if_pos hdone)))
    · exact hexec.trans (congrArg _ ((Ctx.engine_idle hidle).trans (if_neg (ne_true_of_eq_false hwait))))
  exact ⟨happends rfl fun h => (exec_tload x s).trans (withIssue_issuer h), happends rfl fun h => (exec_tmma x s).trans (withIssue_issuer h),
    happends rfl fun h => (exec_tew x s).trans (withIssue_issuer h), happends rfl fun h => (exec_tred x s).trans (withIssue_issuer h),
    happends rfl fun h => (exec_tcvt x s).trans (withIssue_issuer h)⟩

end

/-! ## Demands -/

section
variable {k : Ctx} {g : Tensor} {box : TBox} {store : Option (Tensor × Nat)}

theorem Ctx.demand_busy (h : k.arrayBusy = true) : k.demand g box store = k.blocked := if_pos h

theorem Ctx.demand_fails {st : Nat} (h : k.arrayBusy = false) (hf : k.s.demandFails k.c.group g box = some st) :
    k.demand g box store = k.s.killCourse k.cid st := by
  simp only [Ctx.demand, h, hf, Bool.false_eq_true, if_false]

theorem Ctx.demand_empty (h : k.arrayBusy = false) (hf : k.s.demandFails k.c.group g box = none) (hbox : boxEmpty box = true) :
    k.demand g box store = (k.issueBeside (k.skey k.x.vd.toNat) (BitVec.ofNat 64 k.g.nextBatch) .none false).1.setGroup k.c.group
      k.g.closeBatch.2 := by
  simp only [Ctx.demand, h, hf, hbox, Bool.false_eq_true, if_false, if_true]
  rfl

theorem Ctx.demand_evaluates (h : k.arrayBusy = false) (hf : k.s.demandFails k.c.group g box = none) (hbox : boxEmpty box = false) :
    let r := k.issueBeside (k.skey k.x.vd.toNat) (BitVec.ofNat 64 k.g.nextBatch) (.batch k.g.nextBatch) true
    let d : Demand := { batch := k.g.nextBatch, course := k.cid, g, box, pc := k.pc, store, scope := (k.x.ext.extractLsb' 6 3).toNat, issued := r.2 }
    k.demand g box store = (r.1.setGroup k.c.group { k.g.closeBatch.2 with demands := k.g.demands ++ [d] }).postOnce (k.s.now + 1)
      .nodeEvaluate (.nat k.c.group 0 0) := by
  simp only [Ctx.demand, h, hf, hbox, Bool.false_eq_true, if_false]
  rfl

end

section
variable {s : State} {k : Ctx} {x : XFields}

theorem execTforce_demands (h : s.issuer (.tforce x) = some k) (hg : (k.tensor x.sa).isEmpty = false) :
    execTforce x s = .next (k.demand (k.tensor x.sa) (k.box x.sb (k.tensor x.sa)) none) :=
  (withIssue_issuer h).trans (if_neg (ne_true_of_eq_false hg))

theorem execTstore_demands (h : s.issuer (.tstore x) = some k) (hd : (k.tensor x.sa).isEmpty = false) (hg : (k.tensor x.sb).isEmpty = false)
    (hfmt : (k.tensor x.sa).fmt = (k.tensor x.sb).fmt) (hcb : (k.tensor x.sa).fmt ≠ 12) (hview : sameView (k.tensor x.sa) (k.tensor x.sb) = true) :
    execTstore x s
      = .next (k.demand (k.tensor x.sb) (k.box x.sc (k.tensor x.sb)) (some (k.tensor x.sa, (x.ext.extractLsb' 6 3).toNat))) := by
  have hok : ((k.tensor x.sa).fmt ≠ (k.tensor x.sb).fmt || (k.tensor x.sa).fmt = 12 || !sameView (k.tensor x.sa) (k.tensor x.sb)) = false := by
    simp [hview, hcb, ← hfmt]
  simp only [execTstore, withIssue_issuer h, hd, hg, hok, Bool.false_eq_true, if_false]

theorem execTwait_looks (h : s.issuer (.twait x) = some k) :
    execTwait x s = .next (if k.g.wasClosed (k.srcS x.sa).toNat
      then (k.issueAt k.next [] (.twait (k.srcS x.sa).toNat (k.skey x.vd.toNat))).1 else k.issue [.s (k.skey x.vd.toNat) 1]) := by
  cases hclosed : k.g.wasClosed (k.srcS x.sa).toNat
  · exact (withIssue_issuer h).trans (if_pos (by rw [hclosed]; rfl))
  · exact (withIssue_issuer h).trans (if_neg (by rw [hclosed]; exact Bool.false_ne_true))

theorem execTdrop_drops (h : s.issuer (.tdrop x) = some k) (hg : (k.tensor x.sa).isEmpty = false) :
    execTdrop x s = .next (k.engine (.drop (k.tensor x.sa))
      (fun id s => ((s.dropNodes 64 k.c.group (k.tensor x.sa)).endPend k.cid id, true))) :=
  (withIssue_issuer h).trans (if_neg (ne_true_of_eq_false hg))

theorem execTqry_reads (h : s.issuer (.tqry x) = some k) :
    execTqry x s = .next (k.issue [.s (k.skey x.vd.toNat) (s.tqryWord k.c.group (x.ext.extractLsb' 0 4).toNat)]) := by
  simp only [execTqry, withIssue_issuer h, issuer_state h]
  rfl

end

/-- The demands' part of O30: a demand that a failed node does not stop is issued beside its number; the others look at the group. -/
theorem tileDemands : Claims.TileDemands := by
  intro s k x sd scope ta tb demands batch dropped
  have hdemands {i : Instr} {g : Tensor} {box : TBox} {store : Option (Tensor × Nat)} (hfields : xFieldsOf i = some x)
      (hi : s.issuer i = some k) (hexec : exec i s = .next (k.demand g box store)) : demands k g box store (exec i s) := by
    obtain ⟨rfl, rfl⟩ := issuer_fields_state hfields hi
    refine ⟨fun hbusy => ?_, fun hidle st hf => ?_, fun hidle hf hbox => ?_, fun hidle hf hbox => ?_⟩
    · exact hexec.trans (congrArg _ (Ctx.demand_busy hbusy))
    · exact hexec.trans (congrArg _ (Ctx.demand_fails hidle hf))
    · exact hexec.trans (congrArg _ (Ctx.demand_empty hidle hf hbox))
    · exact hexec.trans (congrArg _ (Ctx.demand_evaluates hidle hf hbox))
  refine ⟨fun hi hg => hdemands rfl hi ((exec_tforce x s).trans (execTforce_demands hi hg)),
    fun hi hd hg hfmt hcb hview => hdemands rfl hi ((exec_tstore x s).trans (execTstore_demands hi hd hg hfmt hcb hview)),
    fun hi => (exec_twait x s).trans (execTwait_looks hi), fun hi hg => (exec_tdrop x s).trans ((execTdrop_drops hi hg).trans (congrArg _ ?_)),
    fun hi => (exec_tqry x s).trans (execTqry_reads hi)⟩
  cases hbusy : k.arrayBusy
  · exact Ctx.engine_idle hbusy
  · exact Ctx.engine_busy hbusy

/-- Settles O30: identifiers, nodes and demands, each past the checks that come before its effect. -/
theorem tileInstructions : Obligations.TileInstructions := ⟨tensorIdentifiers, tileNodes, tileDemands⟩

end Sys2Proof.Machine
end

section
/-! COPY and COPYM (11 R335, 18 R514 to R518). -/
namespace Sys2Proof.Machine

theorem exec_copyX (x : XFields) (s : State) : exec (.copyX x) s = execCopyX x s := rfl
theorem exec_copyXl (x : XFields) (route : Word) (s : State) : exec (.copyXl x route) s = execCopyXl x route s := rfl
theorem exec_copymX (x : XFields) (s : State) : exec (.copymX x) s = execCopymX x s := rfl
theorem exec_copymXl (x : XFields) (route : Word) (s : State) : exec (.copymXl x route) s = execCopymXl x route s := rfl

/-! ## Fields of the auxiliary operand -/

theorem bits_toNat {w : Nat} (v : BitVec w) (hi lo : Nat) : bits v.toNat hi lo = (v.extractLsb' lo (hi + 1 - lo)).toNat :=
  (BitVec.extractLsb'_toNat ..).symm

theorem bits_eq_zero {w hi lo : Nat} {v : BitVec w} (h : v.extractLsb' lo (hi + 1 - lo) = 0) : bits v.toNat hi lo = 0 := by
  rw [bits_toNat, h]
  rfl

/-! ## The checks of a COPY -/

section
variable {k : Ctx} {route : Option Word} {rs : List Nat}

theorem routeDead_getD {s : State} (h : ∀ r, route = some r → s.routeDead r = false) : (route.map s.routeDead).getD false = false := by
  cases route with
  | none => rfl
  | some r => exact h r rfl

/-- Every check of a COPY passes, with receivers that MCAST names (R514 to R516). -/
structure Ctx.CopyAllowed (k : Ctx) (route : Option Word) (rs : List Nat) : Prop where
  multicast : k.x.ext.getLsbD 1 = true → (k.srcS k.x.vd).extractLsb' 8 24 = 0
    ∧ (k.x.ext.getLsbD 3 = false → (k.srcS k.x.vd).extractLsb' 32 32 = 0) ∧ k.receivers ((k.srcS k.x.vd).toNat % 256) = some rs
  single : k.x.ext.getLsbD 1 = false → rs = [] ∧ (k.x.ext.getLsbD 3 = true → (k.srcS k.x.vd).extractLsb' 0 32 = 0)
  window : (k.x.ext.getLsbD 0 && k.x.ext.getLsbD 3) = false → (k.srcS k.x.sb).toNat % 2 ^ 32 < 2 ^ 21
    ∧ k.winFits (if rs.isEmpty then [k.c.group] else insertNat rs k.c.group) ((k.srcS k.x.sb).toNat % 2 ^ 32) (k.srcS k.x.sc).toNat = true
  alignedGlobal : (k.srcS k.x.sa).toNat % 4 = 0
  alignedWindow : (k.srcS k.x.sb).toNat % 2 ^ 32 % 4 = 0
  alignedLength : (k.srcS k.x.sc).toNat % 4 = 0
  reached : ∀ r, route = some r → k.s.routeDead r = false

theorem Ctx.CopyAllowed.receivers_eq (h : k.CopyAllowed route rs) :
    (if k.x.ext.getLsbD 1 then k.receivers ((k.srcS k.x.vd).toNat % 256) else some []) = some rs := by
  cases hmc : k.x.ext.getLsbD 1
  · rw [(h.single hmc).1]; rfl
  · exact (h.multicast hmc).2.2

theorem Ctx.CopyAllowed.aux_good (h : k.CopyAllowed route rs) :
    (if k.x.ext.getLsbD 1 then decide (bits (k.srcS k.x.vd).toNat 31 8 ≠ 0) || (!k.x.ext.getLsbD 3 && decide (bits (k.srcS k.x.vd).toNat 63 32 ≠ 0))
      else k.x.ext.getLsbD 3 && decide (bits (k.srcS k.x.vd).toNat 31 0 ≠ 0)) = false := by
  cases hmc : k.x.ext.getLsbD 1
  · obtain ⟨-, hfill⟩ := h.single hmc
    exact Bool.and_eq_false_imp.mpr fun hf => by simp [bits_eq_zero (hi := 31) (hfill hf)]
  · obtain ⟨hmcast, hfill, -⟩ := h.multicast hmc
    simp only [if_true, bits_eq_zero (hi := 31) hmcast, ne_eq, not_true_eq_false, decide_false, Bool.false_or]
    exact Bool.and_eq_false_imp.mpr fun hf => by simp [bits_eq_zero (hi := 63) (hfill ((Bool.not_eq_true' _).mp hf))]

theorem Ctx.CopyAllowed.window_good (h : k.CopyAllowed route rs) :
    (!(k.x.ext.getLsbD 0 && k.x.ext.getLsbD 3) && (decide (2 ^ 21 ≤ (k.srcS k.x.sb).toNat % 2 ^ 32)
      || !k.winFits (if rs.isEmpty then [k.c.group] else insertNat rs k.c.group) ((k.srcS k.x.sb).toNat % 2 ^ 32) (k.srcS k.x.sc).toNat)) = false :=
  Bool.and_eq_false_imp.mpr fun hwin => by
    obtain ⟨hlow, hfits⟩ := h.window ((Bool.not_eq_true' _).mp hwin)
    rw [hfits, decide_eq_false (Nat.not_le.mpr hlow)]
    rfl

/-- The copy that an issuing COPY or COPYM starts, its own kind aside. -/
def Ctx.bareCopy (k : Ctx) (route : Option Word) : Copy :=
  { course := k.cid, group := k.c.group, pc := k.pc, prof := k.c.prof, trapmask := k.c.trapmask, bd := k.x.ext.getLsbD 2, far := route }

/-- The copy of a COPY. -/
def Ctx.newCopy (k : Ctx) (route : Option Word) (rs : List Nat) : Copy :=
  { k.bareCopy route with
    out := k.x.ext.getLsbD 0, mc := k.x.ext.getLsbD 1, recv := rs, scope := (k.x.ext.extractLsb' 6 3).toNat
    fill := if k.x.ext.getLsbD 3 then some ((k.srcS k.x.vd).extractLsb' 32 32) else none }

theorem Ctx.copy_of_allowed (h : k.CopyAllowed route rs) :
    k.copy route = if (k.srcS k.x.sc).toNat = 0 then k.issue []
      else k.startCopy (k.newCopy route rs) (k.srcS k.x.sa).toNat ((k.srcS k.x.sb).toNat % 2 ^ 32) (k.srcS k.x.sc).toNat := by
  have haux : ((k.x.ext.getLsbD 1 || k.x.ext.getLsbD 3) && _) = false := Bool.and_eq_false_imp.mpr fun _ => h.aux_good
  simp only [Ctx.copy, haux, h.receivers_eq, h.window_good, h.alignedGlobal, h.alignedWindow, h.alignedLength, routeDead_getD h.reached,
    ne_eq, not_true_eq_false, Bool.false_eq_true, if_false]
  rfl

/-! ## The checks of a COPYM -/

/-- Every check of a COPYM passes: those of its copy and those of the stream that follows it (R518, 11 R335). -/
structure Ctx.CopymAllowed (k : Ctx) (route : Option Word) (plane : Option Nat) : Prop where
  loaded : (k.s.cell (cellKey k.g.bench k.g.cell)).plane.fmt = plane
  auxLow : (k.srcS k.x.vd).extractLsb' 24 8 = 0
  auxHigh : (k.srcS k.x.vd).extractLsb' 53 11 = 0
  unscaled : plane ≠ some 12 → ((k.srcS k.x.vd).extractLsb' 32 21).toNat = 0
  low : (k.srcS k.x.sb).toNat % 2 ^ 32 < 2 ^ 21
  fits : k.winFits [k.c.group] ((k.srcS k.x.sb).toNat % 2 ^ 32) (k.srcS k.x.sc).toNat = true
  streams : k.streamFault k.x.type.toNat (k.srcS k.x.sb) (((k.srcS k.x.vd).extractLsb' 0 23).setWidth 64)
    (if plane = some 12 then some (BitVec.ofNat 64 ((k.srcS k.x.vd).extractLsb' 32 21).toNat) else none) = none
  enough : (((k.srcS k.x.vd).extractLsb' 8 8).toNat + 1) * planeK (plane.getD 0) * typeSize k.x.type.toNat ≤ (k.srcS k.x.sc).toNat
  alignedGlobal : (k.srcS k.x.sa).toNat % 4 = 0
  alignedLength : (k.srcS k.x.sc).toNat % 4 = 0
  reached : ∀ r, route = some r → k.s.routeDead r = false

/-- The copy of a COPYM. -/
def Ctx.newCopym (k : Ctx) (route : Option Word) : Copy :=
  { k.bareCopy route with follow := some (k.x.type.toNat, BitVec.ofNat 64 ((k.srcS k.x.sb).toNat % 2 ^ 32), k.srcS k.x.vd) }

theorem Ctx.copym_wants (h : k.s.holdsBow k.cid = false) : k.copym route = { k with s := k.s.wantBow k.cid }.blocked :=
  if_pos (by rw [h]; rfl)

theorem Ctx.CopymAllowed.aux_good {plane : Option Nat} (h : k.CopymAllowed route plane) :
    (decide (bits (k.srcS k.x.vd).toNat 31 24 ≠ 0) || decide (bits (k.srcS k.x.vd).toNat 63 53 ≠ 0)
      || (decide (plane ≠ some 12) && decide (((k.srcS k.x.vd).extractLsb' 32 21).toNat ≠ 0))) = false := by
  rw [bits_eq_zero (hi := 31) h.auxLow, bits_eq_zero (hi := 63) h.auxHigh]
  exact Bool.and_eq_false_imp.mpr fun hplane => by simp [h.unscaled (of_decide_eq_true hplane)]

theorem Ctx.copym_of_allowed {plane : Option Nat} (hbow : k.s.holdsBow k.cid = true) (hidle : k.arrayBusy = false)
    (h : k.CopymAllowed route plane) :
    k.copym route = k.startCopy (k.newCopym route) (k.srcS k.x.sa).toNat ((k.srcS k.x.sb).toNat % 2 ^ 32) (k.srcS k.x.sc).toNat := by
  obtain ⟨hrange, halign⟩ := Option.or_eq_none_iff.mp h.streams
  have hscale : bits (k.srcS k.x.vd).toNat 52 32 = ((k.srcS k.x.vd).extractLsb' 32 21).toNat := bits_toNat ..
  have hprm : BitVec.ofNat 64 (bits (k.srcS k.x.vd).toNat 22 0) = ((k.srcS k.x.vd).extractLsb' 0 23).setWidth 64 := by
    rw [bits_toNat]; exact BitVec.ofNat_toNat ..
  have hrows : bits (k.srcS k.x.vd).toNat 15 8 = ((k.srcS k.x.vd).extractLsb' 8 8).toNat := bits_toNat ..
  have hwindow : (decide (2 ^ 21 ≤ (k.srcS k.x.sb).toNat % 2 ^ 32)
      || !k.winFits [k.c.group] ((k.srcS k.x.sb).toNat % 2 ^ 32) (k.srcS k.x.sc).toNat) = false := by
    rw [h.fits, decide_eq_false (Nat.not_le.mpr h.low)]; rfl
  simp only [Ctx.copym, Ctx.onArray, hbow, hidle, h.loaded, hscale, hprm, hrows, h.aux_good, hwindow, hrange, halign,
    Nat.not_lt.mpr h.enough, h.alignedGlobal, h.alignedLength, routeDead_getD h.reached, Bool.not_true, ne_eq, not_true_eq_false,
    Bool.false_eq_true, if_false]
  rfl

end

/-! ## The statement -/

/-- Settles O33: past its checks a copy is an operation that takes effect at the cell, which the copy's start performs. -/
theorem copyInstructions : Obligations.CopyInstructions := by
  intro s k x route rs aux sa sb n out mc fill starts mine copies plane scale rows streams
  have hstarts {c : Copy} {o : Out} (ho : o = .next (k.engine (.copy c sa sb n) (fun id s => s.beginCopy k.cid id c sa sb n))) : starts c o :=
    ⟨fun hbusy => ho.trans (congrArg _ (Ctx.engine_busy hbusy)), fun hidle => ho.trans (congrArg _ (Ctx.engine_idle hidle))⟩
  have hcopies {i : Instr} {far : Option Word} (hfields : xFieldsOf i = some x)
      (hexec : s.issuer i = some k → exec i s = .next (k.copy far)) : copies i far := by
    intro hi hmulti hsingle hwindow hsa hsb hn hroute
    replace hexec := hexec hi
    obtain ⟨rfl, rfl⟩ := issuer_fields_state hfields hi
    rw [Ctx.copy_of_allowed ⟨hmulti, hsingle, hwindow, hsa, hsb, hn, hroute⟩] at hexec
    exact ⟨fun hzero => hexec.trans (congrArg _ (if_pos hzero)), fun hsome => hstarts (hexec.trans (congrArg _ (if_neg hsome)))⟩
  have hstreams {i : Instr} {far : Option Word} (hfields : xFieldsOf i = some x)
      (hexec : s.issuer i = some k → exec i s = .next (k.copym far)) : streams i far := by
    intro hi
    replace hexec := hexec hi
    obtain ⟨rfl, rfl⟩ := issuer_fields_state hfields hi
    refine ⟨fun hbow => hexec.trans (congrArg _ (Ctx.copym_wants hbow)), ?_⟩
    intro hbow hidle hauxLow hauxHigh hscale hlow hfits hstream henough hsa hn hroute
    rw [Ctx.copym_of_allowed hbow hidle ⟨rfl, hauxLow, hauxHigh, hscale, hlow, hfits, hstream, henough, hsa, hn, hroute⟩] at hexec
    exact hstarts hexec
  exact ⟨hcopies rfl fun hi => (exec_copyX x s).trans (withIssue_issuer hi), hcopies rfl fun hi => (exec_copyXl x route s).trans (withIssue_issuer hi),
    hstreams rfl fun hi => (exec_copymX x s).trans (withIssue_issuer hi), hstreams rfl fun hi => (exec_copymXl x route s).trans (withIssue_issuer hi)⟩

end Sys2Proof.Machine
end

section
/-! The events of the bow, the tile evaluator and the copy engine (11 R324 to R337, 18 R505, R514 to R518). -/
namespace Sys2Proof.Machine

theorem exec_bowGrant (s : State) : exec .bowGrant s = execBowGrant s := rfl
theorem exec_nodeEvaluate (s : State) : exec .nodeEvaluate s = execNodeEvaluate s := rfl
theorem exec_copySegmentComplete (s : State) : exec .copySegmentComplete s = execCopySegmentComplete s := rfl
theorem exec_multicastFillLand (s : State) : exec .multicastFillLand s = execMulticastFillLand s := rfl
theorem exec_copymFollowOn (s : State) : exec .copymFollowOn s = execCopymFollowOn s := rfl

section
variable {s : State}

/-! ## BOW_GRANT -/

/-- No resident group of a cell holds its bow (R333). -/
def State.BowFree (s : State) (cell : Nat) : Prop := ∀ p ∈ s.groups, cellKey p.2.bench p.2.cell = cell → p.2.saved = false → p.2.holder = none

theorem State.bowFree_iff {cell : Nat} :
    s.BowFree cell ↔ s.groups.any (fun p => decide (cellKey p.2.bench p.2.cell = cell) && !p.2.saved && p.2.holder.isSome) = false := by
  simp [State.BowFree, List.any_eq_false]

theorem State.grantBow_held {cell : Nat} (h : ¬ s.BowFree cell) : s.grantBow cell = s :=
  if_pos ((Bool.not_eq_false _).mp (mt State.bowFree_iff.mpr h))

theorem State.grantBow_nobody {cell : Nat} (h : s.BowFree cell) (hnone : (s.cell cell).bowQueue.find? s.bowTurn = none) :
    s.grantBow cell = s := by
  simp only [State.grantBow, State.bowFree_iff.mp h, Bool.decide_eq_true, hnone, Bool.false_eq_true, if_false]

theorem State.grantBow_next {cell : Nat} {e : Nat × Nat} (h : s.BowFree cell) (he : (s.cell cell).bowQueue.find? s.bowTurn = some e) :
    let u := s.setCell cell { s.cell cell with bowQueue := (s.cell cell).bowQueue.filter (· ≠ e) }
    s.grantBow cell = (u.setGroup e.1 { s.group e.1 with holder := some e.2 }).enterArray e.1 := by
  simp only [State.grantBow, State.bowFree_iff.mp h, Bool.decide_eq_true, he, Bool.false_eq_true, if_false]
  rfl

theorem bowGrant_grants {cell : Nat} (harg : s.arg = .nat cell 0 0) : execBowGrant s = .next (s.grantBow cell) := by
  rw [execBowGrant, harg]

/-! ## NODE_EVALUATE -/

theorem nodeEvaluate_saved {gk : Nat} (harg : s.arg = .nat gk 0 0) (h : (s.group gk).saved = true) : execNodeEvaluate s = .next s := by
  simp only [execNodeEvaluate, harg, h, if_true]

theorem nodeEvaluate_serves {gk : Nat} (harg : s.arg = .nat gk 0 0) (h : (s.group gk).saved = false) :
    execNodeEvaluate s = .next ((s.group gk).demands.foldl
      (fun s d => if (s.group gk).demands.any (fun e => e.batch = d.batch) then s.serve gk d else s) (s.retryNodes gk)) := by
  simp only [execNodeEvaluate, harg, h, Bool.false_eq_true, if_false]

end

/-! ## Segments -/

section
variable {s : State} {n i : Nat} {c : Copy} {x : Seg}

/-- A copy has a segment that is not done. -/
structure State.SegOpen (s : State) (n i : Nat) (c : Copy) (x : Seg) : Prop where
  copy : tget s.copies n = some c
  seg : c.segs.find? (fun x => x.id = i) = some x
  unfinished : x.done = false

theorem copySegmentComplete_stops (harg : s.arg = .nat n i 0) (h : s.SegOpen n i c x) (hstop : x.parked = true ∨ (s.group c.group).saved = true) :
    execCopySegmentComplete s = .next s := by
  obtain ⟨hcopy, hseg, hdone⟩ := h
  rcases hstop with hstop | hstop <;> simp [execCopySegmentComplete, harg, hcopy, hseg, hdone, hstop]

/-- No further segment begins while the group's undo waits (07 R213). [DEDUCED, log 57] -/
theorem copySegmentComplete_stays (harg : s.arg = .nat n i 0) (h : s.SegOpen n i c x) (hpark : x.parked = false)
    (hsaved : (s.group c.group).saved = false) (hstays : ((s.group c.group).undo.isSome && !x.underWay) = true) :
    execCopySegmentComplete s = .next (s.postOnce (s.now + 1) .copySegmentComplete (.nat n i 0)) := by
  obtain ⟨hcopy, hseg, hdone⟩ := h
  simp only [execCopySegmentComplete, harg, hcopy, hseg, hdone, hpark, hsaved, hstays, Bool.or_self, Bool.false_eq_true, if_false, if_true]

theorem copySegmentComplete_steps (harg : s.arg = .nat n i 0) (h : s.SegOpen n i c x) (hpark : x.parked = false)
    (hsaved : (s.group c.group).saved = false) (hstays : ((s.group c.group).undo.isSome && !x.underWay) = false) (hbatch : c.batch = none) :
    execCopySegmentComplete s = .next (s.segStep n x) := by
  obtain ⟨hcopy, hseg, hdone⟩ := h
  simp only [execCopySegmentComplete, harg, hcopy, hseg, hdone, hpark, hsaved, hstays, hbatch, Bool.or_self, Bool.false_eq_true, if_false]

theorem copySegmentComplete_stores {b : Nat} {d : Demand} (harg : s.arg = .nat n i 0) (h : s.SegOpen n i c x) (hpark : x.parked = false)
    (hsaved : (s.group c.group).saved = false) (hstays : ((s.group c.group).undo.isSome && !x.underWay) = false) (hbatch : c.batch = some b)
    (hd : (s.group c.group).demands.find? (fun d => d.batch = b) = some d) :
    execCopySegmentComplete s = .next (s.storeStep n x d ((d.store.map (·.1)).getD {})) := by
  obtain ⟨hcopy, hseg, hdone⟩ := h
  simp only [execCopySegmentComplete, harg, hcopy, hseg, hdone, hpark, hsaved, hstays, hbatch, hd, Bool.or_self, Bool.false_eq_true, if_false]

/-! ## MULTICAST_FILL_LAND -/

variable {gk : Nat}

theorem multicastFillLand_landed (harg : s.arg = .nat n i gk) (h : s.SegOpen n i c x) (hleft : gk ∉ x.left) :
    execMulticastFillLand s = .next s := by
  obtain ⟨hcopy, hseg, hdone⟩ := h
  simp [execMulticastFillLand, harg, hcopy, hseg, hleft]

theorem multicastFillLand_waits (harg : s.arg = .nat n i gk) (h : s.SegOpen n i c x) (hleft : gk ∈ x.left)
    (hfull : s.fifoLate c x gk = true ∨ s.landBytes gk x.off c.bd x.data = none) :
    execMulticastFillLand s = .next (s.post (s.now + 1) .multicastFillLand (.nat n i gk)) := by
  obtain ⟨hcopy, hseg, hdone⟩ := h
  rcases hfull with hlate | hroom
  · simp [execMulticastFillLand, harg, hcopy, hseg, hdone, hleft, hlate]
  · simp [execMulticastFillLand, harg, hcopy, hseg, hdone, hleft, hroom]

/-- A granule that a segment of a copy lies in goes back to a receiver's courses, if the copy still holds it there (R517). -/
def State.returnGranule (s : State) (n gk : Nat) (x : Seg) : State :=
  if s.holder gk (x.off / 4096) = some (.copy n) then s.flipToCourse gk (x.off / 4096) else s

theorem multicastFillLand_lands {u : State} (harg : s.arg = .nat n i gk) (h : s.SegOpen n i c x) (hleft : gk ∈ x.left)
    (hturn : s.fifoLate c x gk = false) (hland : s.landBytes gk x.off c.bd x.data = some u) :
    let v := u.returnGranule n gk x
    let left := x.left.filter (· ≠ gk)
    execMulticastFillLand s
      = .next (if left = [] then v.segDone n { x with left } [] else (v.setCopy n ((v.copy n).setSeg { x with left })).settleBoundaries) := by
  obtain ⟨hcopy, hseg, hdone⟩ := h
  intro v left
  have hopen : (x.done || !x.left.contains gk) = false := by simp [hdone, hleft]
  have hlanded : execMulticastFillLand s = if left.isEmpty then .next (v.segDone n { x with left } [])
      else .next ((v.setCopy n ((v.copy n).setSeg { x with left })).settleBoundaries) := by
    simp only [execMulticastFillLand, harg, hcopy, hseg, hopen, hturn, hland, Bool.false_eq_true, if_false]
    rfl
  simp only [hlanded, apply_ite Host.Outcome.next, List.isEmpty_iff]

end

/-! ## COPYM_FOLLOW_ON -/

section
variable {s : State} {n : Nat} {c : Copy}

theorem copymFollowOn_nothing (harg : s.arg = .nat n 0 0) (hcopy : tget s.copies n = some c)
    (h : c.follow = none ∨ ∃ x ∈ c.segs, x.done = false) : execCopymFollowOn s = .next s := by
  rcases h with h | h
  · simp only [execCopymFollowOn, harg, hcopy, h]
  · have hopen : (!c.segs.all (·.done)) = true := by simpa using h
    cases hfollow : c.follow with
    | none => simp only [execCopymFollowOn, harg, hcopy, hfollow]
    | some f => simp only [execCopymFollowOn, harg, hcopy, hfollow, hopen, if_true]

variable (s n c) (t : Nat) (sb aux : Word)

/-- The rows of the stream that follows a COPYM (R518). -/
def followRows (aux : Word) : Nat := (aux.extractLsb' 8 8).toNat + 1

/-- The format of the plane that the stream meets. -/
def State.followPlane : Option Nat := (s.cell (cellKey c.bench c.cell)).plane.fmt

/-- The scales that the stream reads from a CB4 plane. -/
def State.followScale : Option Nat := if s.followPlane c = some 12 then some (aux.extractLsb' 32 21).toNat else none

/-- Does an instruction use the array? -/
def Pend.usesArray (p : Pend) : Bool :=
  match p.act with
  | .array _ => true
  | _ => false

/-- Have the array instructions before the first BPASS left (R332)? -/
def State.followFirst : Bool :=
  ((s.course c.course).pends.takeWhile (fun p => p.act ≠ .array .pass)).all (fun p => !p.usesArray)

/-- Are the granules of the stream's operands ready? -/
def State.followIdle : Bool :=
  s.operandIdle c.course sb.toNat (followRows aux * planeK ((s.followPlane c).getD 0) * typeSize t) none
    && ((s.followScale c aux).map (fun a => s.operandIdle c.course a (4 * followRows aux) none)).getD true

/-- The stream, as the holder of the bow issues it. -/
def State.followStream : State × Option ArrayStop :=
  s.stream c.course c.pc c.trapmask t (aux.getLsbD 23) sb.toNat (aux.extractLsb' 0 8).toNat (followRows aux) (aux.extractLsb' 16 7).toNat
    (s.followScale c aux)

/-- The state after the stream, in which its copy is gone. -/
def State.streamed : State := { (s.followStream c t sb aux).1 with copies := tdel (s.followStream c t sb aux).1.copies n }

/-- What a stream ends in: its COPYM is done or meets what stops it. -/
def State.endFollow (x : Option ArrayStop) : Out :=
  match x, (s.course c.course).pend c.pend with
  | some x, some p => .next (s.arrayStop c.course p x)
  | some _, none => .next s
  | none, _ => .next ((s.endPend c.course c.pend).settleBoundaries)

variable {s n c t sb aux}

theorem State.endFollow_done {x : Option ArrayStop} (h : x = none) :
    s.endFollow c x = .next ((s.endPend c.course c.pend).settleBoundaries) := by
  rw [h]; rfl

theorem State.endFollow_stopped {o : Option ArrayStop} {x : ArrayStop} {p : Pend} (h : o = some x) (hp : (s.course c.course).pend c.pend = some p) :
    s.endFollow c o = .next (s.arrayStop c.course p x) := by
  subst h
  simp only [State.endFollow, hp]

/-- Every segment of a COPYM has landed, and its stream follows. -/
structure State.Follows (s : State) (n : Nat) (c : Copy) (t : Nat) (sb aux : Word) : Prop where
  copy : tget s.copies n = some c
  landed : ∀ x ∈ c.segs, x.done = true
  follow : c.follow = some (t, sb, aux)

/-- A follow-on in the order of its conditions: a group in its cell, the bow, the stream's turn. -/
theorem copymFollowOn_eq (harg : s.arg = .nat n 0 0) (h : s.Follows n c t sb aux) :
    execCopymFollowOn s =
      if (s.group c.group).saved then .next (s.post (s.now + 1) .copymFollowOn (.nat n 0 0))
      else if !s.holdsBow c.course then .next ((s.wantBow c.course).post (s.now + 1) .copymFollowOn (.nat n 0 0))
      else if !(s.followFirst c && s.followIdle c t sb aux) then .next (s.post (s.now + 1) .copymFollowOn (.nat n 0 0))
      else (s.streamed n c t sb aux).endFollow c (s.followStream c t sb aux).2 := by
  obtain ⟨hcopy, hdone, hfollow⟩ := h
  have hall : (!c.segs.all (·.done)) = false := by simpa using hdone
  have hwaits : (!(s.followFirst c && s.followIdle c t sb aux))
      = (((s.course c.course).pends.takeWhile (fun p => p.act ≠ .array .pass)).any Pend.usesArray || !s.followIdle c t sb aux) := by
    rw [Bool.not_and, State.followFirst, List.not_all_eq_any_not]
    simp only [Bool.not_not]
  rw [hwaits]
  simp only [execCopymFollowOn, harg, hcopy, hfollow, hall, Bool.false_eq_true, if_false]
  rfl

theorem copymFollowOn_saved (harg : s.arg = .nat n 0 0) (h : s.Follows n c t sb aux) (hsaved : (s.group c.group).saved = true) :
    execCopymFollowOn s = .next (s.post (s.now + 1) .copymFollowOn (.nat n 0 0)) :=
  (copymFollowOn_eq harg h).trans (if_pos hsaved)

theorem copymFollowOn_wants (harg : s.arg = .nat n 0 0) (h : s.Follows n c t sb aux) (hsaved : (s.group c.group).saved = false)
    (hbow : s.holdsBow c.course = false) :
    execCopymFollowOn s = .next ((s.wantBow c.course).post (s.now + 1) .copymFollowOn (.nat n 0 0)) := by
  simp only [copymFollowOn_eq harg h, hsaved, hbow, Bool.not_false, Bool.false_eq_true, if_false, if_true]

theorem copymFollowOn_waits (harg : s.arg = .nat n 0 0) (h : s.Follows n c t sb aux) (hsaved : (s.group c.group).saved = false)
    (hbow : s.holdsBow c.course = true) (hready : (s.followFirst c && s.followIdle c t sb aux) = false) :
    execCopymFollowOn s = .next (s.post (s.now + 1) .copymFollowOn (.nat n 0 0)) := by
  simp only [copymFollowOn_eq harg h, hsaved, hbow, hready, Bool.not_true, Bool.not_false, Bool.false_eq_true, if_false, if_true]

theorem copymFollowOn_streams (harg : s.arg = .nat n 0 0) (h : s.Follows n c t sb aux) (hsaved : (s.group c.group).saved = false)
    (hbow : s.holdsBow c.course = true) (hready : (s.followFirst c && s.followIdle c t sb aux) = true) :
    execCopymFollowOn s = (s.streamed n c t sb aux).endFollow c (s.followStream c t sb aux).2 := by
  simp only [copymFollowOn_eq harg h, hsaved, hbow, hready, Bool.not_true, Bool.false_eq_true, if_false]

end

/-! ## The statement -/

/-- Settles O43: each event does what the unit that it names has come to: a cell's bow, a group's demands, a segment, a follow-on. -/
theorem engineEvents : Obligations.EngineEvents := by
  intro s cell gk n i c x waits free copied stays seg
  have hopen (h : seg) : s.SegOpen n i c x := ⟨h.1, h.2.1, h.2.2⟩
  refine ⟨?_, ?_, ?_, ?_, ?_, ?_, ?_, ?_, ?_, ?_, ?_, ?_, ?_⟩
  · exact fun harg hheld => (bowGrant_grants harg).trans (congrArg _ (State.grantBow_held hheld))
  · exact fun harg hfree hnone => (bowGrant_grants harg).trans (congrArg _ (State.grantBow_nobody hfree hnone))
  · exact fun e harg hfree he => (bowGrant_grants harg).trans (congrArg _ (State.grantBow_next hfree he))
  · exact nodeEvaluate_saved
  · exact nodeEvaluate_serves
  · exact fun harg hseg hpark hsaved hstays hbatch => copySegmentComplete_steps harg (hopen hseg) hpark hsaved hstays hbatch
  · exact fun harg hseg hpark hsaved hstays => copySegmentComplete_stays harg (hopen hseg) hpark hsaved hstays
  · exact fun harg hseg hstop => copySegmentComplete_stops harg (hopen hseg) hstop
  · exact fun harg hseg hpark hsaved hstays b d hbatch hd => copySegmentComplete_stores harg (hopen hseg) hpark hsaved hstays hbatch hd
  · exact fun harg hseg hleft => multicastFillLand_landed harg (hopen hseg) hleft
  · exact fun harg hseg hleft => ⟨multicastFillLand_waits harg (hopen hseg) hleft, fun u => multicastFillLand_lands harg (hopen hseg) hleft⟩
  · exact copymFollowOn_nothing
  · intro harg hcopy hdone t sb aux hfollow plane rows len scale array first idle may ready r u
    have h : s.Follows n c t sb aux := ⟨hcopy, hdone, hfollow⟩
    refine ⟨?_, copymFollowOn_wants harg h, ?_, ?_⟩
    · rintro (hsaved | ⟨⟨hsaved, hbow⟩, hnot⟩)
      · exact copymFollowOn_saved harg h hsaved
      · exact copymFollowOn_waits harg h hsaved hbow
          (Bool.eq_false_iff.mpr fun hready => hnot ⟨⟨hsaved, hbow⟩, Bool.and_eq_true_iff.mp hready⟩)
    · rintro ⟨⟨hsaved, hbow⟩, hready⟩ hclean
      refine (copymFollowOn_streams harg h hsaved hbow (Bool.and_eq_true_iff.mpr hready)).trans ?_
      exact State.endFollow_done hclean
    · rintro x p ⟨⟨hsaved, hbow⟩, hready⟩ hstop hp
      refine (copymFollowOn_streams harg h hsaved hbow (Bool.and_eq_true_iff.mpr hready)).trans ?_
      exact State.endFollow_stopped hstop hp

end Sys2Proof.Machine
end
